-- ==== Sys2Proof/Word.lean ====
section
/-! DEFINITION. The bit-vector names of the part: a byte of a frame, a cell tag (0 to 255, one more
modulo 256 each time, R46), and the 16-bit and 32-bit words of the frames and the counters. Every other
number of the manual is a count, an index or a key and is a `Nat` or a `Fin`. -/

namespace Sys2Proof

/-- One character of the host link, or the data of one character of the station bus. -/
abbrev Byte := BitVec 8

/-- The tag of a cell, 0 to 255, counted modulo 256 (R46). -/
abbrev Tag := BitVec 8

/-- A 16-bit word: the frame check (12.1) and a received body length. -/
abbrev Word16 := BitVec 16

/-- A tally counter's value and threshold, which wrap at 2^32 (R185). -/
abbrev Word32 := BitVec 32

end Sys2Proof
end

