-- ==== Sys2Proof/Syntax.lean ====
section
/-! DEFINITION. The commands of the block: one constructor for each row of spec/opcode_table.json, with
the row's operands. A row that the part takes from one of its own queues (a host request, a reply to be
sent, a bus command) has no operand: what is taken stands in State. A row that is an event from outside
carries what the event brings. -/

namespace Sys2Proof

/-- One character of the station bus: its address-mark bit and its data (R16). -/
structure BusChar where
  mark : Bool
  data : Byte
deriving DecidableEq, Repr

/-- In what order the blocks take one PITCH pulse. R135 lets a phase loss be taken before or after the
track's advance, and lets the line controller take the fault of an earlier loss before or after that
advance. R175 lets a fault be taken before or after the advance that would complete a drain. The spec
allows every order here, so the pulse carries the one that happened (log entry 5). -/
inductive AdvanceOrder
  /-- Phase monitor, its fault, pitch track, line controller. -/
  | phaseThenTrack
  /-- Phase monitor, pitch track, the phase fault, line controller. -/
  | phaseFaultAfterTrack
  /-- Pitch track, phase monitor and its fault, line controller. -/
  | trackThenPhase
  /-- Pitch track, line controller, phase monitor and its fault. -/
  | trackThenLine
deriving DecidableEq, Repr

/-- The commands. Each docstring names the rule of spec/ that the row of the table names. -/
inductive Instr
  /-- PART_RESET (R168): power-on or NRST. -/
  | partReset
  /-- FRAME_COMPLETE (R193): the last CRC byte is received; `bytes` are the bytes of the frame after its
  start character, the two CRC bytes included. -/
  | frameComplete (bytes : List Byte)
  /-- FRAME_TRUNCATED (R192): more than 20 ms without a character; `received` are the bytes of the frame
  received after its start character. -/
  | frameTruncated (received : List Byte)
  /-- FRAME_CHECK_ERROR (R192): a character without its stop bit. -/
  | frameCheckError
  /-- FRAME_LENGTH_ERROR (R192): a received body length above 2400, known at the request number byte. -/
  | frameLengthError (bodyLength : Word16) (kind number : Byte)
  /-- REJECT (R194): the rejected entry at the head of the receive queue is taken. -/
  | reject
  /-- OVERFLOW (R194): the head of the overflow list is taken. -/
  | overflow
  /-- LOAD (R23). -/
  | load
  /-- PURGE (R35). -/
  | purge
  /-- VERSION_SET (R40). -/
  | versionSet
  /-- VERSION_CLEAR (R41). -/
  | versionClear
  /-- STATION_SET (R2). -/
  | stationSet
  /-- STATION_CLEAR (R3). -/
  | stationClear
  /-- STATION_RESTORE (R11). -/
  | stationRestore
  /-- PARAM_SET (R198). -/
  | paramSet
  /-- LINE_START (R171). -/
  | lineStart
  /-- LINE_DRAIN (R174). -/
  | lineDrain
  /-- LINE_STOP (R176). -/
  | lineStop
  /-- LINE_HOLD (R170). -/
  | lineHold
  /-- LINE_RESUME (R170). -/
  | lineResume
  /-- FAULT_CLEAR (R180). -/
  | faultClear
  /-- JOB_RESET (R181). -/
  | jobReset
  /-- STOP_POINT_SET (R83). -/
  | stopPointSet
  /-- STOP_POINT_CLEAR (R84). -/
  | stopPointClear
  /-- PROOF (R85). -/
  | proof
  /-- RESTEP (R119). -/
  | restep
  /-- BUNDLE_CLOSE (R165). -/
  | bundleClose
  /-- COUNTER_SET (R184). -/
  | counterSet
  /-- COUNTER_CLEAR (R190). -/
  | counterClear
  /-- COUNTER_UNFREEZE (R189). -/
  | counterUnfreeze
  /-- STATUS_READ (R199). -/
  | statusRead
  /-- CELL_READ (R68). -/
  | cellRead
  /-- QUEUE_READ (R39). -/
  | queueRead
  /-- STATION_READ (R13). -/
  | stationRead
  /-- BUNDLE_READ (R167). -/
  | bundleRead
  /-- COUNTER_READ (R191). -/
  | counterRead
  /-- TRANSMIT_REPLY (R195). -/
  | transmitReply
  /-- TRANSMIT_NOTICE (R196). -/
  | transmitNotice
  /-- TRANSMIT_REPORT (R197). -/
  | transmitReport
  /-- SEND_COMMAND (R17). -/
  | sendCommand
  /-- SEND_IDENTITY_REQUEST (R10). -/
  | sendIdentityRequest
  /-- SEND_POLL (R18). -/
  | sendPoll
  /-- GOOD_ANSWER (R21): the characters of the answer to the frame in progress. -/
  | goodAnswer (answer : List BusChar)
  /-- ANSWER_TIMEOUT (R16): no first character within 400 µs. -/
  | answerTimeout
  /-- ANSWER_CHECK_FAIL (R16): the answer fails its check. -/
  | answerCheckFail
  /-- PITCH_ADVANCE (R48): one pulse on PITCH, taken by the blocks in the order given. -/
  | pitchAdvance (order : AdvanceOrder)
  /-- CHAIN_WRAP (R129): the phase monitor's share of the pulse at which the chain count reaches C. -/
  | chainWrap
  /-- WINDOW_END (R187): the window of one counter ends. -/
  | windowEnd (counter : Fin 8)
  /-- HOME_MARK (R130): HOME changes to asserted. -/
  | homeMark
  /-- ESTOP (R178): ESTOP changes to asserted. -/
  | estop
  /-- DRIVE_START (R173): the start timer expires. -/
  | driveStart
  /-- DRIVE_STOP (R176): the stop timer expires. -/
  | driveStop
  /-- ESTOP_RELEASE (R178): ESTOP changes to released. -/
  | estopRelease
  /-- HOME_RELEASE (R130): HOME changes to released. -/
  | homeRelease
  /-- FRAME_START (R192): a 0x5A byte is received. -/
  | frameStart
  /-- FRAME_SENT (R195): the transmitter finishes its frame. -/
  | frameSent
deriving DecidableEq, Repr

end Sys2Proof
end

