-- ==== Sys2Proof/Machine/Bytes.lean ====
section
/-! DEFINITION. Numbers as bytes, most significant byte first (12.1, 12.7), and the CRC-16 of both links. -/

namespace Sys2Proof.Machine

/-- A number in one byte. -/
def nat1 (n : Nat) : List Byte := [BitVec.ofNat 8 n]

/-- A number in two bytes, most significant first. -/
def nat2 (n : Nat) : List Byte := [BitVec.ofNat 8 (n / 256), BitVec.ofNat 8 n]

/-- A number in four bytes, most significant first. -/
def nat4 (n : Nat) : List Byte := nat2 (n / 65536) ++ nat2 n

/-- The number that some bytes spell, most significant first. -/
def natOf (bytes : List Byte) : Nat := bytes.foldl (fun n b => n * 256 + b.toNat) 0

/-- A flag in one byte (R200). -/
def flag (b : Bool) : List Byte := nat1 (if b then 1 else 0)

/-- A field that may be absent and whose range includes 0: 0 when absent, else 1 and the field (R200). -/
def optional {α : Type} (layout : α → List Byte) : Option α → List Byte
  | none => nat1 0
  | some a => nat1 1 ++ layout a

/-- A field that may be absent and whose range excludes 0: 0 when absent (R200). -/
def orZero (o : Option Nat) : Nat := o.getD 0

/-- A list: a count of 1 byte, then its entries in their order (R200). -/
def listed {α : Type} (layout : α → List Byte) (l : List α) : List Byte :=
  nat1 l.length ++ l.flatMap layout

/-- One bit of the CRC: polynomial 0x1021, not reflected (12.1). -/
def crcBit (crc : Word16) : Word16 :=
  if crc.msb then (crc <<< 1) ^^^ 0x1021#16 else crc <<< 1

/-- One byte of the CRC (12.1). -/
def crcByte (crc : Word16) (b : Byte) : Word16 :=
  (List.range 8).foldl (fun c _ => crcBit c) (crc ^^^ (b.setWidth 16 <<< 8))

/-- The CRC-16 of the frame envelope: initial value 0xFFFF, no final inversion (12.1). The station bus
uses the same one (12.7). -/
def crc16 (bytes : List Byte) : Word16 := bytes.foldl crcByte 0xFFFF#16

/-- The two CRC bytes as they are sent (12.1). -/
def crcBytes (bytes : List Byte) : List Byte := nat2 (crc16 bytes).toNat

end Sys2Proof.Machine
end

