-- ==== Sys2Proof/Machine/State.lean ====
section
/-! DEFINITION. The state of the part, as plain data: every piece of state the spec gives each of its
thirteen blocks, the two level inputs, and the queue of commands that wait. What the spec computes from
other state (usability, S, r, the counts of the intake queue) has no second home here; Machine/Ops.lean
computes it. State.reset is the state right after a part reset. -/

namespace Sys2Proof.Machine

/-! ### Station table (Chapter 1) -/

/-- A slot of the station table; slot number n is the value n - 1. -/
abbrev SlotNo := Fin 16

/-- The nine roles (table 1.1). -/
inductive Role
  | mainFeeder | insertFeeder | printer | carrierFeeder | reader | sealer | gate | stacker | drive
deriving DecidableEq, Repr

/-- The station-reported status values (1.2). -/
inductive Reported
  | ready | lowSupply | jam | guardOpen
deriving DecidableEq, Repr

/-- The recorded status (1.2): a reported value, or the part's own UNKNOWN and SILENT. -/
inductive Recorded
  | unknown | ready | lowSupply | jam | guardOpen | silent
deriving DecidableEq, Repr

/-- The part's judgement of a station (1.3). -/
inductive Health
  | ok | failedFaults | failedNoReports | mismatch
deriving DecidableEq, Repr

/-- The drive's motion (R6). -/
inductive Motion
  | running | stopped
deriving DecidableEq, Repr

/-- A configured slot (table 1.1). `address` is 1 to 30, `position` is 0 to 63 and absent for DRIVE,
`motion` is present for DRIVE only. -/
structure Station where
  role : Role
  address : Nat
  position : Option Nat
  debounce : Bool
  faultLimit : Nat
  recorded : Recorded
  lastReported : Option Reported
  health : Health
  faultCount : Nat
  noReportCount : Nat
  identityPending : Bool
  unanswered : Nat
  lateCount : Nat
  motion : Option Motion
deriving DecidableEq, Repr

/-! ### Station bus (1.5, 12.7) -/

/-- The stacker's instruction with an item (R153). -/
inductive BreakMark
  | none | newBundle | newTray
deriving DecidableEq, Repr

/-- A command for one cell, with the data its frame carries (12.7). -/
inductive CellOrder
  | feed
  | feedCarrier (code : Nat)
  | print (sequence : Nat) (lines : List (List Byte)) (keyline : Option (List Byte))
  | read
  | seal
  | pass
  | divert
  | stack (mark : BreakMark) (bundleSerial traySerial : Nat)
  | setAside
deriving DecidableEq, Repr

/-- What a command orders: something about the cell with a tag, or RUN or STOP of the drive (R19). -/
inductive BusOrder
  | cell (tag : Tag) (order : CellOrder)
  | run
  | stop
deriving DecidableEq, Repr

/-- A command in the transmit queue, with the slot it is for. -/
structure BusCommand where
  slot : SlotNo
  order : BusOrder
deriving DecidableEq, Repr

/-- The three kinds of frame the part sends (1.5). -/
inductive FrameKind
  | command | poll | identity
deriving DecidableEq, Repr

/-- The frame in progress. `slot` is none when the slot has been configured anew or cleared since the
frame began: then its answer is that of a frame without a station (R2, R3). -/
structure BusFrame where
  slot : Option SlotNo
  kind : FrameKind
  address : Nat
  chars : List BusChar
deriving DecidableEq, Repr

/-- The station bus controller (R1, R17 to R19). -/
structure Bus where
  txQueue : List BusCommand
  pollPointer : Nat
  inProgress : Option BusFrame
deriving DecidableEq, Repr

/-- The outcomes a station's result carries (table 1.1, 12.7). -/
inductive StationOutcome
  | fed | miss | double | printed | printFault
  | read (code : Nat)
  | noRead | sealed | sealFault | diverted | passed | stacked | stackFault
deriving DecidableEq, Repr

/-- What a good answer brings (R21): a status with the motion bit, the role code of an identity answer,
and the result of a poll answer. -/
structure StationAnswer where
  status : Reported
  motion : Motion
  roleCode : Option Byte
  result : Option (Tag × StationOutcome)
deriving DecidableEq, Repr

/-! ### Records, intake queue, version table (Chapter 2) -/

/-- Whether a record has been diverted and returned (R22). -/
inductive RecordKind
  | fresh | remake
deriving DecidableEq, Repr

/-- An accepted subscriber record (2.1). -/
structure Record where
  sequence : Nat
  version : Fin 32
  bundleKey : Nat
  trayKey : Nat
  lines : List (List Byte)
  keyline : Option (List Byte)
  attempts : Nat
  kind : RecordKind
deriving DecidableEq, Repr

/-- The intake queue, head first, and the three values LOAD keeps (2.2, R36). The last accepted bundle
key and tray key are present together. -/
structure Intake where
  queue : List Record
  lastSequence : Nat
  lastKeys : Option (Nat × Nat)
deriving DecidableEq, Repr

/-- What a DEFINED version entry holds (2.5). -/
structure VersionDef where
  inserts : List SlotNo
  weight : Nat
  lineCount : Nat
deriving DecidableEq, Repr

/-- A version entry: UNDEFINED when `definition` is none (2.5), with its reference count (R42). -/
structure VersionEntry where
  definition : Option VersionDef
  refCount : Nat
deriving DecidableEq, Repr

/-! ### The pitch track (Chapter 3) -/

/-- What a cell holds (3.1.2). -/
inductive Content
  | empty | offered | void | bound | condemned | proof | passed | diverted
deriving DecidableEq, Repr

/-- The condemn causes (R64). -/
inductive CondemnKind
  | mainDouble | insertMiss | insertDouble | printFault | printNoCredit | carrierNotPrinted
  | carrierMiss | sealFault | verifyMismatch | verifyNoRead | stationUnavailable | noReport
  | busLate | stepLost | phaseLost | movedWhileHalted | gateUnrequested
deriving DecidableEq, Repr

/-- A condemn cause with its station, or with none (R64). -/
structure Condemn where
  kind : CondemnKind
  station : Option SlotNo
deriving DecidableEq, Repr

/-- One entry of a cell's insert set: its slot, and FED or still PENDING (R87). -/
structure Demand where
  slot : SlotNo
  fed : Bool
deriving DecidableEq, Repr

/-- The print state (R94). -/
inductive PrintState
  | none | sent | printed | failed | refused
deriving DecidableEq, Repr

/-- The carrier state (R99 to R102). -/
inductive CarrierState
  | none | fed | missed
deriving DecidableEq, Repr

/-- The verification (R109, R110). -/
inductive Verification
  | none | matched | failed
deriving DecidableEq, Repr

/-- An open exchange: its station and its closing position (R49). -/
structure Exchange where
  slot : SlotNo
  closing : Nat
deriving DecidableEq, Repr

/-- A cell of the track (3.1.2). -/
structure Cell where
  tag : Tag
  content : Content
  proofOffer : Bool
  record : Option Record
  formerSequence : Option Nat
  escaped : Bool
  offerMark : Option Condemn
  fault : Option Condemn
  laterFaults : Nat
  demands : List Demand
  print : PrintState
  carrier : CarrierState
  verification : Verification
  sealed : Bool
  exchanges : List Exchange
deriving DecidableEq, Repr

/-- The pitch track: the cell at index p of `cells` stands at position p (R44, R45). -/
structure Track where
  cells : List Cell
  nextTag : Tag
  printJobs : Nat
  lateCount : Nat
deriving DecidableEq, Repr

/-! ### Binding (Chapter 4) -/

/-- A stop point target (Chapter 4). -/
inductive StopTarget
  | sequence (s : Nat)
  | versionChange
deriving DecidableEq, Repr

/-- The stop point (Chapter 4, R74). -/
inductive StopPoint
  | none
  | armed (target : StopTarget)
  | met (target : StopTarget) (headSequence : Nat)
deriving DecidableEq, Repr

/-- Binding's state (Chapter 4, R69). -/
structure Binding where
  lastKey : Option Nat
  lastVersion : Option (Fin 32)
  keyWaitCount : Nat
  stopPoint : StopPoint
  proofPending : Bool
deriving DecidableEq, Repr

/-! ### Step monitor (Chapter 6) -/

/-- The step states (6.2). -/
inductive StepState
  | notMonitored | proving | inStep | outOfStep
deriving DecidableEq, Repr

/-- A window entry (6.2). -/
inductive StepEntry
  | pass | fail
deriving DecidableEq, Repr

/-- The direction of a slip (R109). -/
inductive Slip
  | upstream | downstream
deriving DecidableEq, Repr

/-- The outcome of a read that is handed to the step monitor (R109, R110). -/
inductive ReadOutcome
  | matched
  | mismatch (slip : Option Slip)
  | noRead
deriving DecidableEq, Repr

/-- The conditions for entering OUT_OF_STEP (6.2). -/
inductive StepCondition
  | threshold | slips | excess | provingFailure | restep
deriving DecidableEq, Repr

/-- The step monitor's state (6.2, R112). `conditions` is a set: each once, in the order above. -/
structure StepMonitor where
  state : StepState
  window : List StepEntry
  slipCount : Nat
  provingCount : Nat
  blockEntered : Nat
  blockFailures : Nat
  blockNoticeRaised : Bool
  blocksCompleted : Nat
  lost : List Tag
  lossCount : Nat
  conditions : List StepCondition
deriving DecidableEq, Repr

/-! ### Chain phase monitor (Chapter 7) -/

/-- The phase states (7.1). -/
inductive PhaseState
  | off | seeking | acquiring | locked | lost
deriving DecidableEq, Repr

/-- The error that made the last entry to LOST (7.1). -/
inductive LossCause
  | missing
  | misplaced (d : Nat)
deriving DecidableEq, Repr

/-- The chain phase monitor's state (7.1, R126). -/
structure PhaseMonitor where
  state : PhaseState
  chainCount : Nat
  sinceMark : Nat
  zeroMark : Bool
  window : List Nat
  lastMisplaced : Option Nat
  restarts : Nat
  lossCount : Nat
  lossCause : Option LossCause
deriving DecidableEq, Repr

/-! ### Bundle builder (Chapter 9) -/

/-- The open bundle record (9.1). -/
structure OpenBundle where
  serial : Nat
  traySerial : Nat
  key : Nat
  items : Nat
  weight : Nat
  first : Option Nat
  last : Option Nat
  split : Bool
  unconfirmed : Nat
deriving DecidableEq, Repr

/-- The open tray record (9.1). -/
structure OpenTray where
  serial : Nat
  key : Nat
  bundles : Nat
  items : Nat
  weight : Nat
  split : Bool
deriving DecidableEq, Repr

/-- The STACK exchange open at the stacker, with the mark and serials sent (R156). -/
structure StackInFlight where
  tag : Tag
  mark : BreakMark
  bundleSerial : Nat
  traySerial : Nat
deriving DecidableEq, Repr

/-- A BUNDLE_CLOSE waiting for the stack in flight (R165). -/
inductive ClosePending
  | none | bundle | bundleAndTray
deriving DecidableEq, Repr

/-- The closure reasons (12.7). -/
inductive ClosureReason
  | bundleKey | trayKey | itemLimit | bundleWeight | trayBundles | trayWeight | drain | host
deriving DecidableEq, Repr

/-- The bundle builder's state (9.1, R152). -/
structure BundleBuilder where
  bundle : Option OpenBundle
  tray : Option OpenTray
  nextBundleSerial : Nat
  nextTraySerial : Nat
  bundleSplitKey : Option Nat
  traySplitKey : Option Nat
  inFlight : Option StackInFlight
  closePending : ClosePending
deriving DecidableEq, Repr

/-! ### Line controller (Chapter 10) -/

/-- The line states (10.1). -/
inductive LineState
  | idle | starting | running | draining | stopping | faulted
deriving DecidableEq, Repr

/-- The fault causes, with the slot or cell tag each carries (10.6). -/
inductive FaultCause
  | estop
  | driveStart
  | driveStop
  | driveHalt (slot : SlotNo)
  | station (slot : SlotNo)
  | phase
  | escape (tag : Tag)
  | unaddressedEscape (tag : Tag)
  | proofEscape (tag : Tag)
  | stackFault (tag : Tag)
  | stackSilent (tag : Tag)
deriving DecidableEq, Repr

/-- The close option of the drain in progress (10.1). -/
inductive DrainOption
  | none | close | noClose
deriving DecidableEq, Repr

/-- The last drive command, and whether its frame has begun to be sent (10.1). -/
inductive DriveOrder
  | none
  | run (sent : Bool)
  | stop (sent : Bool)
deriving DecidableEq, Repr

/-- A drive timer: stopped, or running with the time in milliseconds it was started with (10.1). When it
expires is an event of its own (DRIVE_START, DRIVE_STOP). -/
inductive Timer
  | stopped
  | running (milliseconds : Nat)
deriving DecidableEq, Repr

/-- The causes of the feed suppression set (10.2). COUNTER(n) is the value n - 1. -/
inductive FeedCause
  | hostHold
  | stopPoint
  | step
  | phase
  | backlog
  | station (slot : SlotNo)
  | counter (number : Fin 8)
deriving DecidableEq, Repr

/-- The feed suppression set: one flag for each of its 29 causes, in the order of their bits (R200), so
that equal sets are equal data. -/
abbrev FeedSet := Vector Bool 29

/-- The line controller's state (10.1, R168). -/
structure Line where
  state : LineState
  fault : Option FaultCause
  laterFaults : Nat
  lastLater : Option FaultCause
  drain : DrainOption
  driveOrder : DriveOrder
  startTimer : Timer
  stopTimer : Timer
  feed : FeedSet
  restarted : Bool
deriving DecidableEq, Repr

/-! ### Tally counters (Chapter 11) -/

/-- The events of 11.2, in the order of their codes (12.7). -/
inductive TallyEvent
  | pitchAdvances | offers | binds | gaps | mainMisses | mainDoubles | insertFeeds | insertMisses
  | insertDoubles | prints | printFaults | carrierMisses | matches | mismatches | noReads | slips
  | divertsOfCondemned | escapes | remakesReturned | offlineFinishes | strands | stacked
  | bundlesClosed | lateResults | noReports | busLates | keyWaitGaps
deriving DecidableEq, Repr

/-- What reaching the threshold does (11.1). -/
inductive CounterAction
  | notice | noticeHold
deriving DecidableEq, Repr

/-- Whether counting waits for counter 1 (11.1). -/
inductive StartMode
  | free | afterFirst
deriving DecidableEq, Repr

/-- A counter's setup (11.1). `qualifier` none is the station qualifier 0; `threshold` 0 is none. -/
structure CounterSetup where
  event : TallyEvent
  qualifier : Option SlotNo
  window : Nat
  threshold : Word32
  action : CounterAction
  start : StartMode
deriving DecidableEq, Repr

/-- One tally counter (11.1); unconfigured when `setup` is none. -/
structure Counter where
  setup : Option CounterSetup
  value : Word32
  progress : Nat
  armed : Bool
  started : Bool
  hold : Bool
deriving DecidableEq, Repr

/-- The counter block (11.1); COUNTER_FREEZE is parameter 20. Counter n is the index n - 1. -/
structure Counters where
  all : Vector Counter 8
  frozen : Bool
  source : Option (Fin 8)
deriving DecidableEq, Repr

/-! ### Reports, notices, requests, replies (Chapter 12) -/

/-- The outcomes an ITEM report carries (12.7). -/
inductive ItemOutcome
  | rejected | stacked | offline | escaped
deriving DecidableEq, Repr

/-- The off-line reasons (12.7). -/
inductive OfflineReason
  | attempts | stranded | stackLost
deriving DecidableEq, Repr

/-- The content of an ITEM report (12.7). -/
structure ItemReport where
  sequence : Nat
  outcome : ItemOutcome
  reason : Option OfflineReason
  cause : Option Condemn
  attempts : Nat
  bundleSerial : Option Nat
  unconfirmed : Bool
deriving DecidableEq, Repr

/-- The content of a BUNDLE report (R162). -/
structure BundleReport where
  bundle : OpenBundle
  residual : Bool
  reason : ClosureReason
deriving DecidableEq, Repr

/-- The content of a TRAY report (R163). -/
structure TrayReport where
  tray : OpenTray
  reason : ClosureReason
deriving DecidableEq, Repr

/-- A report of the report queue (R197). -/
inductive Report
  | item (r : ItemReport)
  | bundle (r : BundleReport)
  | tray (r : TrayReport)
deriving DecidableEq, Repr

/-- The content of a LINE notice (R182). -/
structure LineNotice where
  state : LineState
  before : LineState
  fault : Option FaultCause
  laterFaults : Nat
  lastLater : Option FaultCause
  drain : DrainOption
  restarted : Bool
deriving DecidableEq, Repr

/-- The content of a STATION notice for a slot (R12); `station` is none when the slot is unconfigured. -/
structure StationNotice where
  station : Option (Role × Recorded × Health)
  usable : Bool
deriving DecidableEq, Repr

/-- The read that caused an entry to OUT_OF_STEP (R123): its code, the cell's sequence and the slip. -/
structure StepEvidence where
  code : Option Nat
  sequence : Option Nat
  slip : Option Slip
deriving DecidableEq, Repr

/-- The content of a STEP notice (R123). `condemned`, `marked` and `evidence` belong to an entry. -/
structure StepNotice where
  state : StepState
  conditions : List StepCondition
  lossCount : Nat
  fails : Nat
  windowSize : Nat
  slipCount : Nat
  provingCount : Nat
  lostTags : Nat
  condemned : Option Nat
  marked : Option Nat
  evidence : Option StepEvidence
deriving DecidableEq, Repr

/-- The content of a STEP_EXCESS notice (R115). -/
structure StepExcessNotice where
  block : Nat
  failures : Nat
  limit : Nat
deriving DecidableEq, Repr

/-- The content of a PHASE notice (R137). `condemned` and `marked` belong to an entry to LOST. -/
structure PhaseNotice where
  state : PhaseState
  chainLength : Nat
  chainCount : Nat
  window : List Nat
  lossCount : Nat
  lossCause : Option LossCause
  lastMisplaced : Option Nat
  restarts : Nat
  condemned : Option Nat
  marked : Option Nat
deriving DecidableEq, Repr

/-- The content of a PHASE_SHIFT notice (R134). -/
structure PhaseShiftNotice where
  d : Nat
  chainLength : Nat
  state : PhaseState
deriving DecidableEq, Repr

/-- The content of a QUEUE_LOW notice (R38). -/
structure QueueLowNotice where
  fresh : Nat
  room : Nat
  entries : Nat
  lastSequence : Nat
deriving DecidableEq, Repr

/-- How a gate exchange ended (R139, R147). -/
inductive GateOutcome
  | diverted | passed | noReport | busLate
deriving DecidableEq, Repr

/-- The content of a PROOF notice (R147); the check passed when `passed` is true. -/
structure ProofNotice where
  passed : Bool
  tag : Tag
  outcome : GateOutcome
  fault : Option Condemn
  gateHealth : Option Health
  gateStatus : Option Recorded
deriving DecidableEq, Repr

/-- The content of a COUNTER notice (R191). -/
structure CounterNotice where
  setup : CounterSetup
  value : Word32
  added : Bool
  frozen : Bool
  source : Option (Fin 8)
deriving DecidableEq, Repr

/-- A notice: its kind, its subject where the kind has one, and its content (R196). -/
inductive Notice
  | line (n : LineNotice)
  | feed (set : FeedSet)
  | step (n : StepNotice)
  | stepExcess (n : StepExcessNotice)
  | phase (n : PhaseNotice)
  | phaseShift (n : PhaseShiftNotice)
  | queueLow (n : QueueLowNotice)
  | stopPoint (target : StopTarget) (headSequence : Nat)
  | proof (n : ProofNotice)
  | station (slot : SlotNo) (n : StationNotice)
  | counter (number : Fin 8) (n : CounterNotice)
deriving DecidableEq, Repr

/-- A pending notice and the moment it was first raised at (R196). -/
structure PendingNotice where
  notice : Notice
  age : Nat
deriving DecidableEq, Repr

/-- A record as a LOAD request carries it (12.7). -/
structure LoadRecord where
  sequence : Nat
  version : Nat
  bundleKey : Nat
  trayKey : Nat
  lines : List (List Byte)
  keyline : List Byte
deriving DecidableEq, Repr

/-- A request as its frame carries it, every field as the host sent it (12.7). -/
inductive Request
  | load (records : List LoadRecord)
  | purge (fromSequence : Nat)
  | versionSet (version : Nat) (inserts : List Nat) (weight lineCount : Nat)
  | versionClear (version : Nat)
  | stationSet (slot role address position debounce faultLimit : Nat)
  | stationClear (slot : Nat)
  | stationRestore (slot : Nat)
  | paramSet (number value : Nat)
  | lineStart
  | lineDrain (closeOption : Nat)
  | lineStop
  | lineHold
  | lineResume
  | faultClear
  | jobReset
  | stopPointSet (target sequence : Nat)
  | stopPointClear
  | proof
  | restep
  | bundleClose (trayOption : Nat)
  | counterSet (counter event qualifier window threshold action start : Nat)
  | counterClear (counter : Nat)
  | counterUnfreeze
  | statusRead
  | cellRead (position : Nat)
  | queueRead (index : Nat)
  | stationRead (slot : Nat)
  | bundleRead
  | counterRead
deriving DecidableEq, Repr

/-- The causes of a REJECT (12.5). -/
inductive RejectCause
  | check | length | kind | truncated | overflow
deriving DecidableEq, Repr

/-- The result codes (12.5). -/
inductive ResultCode
  | ok | state | busy | full | order | field | version | keys | inUse | station | config | reject
deriving DecidableEq, Repr

/-- An entry of the receive queue (R194). The kind and number of a rejected frame are 0 when they are
not readable. -/
inductive RxEntry
  | request (number : Byte) (r : Request)
  | rejected (cause : RejectCause) (kind number : Byte)
deriving DecidableEq, Repr

/-- A reply of the reply queue (12.7): the request kind and number it answers, its result, and its data
as laid out by R200. -/
structure Reply where
  kind : Byte
  number : Byte
  result : ResultCode
  cause : Option RejectCause
  data : List Byte
deriving DecidableEq, Repr

/-- The state of the receiver (R192). -/
inductive Receiver
  | hunting | inFrame
deriving DecidableEq, Repr

/-- The host link (Chapter 12). `overflow` holds the request number of each dropped frame, `tx` the bytes
of the frame being sent. -/
structure HostLink where
  receiver : Receiver
  rx : List RxEntry
  overflow : List Byte
  discarded : Nat
  replies : List Reply
  reports : List Report
  notices : Vector (Option PendingNotice) 33
  tx : Option (List Byte)
deriving DecidableEq, Repr

/-- The parameters 1 to 20 (12.5). -/
structure Params where
  queueLowMark : Nat
  remakeLimit : Nat
  keyWait : Nat
  stepWindow : Nat
  stepThreshold : Nat
  stepNoreadCounts : Nat
  stepLock : Nat
  stepAuto : Nat
  provingRun : Nat
  excessLimit : Nat
  excessRestep : Nat
  chainLength : Nat
  bundleMaxItems : Nat
  bundleMaxWeight : Nat
  bundleMinItems : Nat
  trayMaxBundles : Nat
  trayMaxWeight : Nat
  driveStartTime : Nat
  driveStopTime : Nat
  counterFreeze : Nat
deriving DecidableEq, Repr

/-! ### The whole part -/

/-- The state of the part. `estop` and `home` are the levels of the two inputs, true for asserted (R178,
R130). `moment` counts the events that may raise a notice and dates the notices (log entry 6).
`freeIndex` picks the next free value (log entry 2). `pending` is the queue of commands that wait. -/
structure State where
  stations : Vector (Option Station) 16
  bus : Bus
  intake : Intake
  versions : Vector VersionEntry 32
  track : Track
  binding : Binding
  step : StepMonitor
  phase : PhaseMonitor
  bundles : BundleBuilder
  line : Line
  counters : Counters
  link : HostLink
  params : Params
  estop : Bool
  home : Bool
  moment : Nat
  freeIndex : Nat
  pending : List Instr
deriving DecidableEq, Repr

/-- Why the model may stop with a fault: never. The spec gives every command an effect and calls nothing
undefined, so no constructor stands here. -/
inductive Fault
deriving DecidableEq, Repr

/-- Why the model may refuse a command. Raised by no meaning: every row of the opcode table has its
meaning. -/
inductive Refusal
  /-- Would be raised by `exec` for a command that has no meaning yet; no arm raises it. Safe. -/
  | notModelled (mnemonic : String)
deriving DecidableEq, Repr

/-- The parameter defaults (12.5, R198). -/
def Params.reset : Params where
  queueLowMark := 64
  remakeLimit := 2
  keyWait := 0
  stepWindow := 8
  stepThreshold := 3
  stepNoreadCounts := 0
  stepLock := 0
  stepAuto := 1
  provingRun := 4
  excessLimit := 20
  excessRestep := 0
  chainLength := 0
  bundleMaxItems := 100
  bundleMaxWeight := 10000
  bundleMinItems := 6
  trayMaxBundles := 20
  trayMaxWeight := 25000
  driveStartTime := 5
  driveStopTime := 10
  counterFreeze := 0

/-- The station bus controller after a part reset (R1). -/
def Bus.reset : Bus := { txQueue := [], pollPointer := 0, inProgress := none }

/-- The intake queue after a part or job reset (R36). -/
def Intake.reset : Intake := { queue := [], lastSequence := 0, lastKeys := none }

/-- Binding after a part or job reset (R69). -/
def Binding.reset : Binding where
  lastKey := none
  lastVersion := none
  keyWaitCount := 0
  stopPoint := .none
  proofPending := false

/-- The step monitor after a reset that leaves it in a given state (R112). -/
def StepMonitor.cleared (state : StepState) : StepMonitor where
  state := state
  window := []
  slipCount := 0
  provingCount := 0
  blockEntered := 0
  blockFailures := 0
  blockNoticeRaised := false
  blocksCompleted := 0
  lost := []
  lossCount := 0
  conditions := []

/-- The phase monitor after a reset that leaves it in a given state (R126). -/
def PhaseMonitor.cleared (state : PhaseState) : PhaseMonitor where
  state := state
  chainCount := 0
  sinceMark := 0
  zeroMark := false
  window := []
  lastMisplaced := none
  restarts := 0
  lossCount := 0
  lossCause := none

/-- The bundle builder after a part or job reset (R152). -/
def BundleBuilder.reset : BundleBuilder where
  bundle := none
  tray := none
  nextBundleSerial := 1
  nextTraySerial := 1
  bundleSplitKey := none
  traySplitKey := none
  inFlight := none
  closePending := .none

/-- An unconfigured counter (R183). -/
def Counter.unconfigured : Counter where
  setup := none
  value := 0
  progress := 0
  armed := false
  started := false
  hold := false

/-- The empty feed suppression set (R168). -/
def FeedSet.empty : FeedSet := Vector.replicate 29 false

/-- The line controller after a part reset (R168), with the restarted mark on the LINE notice. -/
def Line.reset : Line where
  state := .idle
  fault := none
  laterFaults := 0
  lastLater := none
  drain := .none
  driveOrder := .none
  startTimer := .stopped
  stopTimer := .stopped
  feed := FeedSet.empty
  restarted := true

/-- The LINE notice that a part reset raises (R168). The state it names as the one before is IDLE, since
there was none (log entry 9). -/
def LineNotice.reset : LineNotice where
  state := .idle
  before := .idle
  fault := none
  laterFaults := 0
  lastLater := none
  drain := .none
  restarted := true

/-- The host link after a part reset: all empty but for the LINE notice (R192, R194 to R197). -/
def HostLink.reset : HostLink where
  receiver := .hunting
  rx := []
  overflow := []
  discarded := 0
  replies := []
  reports := []
  notices := (Vector.replicate 33 none).set 0 (some { notice := .line LineNotice.reset, age := 0 })
  tx := none

/-- The part right after a part reset with ESTOP and HOME released. -/
def State.reset : State where
  stations := Vector.replicate 16 none
  bus := Bus.reset
  intake := Intake.reset
  versions := Vector.replicate 32 { definition := none, refCount := 0 }
  track := { cells := [], nextTag := 0, printJobs := 0, lateCount := 0 }
  binding := Binding.reset
  step := StepMonitor.cleared .notMonitored
  phase := PhaseMonitor.cleared .off
  bundles := BundleBuilder.reset
  line := Line.reset
  counters := { all := Vector.replicate 8 Counter.unconfigured, frozen := false, source := none }
  link := HostLink.reset
  params := Params.reset
  estop := false
  home := false
  moment := 0
  freeIndex := 0
  pending := []

end Sys2Proof.Machine
end

