-- ==== Sys2Proof/Machine/Flags.lean ====
section
/-! DEFINITION. The flags other blocks raise and read: the feed suppression set (10.2) with its bits
(R200), and the notice set (R196) with its 33 slots and their order. -/

namespace Sys2Proof.Machine

/-- The bit of a cause in the feed suppression set (R200). -/
def FeedCause.bit : FeedCause → Fin 29
  | .hostHold => 0
  | .stopPoint => 1
  | .step => 2
  | .phase => 3
  | .backlog => 4
  | .station n => ⟨5 + n.val, by omega⟩
  | .counter n => ⟨21 + n.val, by omega⟩

/-- A cause stands in the set (R169). -/
def FeedSet.has (f : FeedSet) (c : FeedCause) : Bool := f[c.bit]

/-- The set with a cause in it, or without it (R169). -/
def FeedSet.put (f : FeedSet) (c : FeedCause) (present : Bool) : FeedSet :=
  f.set c.bit.val present c.bit.isLt

/-- No cause stands in the set: binding may offer (R70). -/
def FeedSet.isEmpty (f : FeedSet) : Bool := (List.finRange 29).all fun i => !f[i]

/-- The slot of a notice in the notice set, in the order in which the transmitter takes notices of one
age (R196). -/
def Notice.slot : Notice → Fin 33
  | .line _ => 0
  | .feed _ => 1
  | .step _ => 2
  | .stepExcess _ => 3
  | .phase _ => 4
  | .phaseShift _ => 5
  | .queueLow _ => 6
  | .stopPoint _ _ => 7
  | .proof _ => 8
  | .station n _ => ⟨9 + n.val, by omega⟩
  | .counter n _ => ⟨25 + n.val, by omega⟩

/-- A notice raised at a moment joins what its slot held: an empty slot takes it with that moment as its
age, a pending one takes its content and keeps its age (R196). -/
def PendingNotice.renew (old : Option PendingNotice) (n : Notice) (moment : Nat) : PendingNotice :=
  { notice := n, age := (old.map (·.age)).getD moment }

/-- A notice is raised (R196). -/
def raise (n : Notice) (s : State) : State :=
  let pending := PendingNotice.renew s.link.notices[n.slot] n s.moment
  { s with link := { s.link with notices := s.link.notices.set n.slot.val (some pending) n.slot.isLt } }

/-- The feed suppression set changes, and the FEED notice carries the whole set (R169). -/
def setFeed (f : FeedSet) (s : State) : State :=
  raise (.feed f) { s with line := { s.line with feed := f } }

/-- An owner hands the addition of a cause: nothing happens when it is present already (R169). -/
def addCause (c : FeedCause) (s : State) : State :=
  if s.line.feed.has c then s else setFeed (s.line.feed.put c true) s

/-- An owner hands the removal of a cause: nothing happens when it is absent already (R169). -/
def removeCause (c : FeedCause) (s : State) : State :=
  if s.line.feed.has c then setFeed (s.line.feed.put c false) s else s

/-- A cause is added or removed as a condition says. -/
def putCause (c : FeedCause) (present : Bool) (s : State) : State :=
  if present then addCause c s else removeCause c s

/-- An event that may raise notices begins: what it raises shares one moment, later than every moment
before (R196, log entry 6). -/
def newMoment (s : State) : State := { s with moment := s.moment + 1 }

end Sys2Proof.Machine
end

