-- ==== Sys2Proof/Machine/Ops.lean ====
section
/-! DEFINITION. The operations the blocks share: looking up stations and cells, handing an event to the
tally counters (Chapter 11), queueing a report (R197), commanding the drive, changing the line state and
taking a fault (Chapter 10), and condemning a cell (R63). -/

namespace Sys2Proof.Machine

/-- A count that rises by one and holds at its limit. -/
def bump (limit n : Nat) : Nat := min limit (n + 1)

/-! ### Stations and positions -/

/-- The slots in ascending order. -/
def allSlots : List SlotNo := List.finRange 16

/-- The slot with a slot number, when the number is one of 1 to 16. -/
def slotOf (number : Nat) : Option SlotNo :=
  if h : 1 ≤ number ∧ number ≤ 16 then some ⟨number - 1, by omega⟩ else none

/-- A slot's number. -/
def slotNumber (n : SlotNo) : Nat := n.val + 1

/-- The station in a slot, if the slot is configured. -/
def stationAt (s : State) (n : SlotNo) : Option Station := s.stations[n]

/-- The station table with one slot changed. -/
def putStation (n : SlotNo) (st : Option Station) (s : State) : State :=
  { s with stations := s.stations.set n.val st n.isLt }

/-- The slot is configured with the role. -/
def hasRole (s : State) (r : Role) (n : SlotNo) : Bool := (stationAt s n).any (·.role == r)

/-- The slots configured with a role, in ascending order. -/
def slotsWith (s : State) (r : Role) : List SlotNo := allSlots.filter (hasRole s r)

/-- The slot configured with a role that has at most one (the lowest, when there are more). -/
def slotWith (s : State) (r : Role) : Option SlotNo := (slotsWith s r).head?

/-- The position of the station in a slot. -/
def positionOf (s : State) (n : SlotNo) : Option Nat := (stationAt s n).bind (·.position)

/-- The position of the station with a role. -/
def positionWith (s : State) (r : Role) : Option Nat := (slotWith s r).bind (positionOf s)

/-- The slot of the station that stands at a position. -/
def slotAtPosition (s : State) (p : Nat) : Option SlotNo :=
  allSlots.find? fun n => positionOf s n == some p

/-- A station is usable: health OK and recorded status READY or LOW_SUPPLY (1.4). -/
def Station.usable (st : Station) : Bool :=
  st.health == .ok && (st.recorded == .ready || st.recorded == .lowSupply)

/-- The slot is configured and its station usable (1.4). -/
def usable (s : State) (n : SlotNo) : Bool := (stationAt s n).any Station.usable

/-- S, the stacker position: 63 while no slot is configured STACKER (R44). -/
def stackerPosition (s : State) : Nat := (positionWith s .stacker).getD 63

/-- r, the reader position: the highest position of a slot configured READER (R108). -/
def readerPosition (s : State) : Option Nat :=
  ((slotsWith s .reader).filterMap (positionOf s)).max?

/-- The feeding roles (1.1). -/
def Role.feeding : Role → Bool
  | .mainFeeder | .insertFeeder | .printer | .carrierFeeder | .reader | .sealer => true
  | .gate | .stacker | .drive => false

/-- The disposing roles (1.1). -/
def Role.disposing (r : Role) : Bool := !r.feeding

/-! ### Tally counters (11.4, 11.5) -/

/-- The counter counts at all: FREE, or AFTER_FIRST with started yes (R185, R188). -/
def Counter.running (c : Counter) (u : CounterSetup) : Bool := u.start == .free || c.started

/-- The counter counts an event handed with a slot or none (R185); the block is not frozen. -/
def Counter.counts (e : TallyEvent) (slot : Option SlotNo) (c : Counter) : Bool :=
  match c.setup with
  | some u => u.event == e && (u.qualifier.isNone || u.qualifier == slot) && c.running u
  | none => false

/-- The counter reaches its threshold at an event handed (R186). -/
def Counter.reaches (e : TallyEvent) (slot : Option SlotNo) (c : Counter) : Bool :=
  match c.setup with
  | some u => c.counts e slot && c.armed && u.threshold != 0 && c.value + 1 == u.threshold
  | none => false

/-- The setup has the action NOTICE_HOLD (R186). -/
def Counter.holds (c : Counter) : Bool := c.setup.any (·.action == .noticeHold)

/-- The counter after an event handed: the count, and what reaching the threshold does to it (R185,
R186). -/
def Counter.taking (e : TallyEvent) (slot : Option SlotNo) (c : Counter) : Counter :=
  if c.counts e slot then
    { c with
      value := c.value + 1
      armed := c.armed && !c.reaches e slot
      hold := c.hold || (c.reaches e slot && c.holds) }
  else c

/-- An AFTER_FIRST counter has seen counter 1 reach its threshold (R188). -/
def Counter.starting (c : Counter) : Counter :=
  if c.setup.any (·.start == .afterFirst) then { c with started := true } else c

/-- The counters that reach their thresholds at an event, lowest first (R186). -/
def reached (e : TallyEvent) (slot : Option SlotNo) (cs : Vector Counter 8) : List (Fin 8) :=
  (List.finRange 8).filter fun i => cs[i].reaches e slot

/-- The eight counters after an event: all count, then AFTER_FIRST counters start (R185, R188). -/
def countersAfter (e : TallyEvent) (slot : Option SlotNo) (cs : Vector Counter 8) : Vector Counter 8 :=
  let first := cs[(0 : Fin 8)].reaches e slot
  Vector.ofFn fun i =>
    let c := cs[i].taking e slot
    if first then c.starting else c

/-- A counter that has reached its threshold announces it: the COUNTER notice (R191), and the addition of
COUNTER(n) when its action asks for it and the hold was not set before (R186). -/
def announceCounter (before : Vector Counter 8) (s : State) (i : Fin 8) : State :=
  let c := s.counters.all[i]
  let added := c.holds && !before[i].hold
  match c.setup with
  | some u =>
    let s := raise (.counter i { setup := u, value := c.value, added := added, frozen := s.counters.frozen, source := s.counters.source }) s
    if added then addCause (.counter i) s else s
  | none => s

/-- An event is handed to the counter block, with the slot of the station it carries or none (R185 to
R189). An event handed while frozen is lost. -/
def tally (e : TallyEvent) (slot : Option SlotNo) (s : State) : State :=
  if s.counters.frozen then s
  else
    let before := s.counters.all
    let hits := reached e slot before
    let freezes := s.params.counterFreeze == 1 && !hits.isEmpty
    let s := { s with counters := {
      all := countersAfter e slot before
      frozen := freezes
      source := if freezes then hits.head? else s.counters.source } }
    hits.foldl (announceCounter before) s

/-- The counter's window ends: the value and the progress return to 0 and the threshold is armed again
(R187). -/
def Counter.windowEnded (c : Counter) : Counter :=
  { c with value := 0, progress := 0, armed := c.setup.any (·.threshold != 0) }

/-- The counter's window ends at its next advance (R187). -/
def Counter.windowDue (c : Counter) : Bool :=
  match c.setup with
  | some u => u.window != 0 && c.running u && u.window ≤ c.progress + 1
  | none => false

/-- One advance of the counter's window (R187). -/
def Counter.moveWindow (c : Counter) : Counter :=
  match c.setup with
  | some u =>
    if u.window != 0 && c.running u then
      if u.window ≤ c.progress + 1 then c.windowEnded else { c with progress := c.progress + 1 }
    else c
  | none => c

/-- The windows move at an advance, unless the block is frozen (R187). A window moves only where
the counter ran before the event "pitch advances", too: an AFTER_FIRST counter that this event itself has
started begins its window at the next advance (log entry 10), while one that an earlier event of the same
advance has started (a closure at step 1, "gaps" at step 3) moves its window at this one, the model's
choice (log entry 36). -/
def moveWindows (before : Vector Counter 8) (s : State) : State :=
  if s.counters.frozen then s
  else
    let move (i : Fin 8) : Counter :=
      if s.counters.all[i].setup.any before[i].running then s.counters.all[i].moveWindow
      else s.counters.all[i]
    { s with counters := { s.counters with all := Vector.ofFn move } }

/-- The pitch track hands an advance to the counter block (R48, R187). -/
def tallyAdvance (s : State) : State :=
  moveWindows s.counters.all (tally .pitchAdvances none s)

/-! ### Report queue (R197) -/

/-- A report joins the tail of the report queue, and one that brings the occupancy to 64 adds BACKLOG. -/
def queueReport (r : Report) (s : State) : State :=
  let reports := s.link.reports ++ [r]
  let s := { s with link := { s.link with reports := reports } }
  if reports.length == 64 then addCause .backlog s else s

/-! ### Line state, drive and faults (Chapter 10) -/

/-- The LINE notice for a change of state (R182). -/
def lineNotice (before : LineState) (l : Line) : Notice :=
  .line { state := l.state, before := before, fault := l.fault, laterFaults := l.laterFaults, lastLater := l.lastLater, drain := l.drain, restarted := l.restarted }

/-- The line controller's own state becomes what it is given, and a LINE notice is raised (R182). -/
def changeLine (l : Line) (s : State) : State :=
  raise (lineNotice s.line.state l) { s with line := l }

/-- The command is one for the drive (R19). -/
def BusCommand.forDrive (c : BusCommand) : Bool :=
  match c.order with
  | .run | .stop => true
  | .cell _ _ => false

/-- A drive command joins the tail of the transmit queue, or takes the place of the one queued (R19). -/
def putDriveCommand (c : BusCommand) (q : List BusCommand) : List BusCommand :=
  if q.any (·.forDrive) then q.map fun d => if d.forDrive then c else d else q ++ [c]

/-- RUN or STOP is issued to the drive (R19). -/
def issueDrive (o : BusOrder) (s : State) : State :=
  match slotWith s .drive with
  | some n => { s with bus := { s.bus with txQueue := putDriveCommand { slot := n, order := o } s.bus.txQueue } }
  | none => s

/-- The stop timer starts, STOP is issued and the line enters STOPPING (R175, R176). -/
def enterStopping (s : State) : State :=
  let s := issueDrive .stop s
  changeLine { s.line with
    state := .stopping
    drain := .none
    driveOrder := .stop false
    startTimer := .stopped
    stopTimer := .running (s.params.driveStopTime * 1000) } s

/-- The line is one in which a pulse is a jog advance (R48). -/
def LineState.halted : LineState → Bool
  | .idle | .faulted => true
  | .starting | .running | .draining | .stopping => false

/-- The first fault of a FAULTED period (R179). A queued RUN is removed before STOP is issued, so STOP joins
the tail and does not take RUN's place (log entry 33). -/
def enterFaulted (c : FaultCause) (s : State) : State :=
  let s := { s with bus := { s.bus with txQueue := s.bus.txQueue.filter (·.order != .run) } }
  let stops := (slotWith s .drive).any (usable s)
  let s := if stops then issueDrive .stop s else s
  changeLine { s.line with
    state := .faulted
    fault := some c
    laterFaults := 0
    lastLater := none
    drain := .none
    driveOrder := if stops then .stop false else .none
    startTimer := .stopped
    stopTimer := .stopped } s

/-- A fault handed to the line controller (R179): the first is kept, a later one is counted. -/
def handFault (c : FaultCause) (s : State) : State :=
  if s.line.state = .faulted then
    { s with line := { s.line with laterFaults := bump 255 s.line.laterFaults, lastLater := some c } }
  else enterFaulted c s

/-! ### Cells -/

/-- The cell at a position (3.1.1). -/
def cellAt (s : State) (p : Nat) : Option Cell := s.track.cells[p]?

/-- The track with the cell at a position changed. -/
def modifyCell (p : Nat) (f : Cell → Cell) (s : State) : State :=
  { s with track := { s.track with cells := s.track.cells.modify p f } }

/-- A condemn cause given once more adds a later fault, which holds at 255 (R64). -/
def Cell.laterFault (c : Cell) : Cell := { c with laterFaults := bump 255 c.laterFaults }

/-- The fault is set when absent, else a later fault is added (R63). -/
def Cell.addFault (k : Condemn) (c : Cell) : Cell :=
  match c.fault with
  | none => { c with fault := some k }
  | some _ => c.laterFault

/-- The one operation that condemns a cell (R63). -/
def Cell.condemn (k : Condemn) (c : Cell) : Cell :=
  match c.content with
  | .bound => { c with content := .condemned, fault := some k }
  | .condemned | .void | .proof => c.addFault k
  | .offered =>
    match c.offerMark with
    | none => { c with offerMark := some k }
    | some _ => c.laterFault
  | .empty | .passed | .diverted => c

/-- The cell at a position is condemned (R63). -/
def condemnAt (p : Nat) (k : Condemn) (s : State) : State := modifyCell p (·.condemn k) s

/-- The record leaves a cell; its sequence is kept as the former sequence (R47). -/
def Cell.withoutRecord (c : Cell) : Cell :=
  match c.record with
  | some r => { c with record := none, formerSequence := some r.sequence }
  | none => c

/-! ### Records and versions -/

/-- The version table with the reference count of one version changed (R42). -/
def setRefCount (v : Fin 32) (f : Nat → Nat) (s : State) : State :=
  { s with versions := s.versions.set v.val { s.versions[v] with refCount := f s.versions[v].refCount } v.isLt }

/-- A record is finished, purged or stranded: its version's reference count falls by one (R42). -/
def releaseVersion (r : Record) (s : State) : State := setRefCount r.version (· - 1) s

/-- The weight of a version's item, w in Chapter 9; an UNDEFINED version names none. -/
def versionWeight (s : State) (v : Fin 32) : Nat := (s.versions[v].definition.map (·.weight)).getD 0

/-- The intake queue with its records changed. -/
def setQueue (q : List Record) (s : State) : State := { s with intake := { s.intake with queue := q } }

/-- The record is FRESH (2.1). -/
def Record.isFresh (r : Record) : Bool := r.kind == .fresh

/-- The fresh count: the FRESH records of the queue, plus one if the record of an OFFERED cell is FRESH
(2.3, R27). -/
def freshCount (s : State) : Nat :=
  s.intake.queue.countP Record.isFresh
    + s.track.cells.countP fun c => c.content == .offered && c.record.any Record.isFresh

/-- The remake count (2.3). -/
def remakeCount (s : State) : Nat := s.intake.queue.countP fun r => r.kind == .remake

/-- The free fresh room (2.3). -/
def freeRoom (s : State) : Nat := 256 - freshCount s

/-- The fresh count has fallen from a value; QUEUE_LOW is raised when the fall crosses the mark (R38). -/
def freshFell (before : Nat) (s : State) : State :=
  if s.params.queueLowMark ≤ before && freshCount s < s.params.queueLowMark then
    raise (.queueLow { fresh := freshCount s, room := freeRoom s, entries := s.intake.queue.length, lastSequence := s.intake.lastSequence }) s
  else s

end Sys2Proof.Machine
end

