-- ==== Sys2Proof/Machine/StationTable.lean ====
section
/-! DEFINITION. The station table (Chapter 1): recorded status, health and its counts, usability, and what
each change hands to the line controller and the notice set. -/

namespace Sys2Proof.Machine

/-- The recorded status that a reported status becomes (R4). -/
def Reported.recorded : Reported → Recorded
  | .ready => .ready
  | .lowSupply => .lowSupply
  | .jam => .jam
  | .guardOpen => .guardOpen

/-- The recorded status is one of the part's own (1.2). -/
def Recorded.own : Recorded → Bool
  | .unknown | .silent => true
  | .ready | .lowSupply | .jam | .guardOpen => false

/-- The role codes (table 1.1). -/
def Role.code : Role → Nat
  | .mainFeeder => 1
  | .insertFeeder => 2
  | .printer => 3
  | .carrierFeeder => 4
  | .reader => 5
  | .sealer => 6
  | .gate => 7
  | .stacker => 8
  | .drive => 9

/-- The role with a code, if there is one (table 1.1). -/
def roleOf (code : Nat) : Option Role :=
  [Role.mainFeeder, .insertFeeder, .printer, .carrierFeeder, .reader, .sealer, .gate, .stacker, .drive].find?
    fun r => r.code == code

/-- The outcomes that a role reports (table 1.1). -/
def Role.reports : Role → StationOutcome → Bool
  | .mainFeeder, .fed | .mainFeeder, .miss | .mainFeeder, .double => true
  | .insertFeeder, .fed | .insertFeeder, .miss | .insertFeeder, .double => true
  | .printer, .printed | .printer, .printFault => true
  | .carrierFeeder, .fed | .carrierFeeder, .miss => true
  | .reader, .read _ | .reader, .noRead => true
  | .sealer, .sealed | .sealer, .sealFault => true
  | .gate, .diverted | .gate, .passed => true
  | .stacker, .stacked | .stacker, .stackFault => true
  | _, _ => false

/-- The content of a slot's STATION notice (R12). -/
def stationNotice (n : SlotNo) (st : Option Station) : Notice :=
  .station n {
    station := st.map fun st => (st.role, st.recorded, st.health)
    usable := st.any Station.usable }

/-- The change hands a fault of the slot (R15): a disposing station turns unusable, or a recorded status
becomes GUARD_OPEN. -/
def faultingChange (old new : Station) : Bool :=
  (new.role.disposing && old.usable && !new.usable)
    || (new.recorded == .guardOpen && old.recorded != .guardOpen)

/-- A configured station has changed. A change of recorded status or health raises the STATION notice
(R12), is judged for usability (R14) and for a fault (R15), in that order (R106). -/
def stationChanged (n : SlotNo) (old new : Station) (s : State) : State :=
  let s := putStation n (some new) s
  if old.recorded = new.recorded ∧ old.health = new.health then s
  else
    let s := raise (stationNotice n (some new)) s
    let s := if new.role.feeding then putCause (.station n) (!new.usable) s else s
    if faultingChange old new then handFault (.station n) s else s

/-- A configured station changes as a function says, with all that follows from the change. -/
def updateStation (n : SlotNo) (f : Station → Station) (s : State) : State :=
  match stationAt s n with
  | some st => stationChanged n st (f st) s
  | none => s

/-- The recorded status after a good answer with status v (R4). -/
def Station.statusAfter (v : Reported) (st : Station) : Recorded :=
  if st.recorded.own || !st.debounce || st.lastReported == some v then v.recorded else st.recorded

/-- A station after the status of a good answer to a frame of some kind (R4, R5, R10). -/
def Station.answered (kind : FrameKind) (v : Reported) (st : Station) : Station :=
  { st with
    recorded := st.statusAfter v
    lastReported := some v
    identityPending := st.identityPending || (st.recorded.own && kind != .identity)
    unanswered := 0 }

/-- A station after a frame that got no good answer (R5). -/
def Station.notAnswered (st : Station) : Station :=
  if 3 ≤ st.unanswered + 1 then
    { st with unanswered := 3, recorded := .silent, lastReported := none }
  else { st with unanswered := st.unanswered + 1 }

/-- A station after the role code of an identity answer (R10). -/
def Station.identified (code : Byte) (st : Station) : Station :=
  { st with
    identityPending := false
    health := if code.toNat = st.role.code then st.health else .mismatch }

/-- The outcome adds one to the role's consecutive-fault count (R7). -/
def Role.faultOutcome : Role → StationOutcome → Bool
  | .mainFeeder, .miss | .mainFeeder, .double => true
  | .insertFeeder, .miss | .insertFeeder, .double => true
  | .printer, .printFault => true
  | .carrierFeeder, .miss => true
  | .reader, .noRead => true
  | .sealer, .sealFault => true
  | _, _ => false

/-- The outcome sets the role's consecutive-fault count to 0 (R7). -/
def Role.goodOutcome : Role → StationOutcome → Bool
  | .mainFeeder, .fed | .insertFeeder, .fed | .printer, .printed | .carrierFeeder, .fed => true
  | .reader, .read _ => true
  | .sealer, .sealed => true
  | _, _ => false

/-- A station after a result applied for it (R7, R8); nothing moves while its health is not OK. -/
def Station.afterResult (o : StationOutcome) (st : Station) : Station :=
  if st.health ≠ .ok then st
  else if st.role.faultOutcome o then
    { st with
      noReportCount := 0
      faultCount := bump st.faultLimit st.faultCount
      health := if st.faultLimit ≤ st.faultCount + 1 then .failedFaults else .ok }
  else if st.role.goodOutcome o then { st with noReportCount := 0, faultCount := 0 }
  else { st with noReportCount := 0 }

/-- A station after a NO_REPORT handed for it (R8). -/
def Station.afterNoReport (st : Station) : Station :=
  if st.health ≠ .ok then st
  else
    { st with
      noReportCount := bump 3 st.noReportCount
      health := if 3 ≤ st.noReportCount + 1 then .failedNoReports else .ok }

/-- A station after STATION_RESTORE (R11). -/
def Station.restored (st : Station) : Station :=
  { st with
    faultCount := 0
    noReportCount := 0
    health := .ok
    identityPending := st.identityPending || st.health == .mismatch }

/-- A station after a late result (R60). -/
def Station.afterLate (st : Station) : Station := { st with lateCount := bump 65535 st.lateCount }

/-- The causes STATION(n) as R14 defines them: a configured feeding station that is unusable. -/
def suppresses (s : State) (n : SlotNo) : Bool :=
  (stationAt s n).any fun st => st.role.feeding && !st.usable

end Sys2Proof.Machine
end

