-- ==== Sys2Proof/Machine/Codes.lean ====
section
/-! DEFINITION. The host-link codes of the named sets (R200): those 12.5 and 12.7 give, and for the other
sets the places of their members in the table that defines them, counted from 1, with 0 for none (log
entry 12). -/

namespace Sys2Proof.Machine

/-- Recorded status (1.2). -/
def Recorded.code : Recorded → Nat
  | .unknown => 1
  | .ready => 2
  | .lowSupply => 3
  | .jam => 4
  | .guardOpen => 5
  | .silent => 6

/-- Last reported status (1.1). -/
def Reported.code : Reported → Nat
  | .ready => 1
  | .lowSupply => 2
  | .jam => 3
  | .guardOpen => 4

/-- Health (1.1). -/
def Health.code : Health → Nat
  | .ok => 1
  | .failedFaults => 2
  | .failedNoReports => 3
  | .mismatch => 4

/-- Motion (1.1). -/
def Motion.code : Motion → Nat
  | .running => 1
  | .stopped => 2

/-- Debounce, as STATION_SET gives it (12.7). -/
def debounceCode (on : Bool) : Nat := if on then 1 else 2

/-- Content states (3.1.2). -/
def Content.code : Content → Nat
  | .empty => 1
  | .offered => 2
  | .void => 3
  | .bound => 4
  | .condemned => 5
  | .proof => 6
  | .passed => 7
  | .diverted => 8

/-- Condemn causes (12.7). -/
def CondemnKind.code : CondemnKind → Nat
  | .mainDouble => 1
  | .insertMiss => 2
  | .insertDouble => 3
  | .printFault => 4
  | .printNoCredit => 5
  | .carrierNotPrinted => 6
  | .carrierMiss => 7
  | .sealFault => 8
  | .verifyMismatch => 9
  | .verifyNoRead => 10
  | .stationUnavailable => 11
  | .noReport => 12
  | .busLate => 13
  | .stepLost => 14
  | .phaseLost => 15
  | .movedWhileHalted => 16
  | .gateUnrequested => 17

/-- The state of an insert demand (3.1.2). -/
def demandCode (fed : Bool) : Nat := if fed then 2 else 1

/-- Print state (3.1.2). -/
def PrintState.code : PrintState → Nat
  | .none => 0
  | .sent => 1
  | .printed => 2
  | .failed => 3
  | .refused => 4

/-- Carrier state (3.1.2). -/
def CarrierState.code : CarrierState → Nat
  | .none => 0
  | .fed => 1
  | .missed => 2

/-- Verification (3.1.2). -/
def Verification.code : Verification → Nat
  | .none => 0
  | .matched => 1
  | .failed => 2

/-- Record kinds (R200). -/
def RecordKind.code : RecordKind → Nat
  | .fresh => 1
  | .remake => 2

/-- Stop point targets (12.7). -/
def StopTarget.code : StopTarget → Nat
  | .sequence _ => 1
  | .versionChange => 2

/-- The stop point (Chapter 4). -/
def StopPoint.code : StopPoint → Nat
  | .none => 0
  | .armed _ => 1
  | .met _ _ => 2

/-- Step states (6.2). -/
def StepState.code : StepState → Nat
  | .notMonitored => 1
  | .proving => 2
  | .inStep => 3
  | .outOfStep => 4

/-- Window entries (6.2). -/
def StepEntry.code : StepEntry → Nat
  | .pass => 1
  | .fail => 2

/-- Entry conditions (6.2). -/
def StepCondition.code : StepCondition → Nat
  | .threshold => 1
  | .slips => 2
  | .excess => 3
  | .provingFailure => 4
  | .restep => 5

/-- Slip directions (R109). -/
def Slip.code : Slip → Nat
  | .upstream => 1
  | .downstream => 2

/-- Phase states (7.1). -/
def PhaseState.code : PhaseState → Nat
  | .off => 1
  | .seeking => 2
  | .acquiring => 3
  | .locked => 4
  | .lost => 5

/-- Loss causes (7.1). -/
def LossCause.code : LossCause → Nat
  | .missing => 1
  | .misplaced _ => 2

/-- Break marks, coded as 12.7 codes them in the STACK command (log entry 12). -/
def BreakMark.code : BreakMark → Nat
  | .none => 0
  | .newBundle => 1
  | .newTray => 2

/-- Close pending (9.1). -/
def ClosePending.code : ClosePending → Nat
  | .none => 0
  | .bundle => 1
  | .bundleAndTray => 2

/-- Closure reasons (12.7). -/
def ClosureReason.code : ClosureReason → Nat
  | .bundleKey => 1
  | .trayKey => 2
  | .itemLimit => 3
  | .bundleWeight => 4
  | .trayBundles => 5
  | .trayWeight => 6
  | .drain => 7
  | .host => 8

/-- Line states (10.1). -/
def LineState.code : LineState → Nat
  | .idle => 1
  | .starting => 2
  | .running => 3
  | .draining => 4
  | .stopping => 5
  | .faulted => 6

/-- Fault causes (10.6). -/
def FaultCause.code : FaultCause → Nat
  | .estop => 1
  | .driveStart => 2
  | .driveStop => 3
  | .driveHalt _ => 4
  | .station _ => 5
  | .phase => 6
  | .escape _ => 7
  | .unaddressedEscape _ => 8
  | .proofEscape _ => 9
  | .stackFault _ => 10
  | .stackSilent _ => 11

/-- The byte a fault cause carries: a slot number, a tag, or 0 (R200). -/
def FaultCause.carried : FaultCause → Byte
  | .estop | .driveStart | .driveStop | .phase => 0
  | .driveHalt n | .station n => BitVec.ofNat 8 (slotNumber n)
  | .escape t | .unaddressedEscape t | .proofEscape t | .stackFault t | .stackSilent t => t

/-- Drain options (10.1). -/
def DrainOption.code : DrainOption → Nat
  | .none => 0
  | .close => 1
  | .noClose => 2

/-- The drive order (10.1). -/
def DriveOrder.code : DriveOrder → Nat
  | .none => 0
  | .run _ => 1
  | .stop _ => 2

/-- The drive order's mark: issued 1, sent 2, none 0 (10.1). -/
def DriveOrder.mark : DriveOrder → Nat
  | .none => 0
  | .run sent | .stop sent => if sent then 2 else 1

/-- Tally events (12.7). -/
def TallyEvent.code : TallyEvent → Nat
  | .pitchAdvances => 1
  | .offers => 2
  | .binds => 3
  | .gaps => 4
  | .mainMisses => 5
  | .mainDoubles => 6
  | .insertFeeds => 7
  | .insertMisses => 8
  | .insertDoubles => 9
  | .prints => 10
  | .printFaults => 11
  | .carrierMisses => 12
  | .matches => 13
  | .mismatches => 14
  | .noReads => 15
  | .slips => 16
  | .divertsOfCondemned => 17
  | .escapes => 18
  | .remakesReturned => 19
  | .offlineFinishes => 20
  | .strands => 21
  | .stacked => 22
  | .bundlesClosed => 23
  | .lateResults => 24
  | .noReports => 25
  | .busLates => 26
  | .keyWaitGaps => 27

/-- Every tally event, in the order of the codes. -/
def TallyEvent.all : List TallyEvent :=
  [.pitchAdvances, .offers, .binds, .gaps, .mainMisses, .mainDoubles, .insertFeeds, .insertMisses, .insertDoubles,
    .prints, .printFaults, .carrierMisses, .matches, .mismatches, .noReads, .slips, .divertsOfCondemned, .escapes,
    .remakesReturned, .offlineFinishes, .strands, .stacked, .bundlesClosed, .lateResults, .noReports, .busLates,
    .keyWaitGaps]

/-- The event with a code (12.7). -/
def eventOf (code : Nat) : Option TallyEvent := TallyEvent.all.find? fun e => e.code == code

/-- Counter actions (12.7). -/
def CounterAction.code : CounterAction → Nat
  | .notice => 1
  | .noticeHold => 2

/-- Start modes (12.7). -/
def StartMode.code : StartMode → Nat
  | .free => 1
  | .afterFirst => 2

/-- Item outcomes (12.7). -/
def ItemOutcome.code : ItemOutcome → Nat
  | .rejected => 1
  | .stacked => 2
  | .offline => 3
  | .escaped => 4

/-- Off-line reasons (12.7). -/
def OfflineReason.code : OfflineReason → Nat
  | .attempts => 1
  | .stranded => 2
  | .stackLost => 3

/-- Gate outcomes of a PROOF notice (R147). -/
def GateOutcome.code : GateOutcome → Nat
  | .diverted => 1
  | .passed => 2
  | .noReport => 3
  | .busLate => 4

/-- The result of a proof (R147). -/
def proofCode (passed : Bool) : Nat := if passed then 1 else 2

/-- Result codes (12.5). -/
def ResultCode.code : ResultCode → Nat
  | .ok => 0
  | .state => 1
  | .busy => 2
  | .full => 3
  | .order => 4
  | .field => 5
  | .version => 6
  | .keys => 7
  | .inUse => 8
  | .station => 9
  | .config => 10
  | .reject => 11

/-- Causes of a REJECT (12.5). -/
def RejectCause.code : RejectCause → Nat
  | .check => 1
  | .length => 2
  | .kind => 3
  | .truncated => 4
  | .overflow => 5

/-- Request kinds (12.5). -/
def Request.kind : Request → Nat
  | .load _ => 0x01
  | .purge _ => 0x02
  | .versionSet _ _ _ _ => 0x03
  | .versionClear _ => 0x04
  | .stationSet _ _ _ _ _ _ => 0x05
  | .stationClear _ => 0x06
  | .stationRestore _ => 0x07
  | .paramSet _ _ => 0x08
  | .lineStart => 0x09
  | .lineDrain _ => 0x0A
  | .lineStop => 0x0B
  | .lineHold => 0x0C
  | .lineResume => 0x0D
  | .faultClear => 0x0E
  | .jobReset => 0x0F
  | .stopPointSet _ _ => 0x10
  | .stopPointClear => 0x11
  | .proof => 0x12
  | .restep => 0x13
  | .bundleClose _ => 0x14
  | .counterSet _ _ _ _ _ _ _ => 0x15
  | .counterClear _ => 0x16
  | .counterUnfreeze => 0x17
  | .statusRead => 0x20
  | .cellRead _ => 0x21
  | .queueRead _ => 0x22
  | .stationRead _ => 0x23
  | .bundleRead => 0x24
  | .counterRead => 0x25

/-- Notice kinds (12.5). -/
def Notice.kind : Notice → Nat
  | .line _ => 0xA0
  | .feed _ => 0xA1
  | .station _ _ => 0xA2
  | .step _ => 0xA3
  | .stepExcess _ => 0xA4
  | .phase _ => 0xA5
  | .phaseShift _ => 0xA6
  | .counter _ _ => 0xA7
  | .queueLow _ => 0xA8
  | .stopPoint _ _ => 0xA9
  | .proof _ => 0xAA

/-- Report kinds (12.5). -/
def Report.kind : Report → Nat
  | .item _ => 0x90
  | .bundle _ => 0x91
  | .tray _ => 0x92

end Sys2Proof.Machine
end

