-- ==== Sys2Proof/Machine/Layout.lean ====
section
/-! DEFINITION. The bytes of reports, notices and of the fields that replies share (12.7, R200). Where
R200 leaves a byte to be read from other rules, log entries 12 to 14 and 35 say how it is read. -/

namespace Sys2Proof.Machine

/-! ### Fields -/

/-- The byte of a slot: its number, 0 for none. -/
def slotByte (n : Option SlotNo) : List Byte := nat1 (orZero (n.map slotNumber))

/-- The byte of a counter: its number, 0 for none. -/
def counterByte (n : Option (Fin 8)) : List Byte := nat1 (orZero (n.map fun i => i.val + 1))

/-- A number of 2 bytes whose range excludes 0 (R200). -/
def opt2 (o : Option Nat) : List Byte := nat2 (orZero o)

/-- A number of 4 bytes whose range excludes 0 (R200). -/
def opt4 (o : Option Nat) : List Byte := nat4 (orZero o)

/-- A condemn cause with its station (R200). -/
def condemnBytes (k : Option Condemn) : List Byte :=
  nat1 (orZero (k.map (·.kind.code))) ++ slotByte (k.bind (·.station))

/-- A fault cause with its slot or tag (R200). -/
def faultBytes (k : Option FaultCause) : List Byte :=
  nat1 (orZero (k.map (·.code))) ++ [(k.map (·.carried)).getD 0]

/-- The bytes of a counter's value or threshold. -/
def word4 (w : Word32) : List Byte := nat4 w.toNat

/-- The feed suppression set as a number: a cause's bit is its place in the set (R200). -/
def feedNumber (f : FeedSet) : Nat := ((List.finRange 29).map fun i => if f[i] then 2 ^ i.val else 0).sum

/-- The feed suppression set (R200). -/
def feedBytes (f : FeedSet) : List Byte := nat4 (feedNumber f)

/-- A line of characters with its length (12.7). -/
def textBytes (chars : List Byte) : List Byte := nat1 chars.length ++ chars

/-- A subscriber record (R200). -/
def recordBytes (r : Record) : List Byte :=
  nat4 r.sequence ++ nat1 r.version.val ++ nat2 r.bundleKey ++ nat2 r.trayKey ++ listed textBytes r.lines
    ++ textBytes (r.keyline.getD []) ++ nat1 r.attempts ++ nat1 r.kind.code

/-- A stop point target: its kind and its sequence, 0 for VERSION_CHANGE (12.7). -/
def targetBytes (t : StopTarget) : List Byte :=
  match t with
  | .sequence n => nat1 t.code ++ nat4 n
  | .versionChange => nat1 t.code ++ nat4 0

/-- The stop point: its state, its target and its head sequence (R69). -/
def stopPointBytes (p : StopPoint) : List Byte :=
  match p with
  | .none => nat1 p.code ++ nat1 0 ++ nat4 0 ++ nat4 0
  | .armed t => nat1 p.code ++ targetBytes t ++ nat4 0
  | .met t head => nat1 p.code ++ targetBytes t ++ nat4 head

/-- A loss cause: its code, and d in 2 bytes, 0 for MISSING (7.1). -/
def lossBytes (k : Option LossCause) : List Byte :=
  match k with
  | none => nat1 0 ++ nat2 0
  | some .missing => nat1 LossCause.missing.code ++ nat2 0
  | some (.misplaced d) => nat1 (LossCause.misplaced d).code ++ nat2 d

/-- The stack in flight: tag, mark and serials (9.1). -/
def inFlightBytes (f : StackInFlight) : List Byte :=
  [f.tag] ++ nat1 f.mark.code ++ nat2 f.bundleSerial ++ nat2 f.traySerial

/-- The recorded status and the health of a station (R171, R180). -/
def conditionBytes (st : Option Station) : List Byte :=
  nat1 (orZero (st.map (·.recorded.code))) ++ nat1 (orZero (st.map (·.health.code)))

/-! ### Request bodies (12.7) -/

/-- One record of a LOAD body (12.7). -/
def LoadRecord.bytes (r : LoadRecord) : List Byte :=
  nat4 r.sequence ++ nat1 r.version ++ nat2 r.bundleKey ++ nat2 r.trayKey ++ listed textBytes r.lines
    ++ textBytes r.keyline

/-- The body in which the host sends a request (12.7). -/
def Request.body : Request → List Byte
  | .load records => listed LoadRecord.bytes records
  | .purge a => nat4 a
  | .versionSet version inserts weight lineCount => nat1 version ++ listed nat1 inserts ++ nat2 weight ++ nat1 lineCount
  | .stationSet a b c d e f => [a, b, c, d, e, f].flatMap nat1
  | .paramSet a b | .stopPointSet a b => nat1 a ++ nat4 b
  | .counterSet a b c d e f g => nat1 a ++ nat1 b ++ nat1 c ++ nat2 d ++ nat4 e ++ nat1 f ++ nat1 g
  | .queueRead a => nat2 a
  | .versionClear a | .stationClear a | .stationRestore a | .lineDrain a | .bundleClose a | .counterClear a
  | .cellRead a | .stationRead a => nat1 a
  | .lineStart | .lineStop | .lineHold | .lineResume | .faultClear | .jobReset | .stopPointClear | .proof | .restep
  | .counterUnfreeze | .statusRead | .bundleRead | .counterRead => []

/-! ### Reports (12.7) -/

/-- Two flags in the low bits of a byte. -/
def bits2 (bit0 bit1 : Bool) : List Byte := nat1 ((if bit0 then 1 else 0) + if bit1 then 2 else 0)

/-- The ITEM report body, 12 bytes. -/
def itemBody (r : ItemReport) : List Byte :=
  nat4 r.sequence ++ nat1 r.outcome.code ++ nat1 (orZero (r.reason.map (·.code))) ++ condemnBytes r.cause
    ++ nat1 r.attempts ++ opt2 r.bundleSerial ++ bits2 r.unconfirmed false

/-- The BUNDLE report body, 24 bytes. -/
def bundleBody (r : BundleReport) : List Byte :=
  let b := r.bundle
  nat2 b.serial ++ nat2 b.traySerial ++ nat2 b.key ++ nat2 b.items ++ nat4 b.weight ++ opt4 b.first
    ++ opt4 b.last ++ nat2 b.unconfirmed ++ bits2 b.split r.residual ++ nat1 r.reason.code

/-- The TRAY report body, 16 bytes. -/
def trayBody (r : TrayReport) : List Byte :=
  let t := r.tray
  nat2 t.serial ++ nat2 t.key ++ nat2 t.bundles ++ nat4 t.items ++ nat4 t.weight ++ bits2 t.split false
    ++ nat1 r.reason.code

/-- The body of a report (12.7). -/
def Report.body : Report → List Byte
  | .item r => itemBody r
  | .bundle r => bundleBody r
  | .tray r => trayBody r

/-! ### Notices (R196, R200) -/

/-- The LINE notice (R182). -/
def lineBody (n : LineNotice) : List Byte :=
  nat1 n.state.code ++ nat1 n.before.code ++ faultBytes n.fault ++ nat1 n.laterFaults ++ faultBytes n.lastLater
    ++ nat1 n.drain.code ++ flag n.restarted

/-- The STATION notice (R12). -/
def stationBody (slot : SlotNo) (n : StationNotice) : List Byte :=
  slotByte (some slot) ++ flag n.station.isSome ++ nat1 (orZero (n.station.map (·.1.code)))
    ++ nat1 (orZero (n.station.map (·.2.1.code))) ++ nat1 (orZero (n.station.map (·.2.2.code))) ++ flag n.usable

/-- The STEP notice (R123). -/
def stepBody (n : StepNotice) : List Byte :=
  nat1 n.state.code ++ listed (fun c => nat1 (StepCondition.code c)) n.conditions ++ nat2 n.lossCount
    ++ nat1 n.fails ++ nat1 n.windowSize ++ nat1 n.slipCount ++ nat1 n.provingCount ++ nat1 n.lostTags
    ++ optional nat1 n.condemned ++ optional nat1 n.marked ++ optional nat4 (n.evidence.bind (·.code))
    ++ opt4 (n.evidence.bind (·.sequence)) ++ nat1 (orZero ((n.evidence.bind (·.slip)).map (·.code)))

/-- The STEP_EXCESS notice (R115). -/
def stepExcessBody (n : StepExcessNotice) : List Byte := nat4 n.block ++ nat2 n.failures ++ nat2 n.limit

/-- The PHASE notice (R137). -/
def phaseBody (n : PhaseNotice) : List Byte :=
  nat1 n.state.code ++ nat2 n.chainLength ++ nat2 n.chainCount ++ listed nat1 n.window ++ nat2 n.lossCount
    ++ lossBytes n.lossCause ++ opt2 n.lastMisplaced ++ nat2 n.restarts ++ optional nat1 n.condemned
    ++ optional nat1 n.marked

/-- The PHASE_SHIFT notice (R134). -/
def phaseShiftBody (n : PhaseShiftNotice) : List Byte := nat2 n.d ++ nat2 n.chainLength ++ nat1 n.state.code

/-- The QUEUE_LOW notice (R38). -/
def queueLowBody (n : QueueLowNotice) : List Byte :=
  nat2 n.fresh ++ nat2 n.room ++ nat2 n.entries ++ nat4 n.lastSequence

/-- The PROOF notice (R147). -/
def proofBody (n : ProofNotice) : List Byte :=
  nat1 (proofCode n.passed) ++ [n.tag] ++ nat1 n.outcome.code ++ condemnBytes n.fault
    ++ nat1 (orZero (n.gateHealth.map (·.code))) ++ nat1 (orZero (n.gateStatus.map (·.code)))

/-- The COUNTER notice (R191). -/
def counterBody (number : Fin 8) (n : CounterNotice) : List Byte :=
  let u := n.setup
  counterByte (some number) ++ nat1 u.event.code ++ slotByte u.qualifier ++ nat2 u.window ++ word4 u.threshold
    ++ nat1 u.action.code ++ word4 n.value ++ flag n.added ++ flag n.frozen ++ counterByte n.source

/-- The body of a notice. -/
def Notice.body : Notice → List Byte
  | .line n => lineBody n
  | .feed f => feedBytes f
  | .step n => stepBody n
  | .stepExcess n => stepExcessBody n
  | .phase n => phaseBody n
  | .phaseShift n => phaseShiftBody n
  | .queueLow n => queueLowBody n
  | .stopPoint target head => targetBytes target ++ nat4 head
  | .proof n => proofBody n
  | .station slot n => stationBody slot n
  | .counter number n => counterBody number n

/-! ### Frames (12.1, 12.7) -/

/-- The bytes of a frame between its start character and its check. -/
def frameContent (kind number : Byte) (body : List Byte) : List Byte := nat2 body.length ++ [kind, number] ++ body

/-- A host-link frame (12.1). -/
def hostFrame (kind number : Byte) (body : List Byte) : List Byte :=
  let content := frameContent kind number body
  [0x5A] ++ content ++ crcBytes content

/-- The body of a reply (12.7). -/
def Reply.body (r : Reply) : List Byte :=
  [r.kind] ++ nat1 r.result.code ++ nat1 (orZero (r.cause.map (·.code))) ++ r.data

/-- The frame of a reply. -/
def Reply.frame (r : Reply) : List Byte := hostFrame 0x80 r.number r.body

/-- The frame of a notice. -/
def Notice.frame (n : Notice) : List Byte := hostFrame (BitVec.ofNat 8 n.kind) 0 n.body

/-- The frame of a report. -/
def Report.frame (r : Report) : List Byte := hostFrame (BitVec.ofNat 8 r.kind) 0 r.body

/-! ### Groups of the read replies -/

/-- One counter's setup (11.1). -/
def setupBytes (u : CounterSetup) : List Byte :=
  nat1 u.event.code ++ slotByte u.qualifier ++ nat2 u.window ++ word4 u.threshold ++ nat1 u.action.code
    ++ nat1 u.start.code

/-- One counter (11.1). -/
def counterBytes (c : Counter) : List Byte :=
  optional setupBytes c.setup ++ word4 c.value ++ nat2 c.progress ++ flag c.armed ++ flag c.started ++ flag c.hold

/-- The configured fields of a slot (1.1). -/
def stationBytes (st : Station) : List Byte :=
  nat1 st.role.code ++ nat1 st.address ++ optional nat1 st.position ++ nat1 (debounceCode st.debounce)
    ++ nat1 st.faultLimit ++ nat1 st.recorded.code ++ nat1 (orZero (st.lastReported.map (·.code)))
    ++ nat1 st.health.code ++ nat1 st.faultCount ++ nat1 st.noReportCount ++ flag st.identityPending
    ++ nat1 st.unanswered ++ nat2 st.lateCount ++ nat1 (orZero (st.motion.map (·.code)))

/-- The open bundle record (9.1). -/
def openBundleBytes (b : OpenBundle) : List Byte :=
  nat2 b.serial ++ nat2 b.traySerial ++ nat2 b.key ++ nat2 b.items ++ nat4 b.weight ++ opt4 b.first
    ++ opt4 b.last ++ flag b.split ++ nat2 b.unconfirmed

/-- The open tray record (9.1). -/
def openTrayBytes (t : OpenTray) : List Byte :=
  nat2 t.serial ++ nat2 t.key ++ nat2 t.bundles ++ nat4 t.items ++ nat4 t.weight ++ flag t.split

/-- The counts of the intake queue (2.3). -/
def queueCounts (s : State) : List Byte :=
  nat2 s.intake.queue.length ++ nat1 (remakeCount s) ++ nat2 (freshCount s) ++ nat2 (freeRoom s)
    ++ nat4 s.intake.lastSequence ++ opt2 (s.intake.lastKeys.map (·.1)) ++ opt2 (s.intake.lastKeys.map (·.2))

/-- The track's state (R68). -/
def trackBytes (s : State) : List Byte :=
  nat1 (stackerPosition s) ++ nat1 s.track.cells.length ++ [s.track.nextTag] ++ nat1 s.track.printJobs
    ++ nat2 s.track.lateCount

/-- The fields of a cell (3.1.2). An exchange is laid out with whether its command is still queued or has been
sent (R68), for which no rule gives a code: a flag after its other fields, 1 still queued and 0 sent (log entry
35). -/
def cellBytes (queued : SlotNo → Bool) (c : Cell) : List Byte :=
  let exchange (e : Exchange) : List Byte := slotByte (some e.slot) ++ nat1 e.closing ++ flag (queued e.slot)
  let demand (d : Demand) : List Byte := slotByte (some d.slot) ++ nat1 (demandCode d.fed)
  [c.tag] ++ nat1 c.content.code ++ flag c.proofOffer ++ optional recordBytes c.record ++ opt4 c.formerSequence
    ++ flag c.escaped ++ condemnBytes c.offerMark ++ condemnBytes c.fault ++ nat1 c.laterFaults
    ++ listed demand c.demands ++ nat1 c.print.code ++ nat1 c.carrier.code ++ nat1 c.verification.code
    ++ flag c.sealed ++ listed exchange c.exchanges

end Sys2Proof.Machine
end

