-- ==== Sys2Proof/WellFormed.lean ====
section
/-! DEFINITION. When the operands of a command can be what the event they stand for brings. A host-link
frame is complete, cut short or too long by its own length field (R192), and an answer on the station bus
begins with a character that carries the address mark (R16). -/

namespace Sys2Proof

/-- The body length a frame's bytes announce, once both bytes of it have been received (12.1). -/
def announcedLength : List Byte → Option Nat
  | hi :: lo :: _ => some (hi.toNat * 256 + lo.toNat)
  | _ => none

/-- The bytes after the start character are one whole frame: length, kind, number, body and CRC, with a
body of at most 2400 bytes (12.1, R192). -/
def wholeFrame (bytes : List Byte) : Bool :=
  match announcedLength bytes with
  | some n => n ≤ 2400 && bytes.length == n + 6
  | none => false

/-- The bytes after the start character are the beginning of a frame that has not ended yet: its length
field, when received, leaves bytes to come and is not one the receiver has stopped at (R192). -/
def partFrame (bytes : List Byte) : Bool :=
  match announcedLength bytes with
  | some n => bytes.length < n + 6 && (n ≤ 2400 || bytes.length < 4)
  | none => true

/-- The operands of the command are of the form the event brings. -/
def Instr.wellFormed : Instr → Bool
  | .frameComplete bytes => wholeFrame bytes
  | .frameTruncated received => partFrame received
  | .frameLengthError bodyLength _ _ => 2400 < bodyLength.toNat
  | .goodAnswer answer => answer.head?.any (·.mark)
  | _ => true

end Sys2Proof
end

