-- ==== Sys2Proof/Machine/Operands.lean ====
section
/-! DEFINITION. What the bytes of a received frame say: a host-link frame as a request (R193, 12.7), a
station's answer as its status, role code and result (R16, 12.7), and the characters of the frames the
part sends on the station bus. -/

namespace Sys2Proof.Machine

/-! ### Requests (12.7) -/

/-- The first n bytes, and the bytes after them, when there are n. -/
def takeBytes (n : Nat) (bytes : List Byte) : Option (List Byte × List Byte) :=
  if n ≤ bytes.length then some (bytes.take n, bytes.drop n) else none

/-- A number of n bytes, and the bytes after it. -/
def takeNat (n : Nat) (bytes : List Byte) : Option (Nat × List Byte) :=
  (takeBytes n bytes).map fun r => (natOf r.1, r.2)

/-- Characters with their length before them, and the bytes after them (12.7). -/
def takeText (bytes : List Byte) : Option (List Byte × List Byte) :=
  (takeNat 1 bytes).bind fun r => takeBytes r.1 r.2

/-- As many entries as a count gives, and the bytes after them. -/
def takeMany {α : Type} (entry : List Byte → Option (α × List Byte)) :
    Nat → List Byte → Option (List α × List Byte)
  | 0, bytes => some ([], bytes)
  | n + 1, bytes =>
    match entry bytes with
    | some (a, rest) => (takeMany entry n rest).map fun r => (a :: r.1, r.2)
    | none => none

/-- One record of a LOAD body (12.7). -/
def takeRecord (bytes : List Byte) : Option (LoadRecord × List Byte) :=
  (takeBytes 9 bytes).bind fun h =>
    (takeNat 1 h.2).bind fun count =>
      (takeMany takeText count.1 count.2).bind fun lines =>
        (takeText lines.2).map fun key =>
          ({ sequence := natOf (h.1.take 4)
             version := natOf ((h.1.drop 4).take 1)
             bundleKey := natOf ((h.1.drop 5).take 2)
             trayKey := natOf ((h.1.drop 7).take 2)
             lines := lines.1
             keyline := key.1 }, key.2)

/-- The value when no byte is left over: a body whose length is the one its counts give (R193). -/
def whole {α : Type} (r : Option (α × List Byte)) : Option α :=
  match r with
  | some (a, []) => some a
  | _ => none

/-- The LOAD body (12.7). -/
def loadOf (body : List Byte) : Option Request :=
  (whole ((takeNat 1 body).bind fun count => takeMany takeRecord count.1 count.2)).map .load

/-- The VERSION_SET body (12.7). -/
def versionSetOf (body : List Byte) : Option Request :=
  match body with
  | version :: count :: rest =>
    if rest.length = count.toNat + 3 then
      let tail := rest.drop count.toNat
      some (.versionSet version.toNat ((rest.take count.toNat).map (·.toNat)) (natOf (tail.take 2)) (natOf (tail.drop 2)))
    else none
  | _ => none

/-- The numbers of a body whose fields have the given sizes, when its length is theirs. -/
def fieldsOf : List Nat → List Byte → Option (List Nat)
  | [], [] => some []
  | [], _ :: _ => none
  | n :: sizes, body =>
    match takeNat n body with
    | some (v, rest) => (fieldsOf sizes rest).map (v :: ·)
    | none => none

/-- The sizes of the fields of a kind without counts (12.7); none for LOAD, VERSION_SET and what is no
request kind. -/
def fieldSizes (kind : Nat) : Option (List Nat) :=
  match kind with
  | 0x02 => some [4]
  | 0x04 | 0x06 | 0x07 | 0x0A | 0x14 | 0x16 | 0x21 | 0x23 => some [1]
  | 0x05 => some [1, 1, 1, 1, 1, 1]
  | 0x08 | 0x10 => some [1, 4]
  | 0x15 => some [1, 1, 1, 2, 4, 1, 1]
  | 0x22 => some [2]
  | 0x09 | 0x0B | 0x0C | 0x0D | 0x0E | 0x0F | 0x11 | 0x12 | 0x13 | 0x17 | 0x20 | 0x24 | 0x25 => some []
  | _ => none

/-- The request of a kind with the fields of its body (12.5, 12.7). -/
def requestOf (kind : Nat) (fields : List Nat) : Option Request :=
  match kind, fields with
  | 0x02, [a] => some (.purge a)
  | 0x04, [a] => some (.versionClear a)
  | 0x05, [a, b, c, d, e, f] => some (.stationSet a b c d e f)
  | 0x06, [a] => some (.stationClear a)
  | 0x07, [a] => some (.stationRestore a)
  | 0x08, [a, b] => some (.paramSet a b)
  | 0x09, [] => some .lineStart
  | 0x0A, [a] => some (.lineDrain a)
  | 0x0B, [] => some .lineStop
  | 0x0C, [] => some .lineHold
  | 0x0D, [] => some .lineResume
  | 0x0E, [] => some .faultClear
  | 0x0F, [] => some .jobReset
  | 0x10, [a, b] => some (.stopPointSet a b)
  | 0x11, [] => some .stopPointClear
  | 0x12, [] => some .proof
  | 0x13, [] => some .restep
  | 0x14, [a] => some (.bundleClose a)
  | 0x15, [a, b, c, d, e, f, g] => some (.counterSet a b c d e f g)
  | 0x16, [a] => some (.counterClear a)
  | 0x17, [] => some .counterUnfreeze
  | 0x20, [] => some .statusRead
  | 0x21, [a] => some (.cellRead a)
  | 0x22, [a] => some (.queueRead a)
  | 0x23, [a] => some (.stationRead a)
  | 0x24, [] => some .bundleRead
  | 0x25, [] => some .counterRead
  | _, _ => none

/-- The kind is a request kind (12.5). -/
def isRequestKind (kind : Nat) : Bool := kind == 0x01 || kind == 0x03 || (fieldSizes kind).isSome

/-- The request a body of a kind carries, when its length is right (R193). -/
def parseBody (kind : Nat) (body : List Byte) : Option Request :=
  match kind with
  | 0x01 => loadOf body
  | 0x03 => versionSetOf body
  | k => (fieldSizes k).bind fun sizes => (fieldsOf sizes body).bind (requestOf k)

/-- The bytes of a frame that its check covers, and the check (12.1). -/
def splitCheck (bytes : List Byte) : List Byte × List Byte :=
  (bytes.take (bytes.length - 2), bytes.drop (bytes.length - 2))

/-- The check at the end of some bytes is the CRC of the bytes before it (12.1, 12.7). -/
def checkHolds (bytes : List Byte) : Bool := crcBytes (splitCheck bytes).1 == (splitCheck bytes).2

/-- A complete frame is checked for CRC, kind and length, in that order (R193). -/
def checkFrame (bytes : List Byte) : RxEntry :=
  match (splitCheck bytes).1 with
  | _ :: _ :: kind :: number :: body =>
    if !checkHolds bytes then .rejected .check 0 0
    else if !isRequestKind kind.toNat then .rejected .kind kind number
    else
      match parseBody kind.toNat body with
      | some r => .request number r
      | none => .rejected .length kind number
  | _ => .rejected .check 0 0

/-- The entry of a frame cut short: its kind and number are readable when the number has been received
(R192, log entry 16). -/
def truncatedEntry (received : List Byte) : RxEntry :=
  match received with
  | _ :: _ :: kind :: number :: _ => .rejected .truncated kind number
  | _ => .rejected .truncated 0 0

/-! ### Frames to the stations (12.7) -/

/-- The kind of a command for a cell (12.7). -/
def CellOrder.kind : CellOrder → Nat
  | .feed => 1
  | .feedCarrier _ => 1
  | .print _ _ _ => 2
  | .read => 3
  | .seal => 4
  | .pass => 5
  | .divert => 6
  | .stack _ _ _ => 7
  | .setAside => 8

/-- The code of a break mark on the station bus (12.7). -/
def BreakMark.busCode : BreakMark → Nat
  | .none => 0
  | .newBundle => 1
  | .newTray => 2

/-- A text with its length (12.7). -/
def busText (chars : List Byte) : List Byte := nat1 chars.length ++ chars

/-- The data of a command for a cell (12.7). An absent keyline is sent as one of length 0 (log entry
31). -/
def CellOrder.data : CellOrder → List Byte
  | .feedCarrier code => nat4 code
  | .print sequence lines keyline => nat4 sequence ++ listed busText lines ++ busText (keyline.getD [])
  | .stack mark bundle tray => nat1 mark.busCode ++ nat2 bundle ++ nat2 tray
  | .feed | .read | .seal | .pass | .divert | .setAside => []

/-- A command's characters after the address, the check aside: kind, tag, data length, data (12.7). -/
def BusOrder.bytes : BusOrder → List Byte
  | .cell tag o => nat1 o.kind ++ [tag] ++ nat2 o.data.length ++ o.data
  | .run => nat1 9 ++ [0] ++ nat2 0
  | .stop => nat1 10 ++ [0] ++ nat2 0

/-- The characters of a frame: the address with its mark, the bytes, and the check over all of them (R16,
12.7). -/
def busChars (address : Nat) (bytes : List Byte) : List BusChar :=
  let first := BitVec.ofNat 8 address
  { mark := true, data := first } ::
    (bytes ++ crcBytes (first :: bytes)).map fun b => { mark := false, data := b }

/-! ### Answers (R16, 12.7) -/

/-- The status value of an answer's status character, bit 7 aside (12.7). The low bits are taken to be the
seven others, and bit 7 is not read in an answer of a station other than a drive (log entry 30). -/
def statusOf (b : Byte) : Option Reported :=
  match b.toNat % 128 with
  | 1 => some .ready
  | 2 => some .lowSupply
  | 3 => some .jam
  | 4 => some .guardOpen
  | _ => none

/-- The motion of an answer's status character (12.7). -/
def motionOf (b : Byte) : Motion := if b.toNat < 128 then .stopped else .running

/-- The outcome of a result with its code, READ alone carrying one (12.7). -/
def outcomeOf (code : Nat) (rest : List Byte) : Option StationOutcome :=
  match code, rest with
  | 1, [] => some .fed
  | 2, [] => some .miss
  | 3, [] => some .double
  | 4, [] => some .printed
  | 5, [] => some .printFault
  | 6, [a, b, c, d] => some (.read (natOf [a, b, c, d]))
  | 7, [] => some .noRead
  | 8, [] => some .sealed
  | 9, [] => some .sealFault
  | 10, [] => some .diverted
  | 11, [] => some .passed
  | 12, [] => some .stacked
  | 13, [] => some .stackFault
  | _, _ => none

/-- The result of a poll answer (12.7): none for a result flag of 0. The outer option is the form of the
bytes, and whether the role reports the outcome (R16); a result flag that is neither 0 nor 1 has no form
(log entry 30). -/
def resultOf (role : Role) (bytes : List Byte) : Option (Option (Tag × StationOutcome)) :=
  match bytes with
  | [0#8] => some none
  | 1#8 :: tag :: code :: rest =>
    match outcomeOf code.toNat rest with
    | some o => if role.reports o then some (some (tag, o)) else none
    | none => none
  | _ => none

/-- What an answer of some kind of frame says after its address and kind (12.7). -/
def answerBody (kind : FrameKind) (role : Role) (status : Byte) (rest : List Byte) : Option StationAnswer :=
  (statusOf status).bind fun v =>
    match kind, rest with
    | .command, [] => some { status := v, motion := motionOf status, roleCode := none, result := none }
    | .identity, [code] => some { status := v, motion := motionOf status, roleCode := some code, result := none }
    | .poll, bytes =>
      (resultOf role bytes).map fun r => { status := v, motion := motionOf status, roleCode := none, result := r }
    | _, _ => none

/-- The kind of the answer to a kind of frame (12.7). -/
def FrameKind.answer : FrameKind → Byte
  | .command => 0x80
  | .poll => 0x90
  | .identity => 0x91

/-- The address mark stands on the first character and on no other (R16, log entry 18). -/
def marksHold : List BusChar → Bool
  | [] => false
  | c :: rest => c.mark && rest.all (!·.mark)

/-- A good answer to a frame from a station of some role, as R16 defines it; none when the answer fails
its check. -/
def decodeAnswer (f : BusFrame) (role : Role) (answer : List BusChar) : Option StationAnswer :=
  let bytes := answer.map (·.data)
  match (splitCheck bytes).1 with
  | address :: kind :: status :: rest =>
    if marksHold answer && checkHolds bytes && address.toNat == f.address && kind == f.kind.answer then
      answerBody f.kind role status rest
    else none
  | _ => none

/-- The status character that carries a status and a motion (12.7). -/
def statusByte (v : Reported) (m : Motion) : Byte :=
  let low :=
    match v with
    | .ready => 1
    | .lowSupply => 2
    | .jam => 3
    | .guardOpen => 4
  BitVec.ofNat 8 (if m = .running then low + 128 else low)

/-- The code and the further bytes of an outcome (12.7). -/
def StationOutcome.bytes : StationOutcome → List Byte
  | .fed => nat1 1
  | .miss => nat1 2
  | .double => nat1 3
  | .printed => nat1 4
  | .printFault => nat1 5
  | .read code => nat1 6 ++ nat4 code
  | .noRead => nat1 7
  | .sealed => nat1 8
  | .sealFault => nat1 9
  | .diverted => nat1 10
  | .passed => nat1 11
  | .stacked => nat1 12
  | .stackFault => nat1 13

/-- The bytes of an answer after its status (12.7). -/
def StationAnswer.rest (kind : FrameKind) (a : StationAnswer) : List Byte :=
  match kind with
  | .command => []
  | .identity => [a.roleCode.getD 0]
  | .poll =>
    match a.result with
    | none => nat1 0
    | some (tag, o) => nat1 1 ++ [tag] ++ o.bytes

/-- The characters a station sends for an answer (12.7): what `decodeAnswer` reads back. -/
def encodeAnswer (f : BusFrame) (a : StationAnswer) : List BusChar :=
  busChars f.address ([f.kind.answer, statusByte a.status a.motion] ++ a.rest f.kind)

end Sys2Proof.Machine
end

