-- ==== Sys2Proof/Machine/HostLink.lean ====
section
/-! DEFINITION. The host link (Chapter 12): the receiver and its queues, the transmitter, and the way a
request is taken and answered. A step that is not due leaves the state as it is (log entry 3). -/

namespace Sys2Proof.Machine

/-- What a step of the part ends in. -/
abbrev Next := Host.Outcome State Fault Refusal

/-! ### Entries and replies (R194) -/

/-- The request number of an entry; 0 when it is not readable (R194). -/
def RxEntry.number : RxEntry → Byte
  | .request n _ => n
  | .rejected _ _ n => n

/-- An entry is offered: it joins the receive queue, or the overflow list, or is discarded (R194). -/
def offerEntry (e : RxEntry) (s : State) : State :=
  if s.link.overflow = [] ∧ s.link.rx.length < 4 then { s with link := { s.link with rx := s.link.rx ++ [e] } }
  else if s.link.overflow.length < 16 then
    { s with link := { s.link with overflow := s.link.overflow ++ [e.number] } }
  else { s with link := { s.link with discarded := bump 65535 s.link.discarded } }

/-- The receiver's frame ends as an entry and the receiver hunts again (R192). -/
def endFrame (e : RxEntry) (s : State) : State :=
  offerEntry e { s with link := { s.link with receiver := .hunting } }

/-- A reply joins the reply queue (R194). -/
def queueReply (r : Reply) (s : State) : State :=
  { s with link := { s.link with replies := s.link.replies ++ [r] } }

/-- The reply queue has room, so that the head of the receive queue is due (R194). -/
def replyRoom (s : State) : Bool := s.link.replies.length < 2

/-- What a request is answered with: its result and the data its rule names. -/
structure Answer where
  result : ResultCode
  data : List Byte
deriving DecidableEq, Repr

/-- OK with data. -/
def Answer.ok (data : List Byte) : Answer := { result := .ok, data := data }

/-- A refusal with its data. -/
def Answer.refuse (result : ResultCode) (data : List Byte) : Answer := { result := result, data := data }

/-- FIELD: the record number, 0 except for LOAD, and the field number (R200). -/
def Answer.field (n : Nat) : Answer := Answer.refuse .field (nat1 0 ++ nat1 n)

/-- FIELD with further data (R200). -/
def Answer.fieldWith (n : Nat) (more : List Byte) : Answer := Answer.refuse .field (nat1 0 ++ nat1 n ++ more)

/-- The reply to a request (12.7). -/
def Answer.reply (a : Answer) (kind : Nat) (number : Byte) : Reply where
  kind := BitVec.ofNat 8 kind
  number := number
  result := a.result
  cause := none
  data := a.data

/-- The receive queue without its head. -/
def dropHead (s : State) : State := { s with link := { s.link with rx := s.link.rx.tail } }

/-- What taking a request does: its answer, and the state it leaves. -/
abbrev Taking := State → Answer × State

/-- The request at the head of the receive queue is taken, when it is of the kind and the reply queue has
room (R194). What it raises shares a moment of its own (R196). -/
def serve (kind : Request → Option Taking) (s : State) : Next :=
  match s.link.rx with
  | .request number r :: _ =>
    match kind r with
    | some take =>
      if replyRoom s then
        let out := take (newMoment (dropHead s))
        .next (queueReply (out.1.reply r.kind number) out.2)
      else .next s
    | none => .next s
  | _ => .next s

/-- The read request at the head of the receive queue is taken, when it is of the kind and the reply queue
has room. A read changes no state but the queues (12.6). -/
def serveRead (kind : Request → Option (State → Answer)) (s : State) : Next :=
  match s.link.rx with
  | .request number r :: _ =>
    match kind r with
    | some answer =>
      if replyRoom s then .next (queueReply ((answer s).reply r.kind number) (dropHead s)) else .next s
    | none => .next s
  | _ => .next s

/-! ### The receiver (R192, R193) -/

/-- A frame ending is due while the receiver is IN_FRAME (R192). -/
def whileInFrame (due : Bool) (f : State → State) (s : State) : Next :=
  if s.link.receiver = .inFrame ∧ due = true then .next (f s) else .next s

/-- FRAME_START: a 0x5A byte begins a frame while HUNTING (R192). -/
def execFrameStart (s : State) : Next := .next { s with link := { s.link with receiver := .inFrame } }

/-- FRAME_COMPLETE (R193). -/
def execFrameComplete (bytes : List Byte) (s : State) : Next :=
  whileInFrame (wholeFrame bytes) (endFrame (checkFrame bytes)) s

/-- FRAME_TRUNCATED (R192). -/
def execFrameTruncated (received : List Byte) (s : State) : Next :=
  whileInFrame (partFrame received) (endFrame (truncatedEntry received)) s

/-- FRAME_CHECK_ERROR (R192): the request number is not readable. -/
def execFrameCheckError (s : State) : Next := whileInFrame true (endFrame (.rejected .check 0 0)) s

/-- FRAME_LENGTH_ERROR (R192). -/
def execFrameLengthError (bodyLength : Word16) (kind number : Byte) (s : State) : Next :=
  whileInFrame (2400 < bodyLength.toNat) (endFrame (.rejected .length kind number)) s

/-! ### Rejected and overflow entries (R194) -/

/-- The REJECT reply (R194). -/
def rejectReply (cause : RejectCause) (kind number : Byte) : Reply where
  kind := kind
  number := number
  result := .reject
  cause := some cause
  data := []

/-- REJECT (R194): a rejected entry at the head of the receive queue. -/
def execReject (s : State) : Next :=
  match s.link.rx with
  | .rejected cause kind number :: _ =>
    if replyRoom s then .next (queueReply (rejectReply cause kind number) (dropHead s)) else .next s
  | _ => .next s

/-- OVERFLOW (R194): the head of the overflow list, when the receive queue is empty. -/
def execOverflow (s : State) : Next :=
  match s.link.rx, s.link.overflow with
  | [], number :: rest =>
    if replyRoom s then
      .next (queueReply (rejectReply .overflow 0 number) { s with link := { s.link with overflow := rest } })
    else .next s
  | _, _ => .next s

/-! ### The transmitter (R195 to R197) -/

/-- The transmitter sends a frame. -/
def transmit (frame : List Byte) (s : State) : State := { s with link := { s.link with tx := some frame } }

/-- TRANSMIT_REPLY (R195). -/
def execTransmitReply (s : State) : Next :=
  match s.link.tx, s.link.replies with
  | none, r :: rest => .next (transmit r.frame { s with link := { s.link with replies := rest } })
  | _, _ => .next s

/-- The older of the notice found so far and that of one more slot; the one found first on equal ages
(R196). -/
def olderOf (s : State) (best : Option (Fin 33 × PendingNotice)) (i : Fin 33) : Option (Fin 33 × PendingNotice) :=
  match best, s.link.notices[i] with
  | some b, some p => if p.age < b.2.age then some (i, p) else some b
  | none, some p => some (i, p)
  | best, none => best

/-- The oldest pending notice with its slot, by age and then by slot (R195, R196). -/
def oldestNotice (s : State) : Option (Fin 33 × PendingNotice) := (List.finRange 33).foldl (olderOf s) none

/-- The slot of the notice that is sent becomes empty (R196), and with the LINE notice the restarted mark
becomes no (R168, log entry 19). -/
def takeNotice (i : Fin 33) (s : State) : State :=
  { s with
    link := { s.link with notices := s.link.notices.set i.val none i.isLt }
    line := { s.line with restarted := s.line.restarted && i != 0 } }

/-- TRANSMIT_NOTICE (R196). -/
def execTransmitNotice (s : State) : Next :=
  match s.link.tx, s.link.replies, oldestNotice s with
  | none, [], some (i, p) => .next (transmit p.notice.frame (takeNotice i s))
  | _, _, _ => .next s

/-- The head of the report queue leaves it; a departure that brings the occupancy to 32 removes BACKLOG
(R197). -/
def dropReport (rest : List Report) (s : State) : State :=
  let s := { s with link := { s.link with reports := rest } }
  if rest.length = 32 then removeCause .backlog (newMoment s) else s

/-- TRANSMIT_REPORT (R197). -/
def execTransmitReport (s : State) : Next :=
  match s.link.tx, s.link.replies, oldestNotice s, s.link.reports with
  | none, [], none, r :: rest => .next (transmit r.frame (dropReport rest s))
  | _, _, _, _ => .next s

/-- FRAME_SENT (R195): the transmitter is free. -/
def execFrameSent (s : State) : Next := .next { s with link := { s.link with tx := none } }

end Sys2Proof.Machine
end

