-- ==== Sys2Proof/Machine/StepMonitor.lean ====
section
/-! DEFINITION. The step monitor (6.2): entering outcomes, blocks of 1000, the entry to OUT_OF_STEP, the
lost list and the way back through PROVING. -/

namespace Sys2Proof.Machine

/-- The newest entries of a list, up to a number, the list being oldest first. -/
def newest {α : Type} (n : Nat) (l : List α) : List α := l.drop (l.length - n)

/-- The content of a STEP notice (R123). An entry carries the numbers of cells condemned and marked and
the outcome that caused it, where one did. -/
def stepNotice (m : StepMonitor) (struck : Option (Nat × Nat)) (evidence : Option StepEvidence) : Notice :=
  .step {
    state := m.state
    conditions := m.conditions
    lossCount := m.lossCount
    fails := m.window.countP (· == .fail)
    windowSize := m.window.length
    slipCount := m.slipCount
    provingCount := m.provingCount
    lostTags := m.lost.length
    condemned := struck.map (·.1)
    marked := struck.map (·.2)
    evidence := evidence }

/-- The step monitor's state becomes what it is given, with a STEP notice (R123). -/
def changeStep (m : StepMonitor) (s : State) : State :=
  raise (stepNotice m none none) { s with step := m }

/-- The cell is one that a loss condemns or marks anew: BOUND, or OFFERED without an offer mark (R116,
R135, log entry 11). -/
def Cell.struckByLoss (c : Cell) : Bool :=
  c.content == .bound || (c.content == .offered && c.offerMark.isNone)

/-- A loss takes a cell: a BOUND one is condemned, an OFFERED one is marked or adds a later fault, any
other is not touched (R116, R135). -/
def Cell.takeLoss (k : Condemn) (c : Cell) : Cell :=
  if c.content == .bound || c.content == .offered then c.condemn k else c

/-- How many of some cells a loss condemns, and how many it marks (R116, R135). -/
def struckCounts (cells : List Cell) : Nat × Nat :=
  (cells.countP fun c => c.content == .bound, cells.countP fun c => c.content == .offered && c.offerMark.isNone)

/-- The number of positions from 0 to r (R116); none without a reader. -/
def upToReader (s : State) : Nat :=
  match readerPosition s with
  | some r => r + 1
  | none => 0

/-- OUT_OF_STEP with an empty lost list becomes PROVING, and cause STEP is removed (R118, R119). -/
def leaveOutOfStep (s : State) : State :=
  changeStep { s.step with state := .proving, provingCount := 0 } (removeCause .step s)

/-- The test of R118. -/
def stepAutoExit (s : State) : State :=
  if s.params.stepAuto = 1 ∧ s.step.state = .outOfStep ∧ s.step.lost = [] then leaveOutOfStep s else s

/-- The step monitor enters OUT_OF_STEP (R116). -/
def enterOutOfStep (conditions : List StepCondition) (evidence : Option StepEvidence) (s : State) : State :=
  let reach := upToReader s
  let near := s.track.cells.take reach
  let m : StepMonitor := { s.step with
    state := .outOfStep
    window := []
    slipCount := 0
    provingCount := 0
    lost := ((near.filter Cell.struckByLoss).map (·.tag)).reverse
    lossCount := bump 65535 s.step.lossCount
    conditions := conditions }
  let cells := near.map (Cell.takeLoss { kind := .stepLost, station := none }) ++ s.track.cells.drop reach
  let s := addCause .step { s with track := { s.track with cells := cells }, step := m }
  stepAutoExit (raise (stepNotice m (some (struckCounts near)) evidence) s)

/-- The slip count after an outcome (R113). -/
def ReadOutcome.slipCount (o : ReadOutcome) (n : Nat) : Nat :=
  match o with
  | .mismatch (some _) => bump 255 n
  | .matched | .mismatch none | .noRead => 0

/-- What an outcome enters, if anything (R113). -/
def ReadOutcome.entry (noreadCounts : Nat) : ReadOutcome → Option StepEntry
  | .matched => some .pass
  | .mismatch _ => some .fail
  | .noRead => if noreadCounts = 1 then some .fail else none

/-- The monitor with an outcome entered in the window and the block (R113). -/
def StepMonitor.enter (window : Nat) (e : StepEntry) (m : StepMonitor) : StepMonitor :=
  { m with
    window := newest window (m.window ++ [e])
    blockEntered := m.blockEntered + 1
    blockFailures := if e = .fail then m.blockFailures + 1 else m.blockFailures }

/-- An entered FAIL has brought the block above EXCESS_LIMIT for the first time (R115). -/
def StepMonitor.exceeds (limit : Nat) (e : StepEntry) (m : StepMonitor) : Bool :=
  e == .fail && limit < m.blockFailures && !m.blockNoticeRaised

/-- Every condition for OUT_OF_STEP that an entered outcome meets (R114, R115, R120), the monitor being
as the entry left it. -/
def lossConditions (p : Params) (m : StepMonitor) (e : StepEntry) (excess : Bool) : List StepCondition :=
  (if m.state = .inStep ∧ p.stepLock = 0 ∧ p.stepThreshold ≤ m.window.countP (· == .fail) then [.threshold] else [])
  ++ (if m.state = .inStep ∧ p.stepLock = 0 ∧ 2 ≤ m.slipCount then [.slips] else [])
  ++ (if excess ∧ p.excessRestep = 1 ∧ p.stepLock = 0 then [.excess] else [])
  ++ (if m.state = .proving ∧ e = .fail then [.provingFailure] else [])

/-- A PASS entered in PROVING (R120). -/
def provingPass (s : State) : State :=
  if s.params.provingRun ≤ s.step.provingCount + 1 then
    changeStep { s.step with state := .inStep, provingCount := 0 } s
  else { s with step := { s.step with provingCount := s.step.provingCount + 1 } }

/-- The block of 1000 entered outcomes is complete (R115). -/
def completeBlock (s : State) : State :=
  if 1000 ≤ s.step.blockEntered then
    { s with step := { s.step with
        blocksCompleted := bump 65535 s.step.blocksCompleted
        blockEntered := 0
        blockFailures := 0
        blockNoticeRaised := false } }
  else s

/-- STEP_EXCESS is raised for the block when an entered FAIL exceeds the limit (R115). -/
def noteExcess (excess : Bool) (s : State) : State :=
  if excess then
    raise (.stepExcess { block := s.step.blocksCompleted + 1, failures := s.step.blockFailures, limit := s.params.excessLimit })
      { s with step := { s.step with blockNoticeRaised := true } }
  else s

/-- An entered outcome is judged (R114, R115, R120). -/
def judgeEntry (e : StepEntry) (evidence : StepEvidence) (s : State) : State :=
  let excess := s.step.exceeds s.params.excessLimit e
  let conditions := lossConditions s.params s.step e excess
  let s := noteExcess excess s
  let s :=
    if conditions ≠ [] then enterOutOfStep conditions (some evidence) s
    else if s.step.state = .proving then provingPass s
    else s
  completeBlock s

/-- The step monitor takes the outcome of a read (R113, R121). -/
def takeReadOutcome (o : ReadOutcome) (evidence : StepEvidence) (s : State) : State :=
  match s.step.state with
  | .notMonitored | .outOfStep => s
  | .proving | .inStep =>
    let m := { s.step with slipCount := o.slipCount s.step.slipCount }
    match o.entry s.params.stepNoreadCounts with
    | none => { s with step := m }
    | some e => judgeEntry e evidence { s with step := m.enter s.params.stepWindow e }

/-- At step 2 of an advance the lost list loses the tags whose cells have passed the reader, and the exit
is tested (R117, R118). -/
def lostListAdvance (s : State) : State :=
  let near := (s.track.cells.take (upToReader s)).map (·.tag)
  stepAutoExit { s with step := { s.step with lost := s.step.lost.filter (near.contains ·) } }

/-- The offer of a cell has ended without an item: its mark is dropped, and its tag leaves the lost list
(R117), with the test of R118. -/
def lostOfferEnded (tag : Tag) (s : State) : State :=
  if s.step.lost.contains tag then
    stepAutoExit { s with step := { s.step with lost := s.step.lost.filter (· != tag) } }
  else s

/-- The step state that a reset of the monitor leaves it in (R112). -/
def stepStateAtReset (s : State) : StepState :=
  if slotsWith s .reader = [] then .notMonitored else .proving

/-- The monitor is set as a job reset sets it, cause STEP aside; a change of state raises the notice
(R112). -/
def clearStep (s : State) : State :=
  let m := StepMonitor.cleared (stepStateAtReset s)
  if s.step.state = m.state then { s with step := m } else changeStep m s

end Sys2Proof.Machine
end

