-- ==== Sys2Proof/Machine/BindingRequests.lean ====
section
/-! DEFINITION. The requests to binding (4.5) and to the step monitor (R119): STOP_POINT_SET,
STOP_POINT_CLEAR, PROOF, RESTEP. -/

namespace Sys2Proof.Machine

/-- The stop point becomes what it is given, and cause STOP_POINT is removed (R83, R84). -/
def setStopPoint (p : StopPoint) (s : State) : State :=
  removeCause .stopPoint { s with binding := { s.binding with stopPoint := p } }

/-- The target of a STOP_POINT_SET, or the number of the field that is out of range (R83). A target kind that
is neither of the two is named whatever the sequence (log entry 15). -/
def targetOf (target sequence : Nat) : Except Nat StopTarget :=
  match target with
  | 1 => if sequence = 0 then .error 2 else .ok (.sequence sequence)
  | 2 => .ok .versionChange
  | _ => .error 1

/-- STOP_POINT_SET (R83). -/
def takeStopPointSet (target sequence : Nat) : Taking := fun s =>
  match targetOf target sequence with
  | .error n => (Answer.field n, s)
  | .ok t => (Answer.ok (stopPointBytes s.binding.stopPoint), setStopPoint (.armed t) s)

/-- STOP_POINT_SET at the head of the receive queue (R83, R194). -/
def execStopPointSet (s : State) : Next :=
  serve (fun r => match r with
    | .stopPointSet target sequence => some (takeStopPointSet target sequence)
    | _ => none) s

/-- STOP_POINT_CLEAR (R84). -/
def takeStopPointClear : Taking := fun s =>
  (Answer.ok (stopPointBytes s.binding.stopPoint), setStopPoint .none s)

/-- STOP_POINT_CLEAR at the head of the receive queue (R84, R194). -/
def execStopPointClear (s : State) : Next :=
  serve (fun r => match r with | .stopPointClear => some takeStopPointClear | _ => none) s

/-- PROOF (R85). -/
def takeProof : Taking := fun s =>
  if s.binding.proofPending then (Answer.refuse .busy [], s)
  else (Answer.ok [], { s with binding := { s.binding with proofPending := true } })

/-- PROOF at the head of the receive queue (R85, R194). -/
def execProof (s : State) : Next :=
  serve (fun r => match r with | .proof => some takeProof | _ => none) s

/-- RESTEP (R119): the reply carries the step state before the request. -/
def takeRestep : Taking := fun s =>
  let before := nat1 s.step.state.code
  match s.step.state with
  | .notMonitored => (Answer.refuse .state before, s)
  | .inStep | .proving => (Answer.ok before, enterOutOfStep [.restep] none s)
  | .outOfStep =>
    if s.step.lost = [] then (Answer.ok before, leaveOutOfStep s)
    else (Answer.refuse .busy (before ++ nat1 s.step.lost.length), s)

/-- RESTEP at the head of the receive queue (R119, R194). -/
def execRestep (s : State) : Next :=
  serve (fun r => match r with | .restep => some takeRestep | _ => none) s

end Sys2Proof.Machine
end

