-- ==== Sys2Proof/Machine/BundleBuilder.lean ====
section
/-! DEFINITION. The bundle builder (Chapter 9): closing and opening bundles and trays, the break decision
for an arriving item, and the stacker's outcomes. -/

namespace Sys2Proof.Machine

/-- Whether a closure for a reason may be residual (R154). -/
def ClosureReason.mayBeResidual : ClosureReason → Bool
  | .bundleKey | .trayKey | .drain => true
  | .itemLimit | .bundleWeight | .trayBundles | .trayWeight | .host => false

/-- The split key that a closure leaves (R154). -/
def ClosureReason.splitKey (reason : ClosureReason) (key : Nat) : Option Nat :=
  if reason = .drain then none else some key

/-- The open bundle, if any, is closed (R154). -/
def closeBundle (reason : ClosureReason) (s : State) : State :=
  match s.bundles.bundle with
  | none => s
  | some b =>
    let residual := reason.mayBeResidual && b.items < s.params.bundleMinItems
    let s := queueReport (.bundle { bundle := b, residual := residual, reason := reason }) s
    let s := { s with bundles := { s.bundles with bundle := none, bundleSplitKey := reason.splitKey b.key } }
    tally .bundlesClosed none s

/-- The open tray, if any, is closed (R154). -/
def closeTray (reason : ClosureReason) (s : State) : State :=
  match s.bundles.tray with
  | none => s
  | some t =>
    let s := queueReport (.tray { tray := t, reason := reason }) s
    { s with bundles := { s.bundles with tray := none, traySplitKey := reason.splitKey t.key } }

/-- The serial after a serial: from 65,535 it becomes 1 (R155). -/
def nextSerial (n : Nat) : Nat := if n = 65535 then 1 else n + 1

/-- A tray is opened for a tray key (R155). -/
def openTray (key : Nat) (s : State) : State :=
  { s with bundles := { s.bundles with
      tray := some { serial := s.bundles.nextTraySerial, key := key, bundles := 0, items := 0, weight := 0, split := s.bundles.traySplitKey == some key }
      nextTraySerial := nextSerial s.bundles.nextTraySerial } }

/-- A bundle is opened for a bundle key in the open tray (R155). -/
def openBundle (key : Nat) (s : State) : State :=
  let traySerial := orZeroTray s.bundles.tray
  { s with bundles := { s.bundles with
      bundle := some { serial := s.bundles.nextBundleSerial, traySerial := traySerial, key := key, items := 0, weight := 0, first := none, last := none, split := s.bundles.bundleSplitKey == some key, unconfirmed := 0 }
      nextBundleSerial := nextSerial s.bundles.nextBundleSerial
      tray := s.bundles.tray.map fun t => { t with bundles := t.bundles + 1 } } }
where
  /-- The serial of the open tray; 0 for none, which no decision of R153 leaves behind. -/
  orZeroTray (t : Option OpenTray) : Nat := (t.map (·.serial)).getD 0

/-- Case 2 of R153: the item needs a new bundle. -/
def needsBundle (s : State) (r : Record) (w : Nat) : Bool :=
  match s.bundles.bundle with
  | none => true
  | some b =>
    b.key != r.bundleKey || s.params.bundleMaxItems ≤ b.items
      || (1 ≤ b.items && s.params.bundleMaxWeight < b.weight + w)

/-- The tray weight test of case 1 of R153. -/
def OpenTray.overweight (maxWeight w : Nat) (t : OpenTray) : Bool :=
  1 ≤ t.items && maxWeight < t.weight + w

/-- Case 1 of R153: the item needs a new tray. -/
def needsTray (s : State) (r : Record) (w : Nat) : Bool :=
  match s.bundles.tray with
  | none => true
  | some t =>
    t.key != r.trayKey || t.overweight s.params.trayMaxWeight w
      || (needsBundle s r w && s.params.trayMaxBundles ≤ t.bundles)

/-- The reason with which a break closes a bundle (R154). -/
def bundleBreakReason (s : State) (r : Record) (w : Nat) (b : OpenBundle) : ClosureReason :=
  if b.key ≠ r.bundleKey then .bundleKey
  else if s.bundles.tray.any (·.key != r.trayKey) then .trayKey
  else if s.params.bundleMaxItems ≤ b.items then .itemLimit
  else if 1 ≤ b.items ∧ s.params.bundleMaxWeight < b.weight + w then .bundleWeight
  else .trayWeight

/-- The reason with which a break closes a tray (R154). -/
def trayBreakReason (s : State) (r : Record) (w : Nat) (t : OpenTray) : ClosureReason :=
  if t.key ≠ r.trayKey then .trayKey
  else if needsBundle s r w ∧ s.params.trayMaxBundles ≤ t.bundles then .trayBundles
  else .trayWeight

/-- A break closes the open bundle, if any, with its reason (R153, R154). -/
def breakBundle (r : Record) (w : Nat) (s : State) : State :=
  match s.bundles.bundle with
  | some b => closeBundle (bundleBreakReason s r w b) s
  | none => s

/-- The break decision for an item at the stacker (R153): the mark, and the state with the bundle and
tray it is meant for open. -/
def decideBreak (r : Record) (s : State) : BreakMark × State :=
  let w := versionWeight s r.version
  if needsTray s r w then
    let reason := (s.bundles.tray.map (trayBreakReason s r w)).getD .trayWeight
    let s := closeTray reason (breakBundle r w s)
    (.newTray, openBundle r.bundleKey (openTray r.trayKey s))
  else if needsBundle s r w then
    (.newBundle, openBundle r.bundleKey (breakBundle r w s))
  else (.none, s)

/-- The serials of the open bundle and of its tray (R156). -/
def openSerials (s : State) : Nat × Nat :=
  match s.bundles.bundle with
  | some b => (b.serial, b.traySerial)
  | none => (0, 0)

/-- An item is counted into the open bundle and tray (R157), unconfirmed or not (R159). -/
def countItem (r : Record) (unconfirmed : Bool) (s : State) : State :=
  let w := versionWeight s r.version
  let bundle := s.bundles.bundle.map fun b => { b with
    items := b.items + 1
    weight := b.weight + w
    first := some (b.first.getD r.sequence)
    last := some r.sequence
    unconfirmed := if unconfirmed then b.unconfirmed + 1 else b.unconfirmed }
  let tray := s.bundles.tray.map fun t => { t with items := t.items + 1, weight := t.weight + w }
  { s with bundles := { s.bundles with bundle := bundle, tray := tray } }

/-- The record of a cell is finished: it leaves the cell, its version's reference count falls by one and
its final ITEM report is queued (R47, R42). -/
def finishRecord (p : Nat) (r : Record) (report : ItemReport) (s : State) : State :=
  queueReport (.item report) (releaseVersion r (modifyCell p Cell.withoutRecord s))

/-- The ITEM report of an item that reached the stacker (R157, R159). -/
def stackedReport (r : Record) (bundleSerial : Nat) (unconfirmed : Bool) : ItemReport where
  sequence := r.sequence
  outcome := .stacked
  reason := none
  cause := none
  attempts := r.attempts
  bundleSerial := some bundleSerial
  unconfirmed := unconfirmed

/-- The ITEM report of an item that finished off-line (R142, R158, R73). -/
def offlineReport (r : Record) (reason : OfflineReason) (cause : Option Condemn) (attempts : Nat) : ItemReport where
  sequence := r.sequence
  outcome := .offline
  reason := some reason
  cause := cause
  attempts := attempts
  bundleSerial := none
  unconfirmed := false

/-- How the stacker's exchange for a cell ended (R156). -/
inductive StackerEnd
  | stacked | fault | silent
deriving DecidableEq, Repr

/-- The outcome of a STACK for the record of a cell (R157, R158, R159). -/
def stackOutcome (n : SlotNo) (p : Nat) (c : Cell) (r : Record) (e : StackerEnd) (s : State) : State :=
  match e with
  | .stacked =>
    let s := countItem r false s
    let s := finishRecord p r (stackedReport r (openSerials s).1 false) s
    tally .stacked (some n) s
  | .fault =>
    let s := finishRecord p r (offlineReport r .stackLost none r.attempts) s
    tally .offlineFinishes (some n) (handFault (.stackFault c.tag) s)
  | .silent =>
    let s := countItem r true s
    let s := finishRecord p r (stackedReport r (openSerials s).1 true) s
    tally .stacked (some n) (handFault (.stackSilent c.tag) s)

/-- The outcome of a SET_ASIDE (R160). -/
def setAsideOutcome (c : Cell) (e : StackerEnd) (s : State) : State :=
  match e with
  | .stacked => s
  | .fault => handFault (.stackFault c.tag) s
  | .silent => handFault (.stackSilent c.tag) s

/-- A pending close is carried out when the stack in flight's exchange has ended (R165). -/
def carryOutClose (s : State) : State :=
  let pending := s.bundles.closePending
  let s := { s with bundles := { s.bundles with inFlight := none, closePending := .none } }
  match pending with
  | .none => s
  | .bundle => closeBundle .host s
  | .bundleAndTray => closeTray .host (closeBundle .host s)

/-- The stacker's exchange for the cell at a position ends (R156 to R160). The stacker is commanded for a
PASSED cell alone (R57), and no outcome of it changes a cell of another content (log entry 28). -/
def stackerEnded (n : SlotNo) (p : Nat) (e : StackerEnd) (s : State) : State :=
  match cellAt s p with
  | none => s
  | some c =>
    if c.content ≠ .passed then s
    else if c.escaped then setAsideOutcome c e s
    else
      match c.record with
      | some r => carryOutClose (stackOutcome n p c r e s)
      | none => s

/-- A drain close (R164). -/
def drainClose (s : State) : State :=
  let s := closeTray .drain (closeBundle .drain s)
  { s with bundles := { s.bundles with bundleSplitKey := none, traySplitKey := none } }

end Sys2Proof.Machine
end

