-- ==== Sys2Proof/Machine/PhaseMonitor.lean ====
section
/-! DEFINITION. The chain phase monitor (Chapter 7): the chain count, the marks, the judging of
revolutions and the phase loss. An operation that can lose the phase also answers whether it did: the
line controller takes the fault PHASE from it (R135). -/

namespace Sys2Proof.Machine

/-- Cause PHASE stands in this phase state (R128). -/
def PhaseState.suppresses : PhaseState → Bool
  | .seeking | .acquiring | .lost => true
  | .off | .locked => false

/-- The content of a PHASE notice (R137); an entry to LOST carries the cells condemned and marked. -/
def phaseNotice (m : PhaseMonitor) (chainLength : Nat) (struck : Option (Nat × Nat)) : Notice :=
  .phase {
    state := m.state
    chainLength := chainLength
    chainCount := m.chainCount
    window := m.window
    lossCount := m.lossCount
    lossCause := m.lossCause
    lastMisplaced := m.lastMisplaced
    restarts := m.restarts
    condemned := struck.map (·.1)
    marked := struck.map (·.2) }

/-- The monitor becomes what it is given. Cause PHASE follows the state (R128), and a change of state
raises the PHASE notice (R137). -/
def changePhase (m : PhaseMonitor) (struck : Option (Nat × Nat)) (s : State) : State :=
  let before := s.phase.state
  let s := putCause .phase m.state.suppresses { s with phase := m }
  if before = m.state then s else raise (phaseNotice m s.params.chainLength struck) s

/-- The state in which the monitor starts afresh (R126, R127). -/
def phaseStateAtStart (chainLength : Nat) : PhaseState := if chainLength = 0 then .off else .seeking

/-- The monitor as a job reset sets it, its two counts kept (R127, R136). -/
def PhaseMonitor.afresh (m : PhaseMonitor) (state : PhaseState) : PhaseMonitor :=
  { PhaseMonitor.cleared state with restarts := m.restarts, lossCount := m.lossCount }

/-- The monitor enters LOST from LOCKED, the fault PHASE aside (R135). -/
def enterLost (cause : LossCause) (s : State) : State :=
  let struck := struckCounts s.track.cells
  let cells := s.track.cells.map (Cell.takeLoss { kind := .phaseLost, station := none })
  changePhase { s.phase with
    state := .lost
    lossCount := bump 65535 s.phase.lossCount
    lossCause := some cause
    window := []
    zeroMark := false } (some struck) { s with track := { s.track with cells := cells } }

/-- The newest window entry takes one more error (R132, R133). -/
def addError (window : List Nat) : List Nat :=
  window.modify (window.length - 1) (bump 255)

/-- An error in LOCKED: it is entered, and the window is tested (R133). -/
def takeError (cause : LossCause) (s : State) : State × Bool :=
  let s := { s with phase := { s.phase with window := addError s.phase.window } }
  if 2 ≤ s.phase.window.sum then (enterLost cause s, true) else (s, false)

/-- The next advance brings the chain count to C: it is the wrap (R129). -/
def PhaseMonitor.wraps (chainLength : Nat) (m : PhaseMonitor) : Bool := chainLength ≤ m.chainCount + 1

/-- The wrap: the count returns to 0, and in LOCKED a new revolution opens in the window (R129). -/
def PhaseMonitor.wrapped (m : PhaseMonitor) : PhaseMonitor :=
  { m with
    sinceMark := bump 2048 m.sinceMark
    chainCount := 0
    zeroMark := false
    window := if m.state = .locked then newest 4 (m.window ++ [0]) else m.window }

/-- An advance that is not the wrap (R129). -/
def PhaseMonitor.counted (m : PhaseMonitor) : PhaseMonitor :=
  { m with sinceMark := bump 2048 m.sinceMark, chainCount := m.chainCount + 1 }

/-- The monitor takes a pitch advance (R129, R133). -/
def takePulse (s : State) : State × Bool :=
  if s.phase.state = .off then (s, false)
  else if s.phase.wraps s.params.chainLength then ({ s with phase := s.phase.wrapped }, false)
  else
    let s := { s with phase := s.phase.counted }
    if s.phase.state = .locked ∧ s.phase.chainCount = 1 ∧ s.phase.zeroMark = false then takeError .missing s
    else (s, false)

/-- A misplaced mark at count d, in LOCKED or LOST: a second one at the same count is a phase shift, and
d becomes the last misplaced count (R134). -/
def misplacedMark (d : Nat) (s : State) : State :=
  let s :=
    if s.phase.lastMisplaced = some d then
      raise (.phaseShift { d := d, chainLength := s.params.chainLength, state := s.phase.state }) s
    else s
  { s with phase := { s.phase with lastMisplaced := some d } }

/-- A mark that is not disregarded sets advances since mark to 0 after it has been judged (R130). -/
def markJudged (r : State × Bool) : State × Bool :=
  ({ r.1 with phase := { r.1.phase with sinceMark := 0 } }, r.2)

/-- A mark in ACQUIRING (R131). -/
def markAcquiring (s : State) : State :=
  if s.phase.chainCount = 0 ∧ s.phase.sinceMark = s.params.chainLength then
    changePhase { s.phase with state := .locked, window := [0], zeroMark := true, lastMisplaced := none } none s
  else
    { s with phase := { s.phase with chainCount := 0, restarts := bump 65535 s.phase.restarts } }

/-- A mark in LOCKED (R132). -/
def markLocked (s : State) : State × Bool :=
  if s.phase.chainCount = 0 then
    ({ s with phase := { s.phase with zeroMark := true, lastMisplaced := none } }, false)
  else takeError (.misplaced s.phase.chainCount) (misplacedMark s.phase.chainCount s)

/-- A mark in LOST (R136). -/
def markLost (s : State) : State :=
  if s.phase.chainCount = 0 then { s with phase := { s.phase with lastMisplaced := none } }
  else misplacedMark s.phase.chainCount s

/-- The mark is a repeat: no advance has come since the mark before (R130). -/
def repeatMark (s : State) : Bool :=
  s.phase.sinceMark == 0
    && (s.phase.state == .acquiring || s.phase.state == .locked || s.phase.state == .lost)

/-- The monitor takes a mark (R130). -/
def takeMark (s : State) : State × Bool :=
  if repeatMark s then (s, false)
  else
    match s.phase.state with
    | .off => (s, false)
    | .seeking => markJudged (changePhase { s.phase with state := .acquiring, chainCount := 0 } none s, false)
    | .acquiring => markJudged (markAcquiring s, false)
    | .locked => markJudged (markLocked s)
    | .lost => markJudged (markLost s, false)

/-- The fault of a phase loss is handed to the line controller (R135). -/
def handPhaseFault (lost : Bool) (s : State) : State := if lost then handFault .phase s else s

/-- The monitor is told of a LINE_START: LOST becomes SEEKING (R136). -/
def phaseLineStart (s : State) : State :=
  if s.phase.state = .lost then changePhase (s.phase.afresh .seeking) none s else s

end Sys2Proof.Machine
end

