-- ==== Sys2Proof/Machine/Parameters.lean ====
section
/-! DEFINITION. PARAM_SET (R198): the twenty parameters, their ranges, the refusals of the chapters that
own them, and what a change does at once. -/

namespace Sys2Proof.Machine

/-- The parameters, in number order (12.5). -/
inductive Param
  | queueLowMark | remakeLimit | keyWait | stepWindow | stepThreshold | stepNoreadCounts | stepLock
  | stepAuto | provingRun | excessLimit | excessRestep | chainLength | bundleMaxItems | bundleMaxWeight
  | bundleMinItems | trayMaxBundles | trayMaxWeight | driveStartTime | driveStopTime | counterFreeze
deriving DecidableEq, Repr

/-- The parameters, in number order. -/
def Param.all : List Param :=
  [.queueLowMark, .remakeLimit, .keyWait, .stepWindow, .stepThreshold, .stepNoreadCounts, .stepLock,
    .stepAuto, .provingRun, .excessLimit, .excessRestep, .chainLength, .bundleMaxItems, .bundleMaxWeight,
    .bundleMinItems, .trayMaxBundles, .trayMaxWeight, .driveStartTime, .driveStopTime, .counterFreeze]

/-- The parameter with a number, 1 to 20 (12.5). -/
def paramOf (number : Nat) : Option Param := if number = 0 then none else Param.all[number - 1]?

/-- The value of a parameter. -/
def Param.value (k : Param) (p : Params) : Nat :=
  match k with
  | .queueLowMark => p.queueLowMark
  | .remakeLimit => p.remakeLimit
  | .keyWait => p.keyWait
  | .stepWindow => p.stepWindow
  | .stepThreshold => p.stepThreshold
  | .stepNoreadCounts => p.stepNoreadCounts
  | .stepLock => p.stepLock
  | .stepAuto => p.stepAuto
  | .provingRun => p.provingRun
  | .excessLimit => p.excessLimit
  | .excessRestep => p.excessRestep
  | .chainLength => p.chainLength
  | .bundleMaxItems => p.bundleMaxItems
  | .bundleMaxWeight => p.bundleMaxWeight
  | .bundleMinItems => p.bundleMinItems
  | .trayMaxBundles => p.trayMaxBundles
  | .trayMaxWeight => p.trayMaxWeight
  | .driveStartTime => p.driveStartTime
  | .driveStopTime => p.driveStopTime
  | .counterFreeze => p.counterFreeze

/-- The parameters with one changed. -/
def Param.assign (k : Param) (v : Nat) (p : Params) : Params :=
  match k with
  | .queueLowMark => { p with queueLowMark := v }
  | .remakeLimit => { p with remakeLimit := v }
  | .keyWait => { p with keyWait := v }
  | .stepWindow => { p with stepWindow := v }
  | .stepThreshold => { p with stepThreshold := v }
  | .stepNoreadCounts => { p with stepNoreadCounts := v }
  | .stepLock => { p with stepLock := v }
  | .stepAuto => { p with stepAuto := v }
  | .provingRun => { p with provingRun := v }
  | .excessLimit => { p with excessLimit := v }
  | .excessRestep => { p with excessRestep := v }
  | .chainLength => { p with chainLength := v }
  | .bundleMaxItems => { p with bundleMaxItems := v }
  | .bundleMaxWeight => { p with bundleMaxWeight := v }
  | .bundleMinItems => { p with bundleMinItems := v }
  | .trayMaxBundles => { p with trayMaxBundles := v }
  | .trayMaxWeight => { p with trayMaxWeight := v }
  | .driveStartTime => { p with driveStartTime := v }
  | .driveStopTime => { p with driveStopTime := v }
  | .counterFreeze => { p with counterFreeze := v }

/-- The least and greatest value of a parameter (12.5); STEP_THRESHOLD is bounded by STEP_WINDOW, and
CHAIN_LENGTH may be 0 besides. -/
def Param.bounds (k : Param) (p : Params) : Nat × Nat :=
  match k with
  | .queueLowMark => (0, 255)
  | .remakeLimit => (0, 3)
  | .keyWait => (0, 63)
  | .stepWindow => (4, 16)
  | .stepThreshold => (1, p.stepWindow)
  | .stepNoreadCounts => (0, 1)
  | .stepLock => (0, 1)
  | .stepAuto => (0, 1)
  | .provingRun => (1, 8)
  | .excessLimit => (1, 999)
  | .excessRestep => (0, 1)
  | .chainLength => (16, 1024)
  | .bundleMaxItems => (1, 500)
  | .bundleMaxWeight => (100, 40000)
  | .bundleMinItems => (0, 50)
  | .trayMaxBundles => (1, 64)
  | .trayMaxWeight => (1000, 100000)
  | .driveStartTime => (1, 30)
  | .driveStopTime => (1, 60)
  | .counterFreeze => (0, 1)

/-- The value is in the parameter's range (12.5, R122, R127). -/
def Param.admits (k : Param) (p : Params) (v : Nat) : Bool :=
  ((k.bounds p).1 ≤ v && v ≤ (k.bounds p).2) || (k == .chainLength && v == 0)

/-- The parameters that change in IDLE only (12.5). -/
def Param.idleOnly (k : Param) : Bool :=
  [Param.stepWindow, .stepThreshold, .stepNoreadCounts, .stepLock, .chainLength].contains k

/-- A value of a parameter, in the bytes its range takes (R200). -/
def Param.bytes (k : Param) (v : Nat) : List Byte :=
  match k with
  | .trayMaxWeight => nat4 v
  | .excessLimit | .chainLength | .bundleMaxItems | .bundleMaxWeight => nat2 v
  | _ => nat1 v

/-- The values of the parameters in number order (R199). -/
def paramBytes (p : Params) : List Byte := Param.all.flatMap fun k => k.bytes (k.value p)

/-! ### The refusals of the owning chapters -/

/-- The remakes of the queue and of the OFFERED cell whose attempts exceed a limit (R37). -/
def remakesAbove (s : State) (limit : Nat) : Nat :=
  let above (r : Record) : Bool := r.kind == .remake && limit < r.attempts
  s.intake.queue.countP above + s.track.cells.countP fun c => c.content == .offered && c.record.any above

/-- The item count of the open bundle, with one more while a stack is in flight (R166). -/
def bundleItems (s : State) : Nat :=
  ((s.bundles.bundle.map (·.items)).getD 0) + if s.bundles.inFlight.isSome then 1 else 0

/-- The weight of the item of the stack in flight (R166). -/
def inFlightWeight (s : State) : Nat :=
  match s.bundles.inFlight with
  | none => 0
  | some f =>
    match (s.track.cells.find? (·.tag == f.tag)).bind (·.record) with
    | some r => versionWeight s r.version
    | none => 0

/-- The weight of the open bundle, with that of the stack in flight (R166). -/
def bundleWeight (s : State) : Nat := ((s.bundles.bundle.map (·.weight)).getD 0) + inFlightWeight s

/-- The refusal of the chapter that owns a parameter, if any (R37, R122, R166). -/
def ownerRefusal (k : Param) (v : Nat) (s : State) : Option Answer :=
  match k with
  | .remakeLimit =>
    if 0 < remakesAbove s v then some (Answer.refuse .inUse (nat1 (remakesAbove s v))) else none
  | .stepWindow => if v < s.params.stepThreshold then some (Answer.field 2) else none
  | .bundleMaxItems =>
    if s.bundles.bundle.isSome ∧ v < bundleItems s then some (Answer.refuse .inUse (nat2 (bundleItems s))) else none
  | .bundleMaxWeight =>
    if s.bundles.bundle.isSome ∧ 2 ≤ bundleItems s ∧ v < bundleWeight s then
      some (Answer.refuse .inUse (nat4 (bundleWeight s)))
    else none
  | _ => none

/-! ### The change -/

/-- What a change of a parameter does at once (R118, R122, R127). -/
def paramEffect (k : Param) (v : Nat) (s : State) : State :=
  match k with
  | .stepWindow => { s with step := { s.step with window := newest v s.step.window } }
  | .stepAuto => if v = 1 then stepAutoExit s else s
  | .chainLength => changePhase (s.phase.afresh (phaseStateAtStart v)) none s
  | _ => s

/-- A parameter takes a value (R198). -/
def setParam (k : Param) (v : Nat) (s : State) : State := paramEffect k v { s with params := k.assign v s.params }

/-- PARAM_SET (R198). -/
def takeParamSet (number value : Nat) : Taking := fun s =>
  match paramOf number with
  | none => (Answer.field 1, s)
  | some k =>
    if k.admits s.params value = false then (Answer.field 2, s)
    else if k.idleOnly = true ∧ s.line.state ≠ .idle then (Answer.refuse .state [], s)
    else
      match ownerRefusal k value s with
      | some a => (a, s)
      | none => (Answer.ok (k.bytes (k.value s.params) ++ k.bytes value), setParam k value s)

/-- PARAM_SET at the head of the receive queue (R198, R194). -/
def execParamSet (s : State) : Next :=
  serve (fun r => match r with | .paramSet number value => some (takeParamSet number value) | _ => none) s

end Sys2Proof.Machine
end

