-- ==== Sys2Proof/Machine/Bundles.lean ====
section
/-! DEFINITION. The requests to the bundle builder (Chapter 9): BUNDLE_CLOSE and BUNDLE_READ. -/

namespace Sys2Proof.Machine

/-- The data of an OK reply to BUNDLE_CLOSE: the serials of the bundle and tray, 0 for none, and whether
the closure is deferred (R165). -/
def closeReply (bundle tray : Option Nat) (deferred : Bool) : Answer :=
  Answer.ok (opt2 bundle ++ opt2 tray ++ flag deferred)

/-- A BUNDLE_CLOSE that is not refused is taken (R165). -/
def closeNow (withTray : Bool) : Taking := fun s =>
  match s.bundles.inFlight with
  | some f =>
    let pending : ClosePending := if withTray then .bundleAndTray else .bundle
    (closeReply (some f.bundleSerial) (some f.traySerial) true,
      { s with bundles := { s.bundles with closePending := pending } })
  | none =>
    let tray := if withTray then s.bundles.tray.map (·.serial) else none
    let closed := closeBundle .host s
    (closeReply (s.bundles.bundle.map (·.serial)) tray false, if withTray then closeTray .host closed else closed)

/-- BUNDLE_CLOSE (R165). -/
def takeBundleClose (trayOption : Nat) : Taking := fun s =>
  if 1 < trayOption then (Answer.field 1, s)
  else if 64 ≤ s.link.reports.length then (Answer.refuse .busy (nat2 s.link.reports.length), s)
  else if s.bundles.closePending ≠ .none then (Answer.refuse .busy (nat1 s.bundles.closePending.code), s)
  else closeNow (trayOption == 1) s

/-- BUNDLE_CLOSE at the head of the receive queue (R165, R194). -/
def execBundleClose (s : State) : Next :=
  serve (fun r => match r with | .bundleClose trayOption => some (takeBundleClose trayOption) | _ => none) s

/-- BUNDLE_READ (R167): the tables of 9.1 and the five parameters. -/
def answerBundleRead (s : State) : Answer :=
  let b := s.bundles
  let params := [Param.bundleMaxItems, .bundleMaxWeight, .bundleMinItems, .trayMaxBundles, .trayMaxWeight]
  Answer.ok (optional openBundleBytes b.bundle ++ optional openTrayBytes b.tray ++ nat2 b.nextBundleSerial
    ++ nat2 b.nextTraySerial ++ opt2 b.bundleSplitKey ++ opt2 b.traySplitKey ++ optional inFlightBytes b.inFlight
    ++ nat1 b.closePending.code ++ params.flatMap fun k => k.bytes (k.value s.params))

/-- BUNDLE_READ at the head of the receive queue (R167, R194). -/
def execBundleRead (s : State) : Next :=
  serveRead (fun r => match r with | .bundleRead => some answerBundleRead | _ => none) s

end Sys2Proof.Machine
end

