-- ==== Sys2Proof/Machine/Gate.lean ====
section
/-! DEFINITION. The reject gate (Chapter 8): what the end of a gate exchange does by the content of the
cell. -/

namespace Sys2Proof.Machine

/-- A remake's place in the intake queue: directly behind the last REMAKE, at the head when there is none
(R32). -/
def insertRemake (r : Record) : List Record → List Record
  | [] => [r]
  | x :: xs => if (x :: xs).any (·.kind == .remake) then x :: insertRemake r xs else r :: x :: xs

/-- The ITEM REJECTED report of a diverted record (R141). -/
def rejectedReport (r : Record) (cause : Option Condemn) (attempts : Nat) : ItemReport where
  sequence := r.sequence
  outcome := .rejected
  reason := none
  cause := cause
  attempts := attempts
  bundleSerial := none
  unconfirmed := false

/-- The ITEM ESCAPED report of a record whose condemned item was passed (R145). -/
def escapedReport (r : Record) (cause : Option Condemn) : ItemReport where
  sequence := r.sequence
  outcome := .escaped
  reason := none
  cause := cause
  attempts := r.attempts
  bundleSerial := none
  unconfirmed := false

/-- The record returns as a remake with its new attempts (R141, R32). -/
def returnRemake (n : SlotNo) (r : Record) (cause : Option Condemn) (s : State) : State :=
  let r' := { r with attempts := r.attempts + 1, kind := .remake }
  let s := setQueue (insertRemake r' s.intake.queue) s
  let s := queueReport (.item (rejectedReport r cause (r.attempts + 1))) s
  tally .remakesReturned (some n) (tally .divertsOfCondemned (some n) s)

/-- The record is over REMAKE_LIMIT and finishes off-line (R142). -/
def finishAttempts (n : SlotNo) (r : Record) (cause : Option Condemn) (s : State) : State :=
  let s := releaseVersion r s
  let s := queueReport (.item (offlineReport r .attempts cause (r.attempts + 1))) s
  tally .offlineFinishes (some n) (tally .divertsOfCondemned (some n) s)

/-- The content of the cell at a position becomes DIVERTED or PASSED. -/
def setContent (p : Nat) (content : Content) (s : State) : State :=
  modifyCell p (fun c => { c with content := content }) s

/-- The cell becomes PASSED with the escaped mark (R145 to R147). -/
def setEscaped (p : Nat) (s : State) : State :=
  modifyCell p (fun c => { c with content := .passed, escaped := true }) s

/-- DIVERTED for a CONDEMNED cell (R140): the record leaves the cell and its attempts are judged. -/
def divertCondemned (n : SlotNo) (p : Nat) (c : Cell) (s : State) : State :=
  let s := modifyCell p (fun c => { c.withoutRecord with content := .diverted }) s
  match c.record with
  | none => s
  | some r =>
    if r.attempts + 1 ≤ s.params.remakeLimit then returnRemake n r c.fault s
    else finishAttempts n r c.fault s

/-- PASSED, or no result, for a CONDEMNED cell: the item has escaped (R145). -/
def escapeCondemned (n : SlotNo) (p : Nat) (c : Cell) (s : State) : State :=
  let s := setEscaped p s
  let s :=
    match c.record with
    | some r => finishRecord p r (escapedReport r c.fault) s
    | none => s
  tally .escapes (some n) (handFault (.escape c.tag) s)

/-- PASSED, or no result, for a VOID cell (R146). -/
def escapeVoid (n : SlotNo) (p : Nat) (c : Cell) (s : State) : State :=
  tally .escapes (some n) (handFault (.unaddressedEscape c.tag) (setEscaped p s))

/-- The PROOF notice of a proof's gate outcome (R147). -/
def proofNotice (n : SlotNo) (c : Cell) (o : GateOutcome) (s : State) : Notice :=
  .proof {
    passed := o == .diverted
    tag := c.tag
    outcome := o
    fault := c.fault
    gateHealth := (stationAt s n).map (·.health)
    gateStatus := (stationAt s n).map (·.recorded) }

/-- The gate's outcome for a PROOF cell (R147). -/
def proofOutcome (n : SlotNo) (p : Nat) (c : Cell) (o : GateOutcome) (s : State) : State :=
  if o = .diverted then raise (proofNotice n c o s) (setContent p .diverted s)
  else
    let s := raise (proofNotice n c o s) (setEscaped p s)
    tally .escapes (some n) (handFault (.proofEscape c.tag) s)

/-- The gate's outcome for a BOUND cell (R143, R144). -/
def boundOutcome (n : SlotNo) (p : Nat) (c : Cell) (o : GateOutcome) (s : State) : State :=
  if o = .diverted then
    let k : Condemn := { kind := .gateUnrequested, station := some n }
    divertCondemned n p (c.condemn k) (condemnAt p k s)
  else setContent p .passed s

/-- The gate's exchange for the cell at a position ends; a closure is taken as a PASSED result (R139). -/
def gateEnded (n : SlotNo) (p : Nat) (o : GateOutcome) (s : State) : State :=
  match cellAt s p with
  | none => s
  | some c =>
    match c.content with
    | .condemned => if o = .diverted then divertCondemned n p c s else escapeCondemned n p c s
    | .bound => boundOutcome n p c o s
    | .void => if o = .diverted then setContent p .diverted s else escapeVoid n p c s
    | .proof => proofOutcome n p c o s
    | .empty | .offered | .passed | .diverted => s

end Sys2Proof.Machine
end

