-- ==== Sys2Proof/Machine/MainFeeder.lean ====
section
/-! DEFINITION. Binding (Chapter 4): the decision for the new cell at position 0, and the main feeder's
outcomes. -/

namespace Sys2Proof.Machine

/-! ### The decision for the new cell (4.1, 4.2) -/

/-- Binding leaves the new cell EMPTY as a gap (R70, R72). -/
def gap (s : State) : State := tally .gaps none s

/-- The new cell becomes a proof offer (R71). -/
def offerProof (s : State) : State :=
  modifyCell 0 (fun c => { c with content := .offered, proofOffer := true }) s

/-- A head record is a REMAKE that binding strands: a last bound key exists and its key differs (R73). -/
def strandable (lastKey : Option Nat) (r : Record) : Bool :=
  r.kind == .remake && lastKey.any (· != r.bundleKey)

/-- Binding strands the record at the head of the queue (R73, R33). -/
def strandHead (s : State) (r : Record) : State :=
  let s := releaseVersion r (setQueue s.intake.queue.tail s)
  let s := queueReport (.item (offlineReport r .stranded none r.attempts)) s
  tally .offlineFinishes none (tally .strands none s)

/-- Every strandable head is stranded, one after the other (R73). -/
def strandHeads (s : State) : State :=
  (s.intake.queue.takeWhile (strandable s.binding.lastKey)).foldl strandHead s

/-- The head record meets the target of an armed stop point (R74). -/
def StopTarget.metBy (lastVersion : Option (Fin 32)) (head : Record) : StopTarget → Bool
  | .sequence n => head.sequence == n
  | .versionChange => lastVersion.any (· != head.version)

/-- The stop point is ARMED and met by the head (R74). -/
def stopPointMet (s : State) (head : Record) : Option StopTarget :=
  match s.binding.stopPoint with
  | .armed t => if t.metBy s.binding.lastVersion head then some t else none
  | .none | .met _ _ => none

/-- A drain is entered with an option (R174). -/
def enterDraining (option : DrainOption) (s : State) : State :=
  changeLine { s.line with state := .draining, drain := option } s

/-- The stop point is met: the cell stays EMPTY, STOP_POINT is added and the line drains (R74). -/
def meetStopPoint (t : StopTarget) (head : Record) (s : State) : State :=
  let s := { s with binding := { s.binding with stopPoint := .met t head.sequence } }
  let s := addCause .stopPoint s
  let s := if s.line.state = .running then enterDraining .noClose s else s
  let s := raise (.stopPoint t head.sequence) s
  gap s

/-- Some cell at positions 0 to the gate position is OFFERED, BOUND or CONDEMNED and holds a record of
the key (R75). -/
def keyUpstreamOfGate (s : State) (key : Nat) : Bool :=
  match positionWith s .gate with
  | none => false
  | some g =>
    (s.track.cells.take (g + 1)).any fun c =>
      (c.content == .offered || c.content == .bound || c.content == .condemned)
        && c.record.any (·.bundleKey == key)

/-- The key wait holds for the head (R75). -/
def keyWaitHolds (s : State) (head : Record) : Bool :=
  0 < s.params.keyWait && head.kind == .fresh
    && match s.binding.lastKey with
      | some key => head.bundleKey != key && keyUpstreamOfGate s key
      | none => false

/-- A gap left for the key wait (R75). -/
def keyWaitGap (s : State) : State :=
  let s := { s with binding := { s.binding with keyWaitCount := s.binding.keyWaitCount + 1 } }
  tally .keyWaitGaps none (tally .gaps none s)

/-- The head record is offered into the new cell (R76, R30). -/
def offerHead (head : Record) (s : State) : State :=
  let s := setQueue s.intake.queue.tail s
  let s := modifyCell 0 (fun c => { c with content := .offered, record := some head }) s
  let s := { s with binding := { s.binding with keyWaitCount := 0 } }
  tally .offers none s

/-- Binding's tests once no remake at the head is left to strand (4.1, orders 3 to 7). -/
def decideHead (s : State) : State :=
  match s.intake.queue with
  | [] => gap s
  | head :: _ =>
    match stopPointMet s head with
    | some t => meetStopPoint t head s
    | none =>
      if keyWaitHolds s head && s.binding.keyWaitCount < s.params.keyWait then keyWaitGap s
      else offerHead head s

/-- Binding decides the new cell at position 0 (4.1). -/
def decideNewCell (s : State) : State :=
  if !s.line.feed.isEmpty then gap s
  else if s.binding.proofPending then offerProof s
  else decideHead (strandHeads s)

/-! ### The main feeder's outcome (4.3) -/

/-- The demands of a version, each PENDING (R87). -/
def demandsOf (s : State) (v : Fin 32) : List Demand :=
  match s.versions[v].definition with
  | some d => d.inserts.map fun n => { slot := n, fed := false }
  | none => []

/-- An OFFERED cell whose feed succeeded and whose offer mark has been dealt with: the mark becomes its
fault (R65). -/
def Cell.offerTaken (content : Content) (c : Cell) : Cell :=
  { c with
    content := if c.offerMark.isSome && content == .bound then .condemned else content
    proofOffer := false
    fault := c.offerMark
    offerMark := none }

/-- The cell after FED or DOUBLE (R77, R78, R81): BOUND, CONDEMNED or PROOF, with MAIN_DOUBLE as its fault
or a later fault on a DOUBLE of a record. -/
def Cell.fedBy (n : SlotNo) (double : Bool) (demands : List Demand) (c : Cell) : Cell :=
  let k : Condemn := { kind := .mainDouble, station := some n }
  if c.record.isSome then
    let c := { c.offerTaken .bound with demands := demands }
    if double then c.condemn k else c
  else
    let c := c.offerTaken .proof
    if double && c.fault.isSome then c.laterFault else c

/-- The record of an OFFERED cell is bound: the last bound values are set, and a FRESH record leaves the
fresh count (R77, R78, R82). -/
def bindRecord (n : SlotNo) (p : Nat) (r : Record) (double : Bool) (s : State) : State :=
  let before := freshCount s
  let s := modifyCell p (Cell.fedBy n double (demandsOf s r.version)) s
  let s := { s with binding := { s.binding with lastKey := some r.bundleKey, lastVersion := some r.version } }
  let s := tally .binds (some n) (freshFell before s)
  if double then tally .mainDoubles (some n) s else s

/-- FED or DOUBLE for a proof offer (R81). -/
def proofFed (n : SlotNo) (p : Nat) (double : Bool) (s : State) : State :=
  let s := modifyCell p (Cell.fedBy n double []) s
  let s := { s with binding := { s.binding with proofPending := false } }
  if double then tally .mainDoubles (some n) s else s

/-- An OFFERED cell whose offer ended without an item, or with one that cannot be named: its record, if
any, leaves it and the mark is dropped (R79, R80, R81). -/
def Cell.offerWithdrawn (content : Content) (c : Cell) : Cell :=
  { c.withoutRecord with content := content, proofOffer := false, offerMark := none }

/-- The offer of a cell is withdrawn: the record returns to the very front of the queue (R31), and the
cell's tag leaves the lost list (R117). -/
def withdrawOffer (p : Nat) (c : Cell) (content : Content) (s : State) : State :=
  let s := modifyCell p (Cell.offerWithdrawn content) s
  let s :=
    match c.record with
    | some r => setQueue (r :: s.intake.queue) s
    | none => s
  lostOfferEnded c.tag s

/-- How the main feed of a cell ended (4.3). -/
inductive FeedEnd
  | fed | miss | double | closed
deriving DecidableEq, Repr

/-- The main feed of the cell at a position ends (R77 to R81). -/
def mainFeedEnded (n : SlotNo) (p : Nat) (e : FeedEnd) (s : State) : State :=
  match cellAt s p with
  | none => s
  | some c =>
    if c.content ≠ .offered then s
    else
      match e with
      | .fed =>
        match c.record with
        | some r => bindRecord n p r false s
        | none => proofFed n p false s
      | .double =>
        match c.record with
        | some r => bindRecord n p r true s
        | none => proofFed n p true s
      | .miss => tally .mainMisses (some n) (withdrawOffer p c .empty s)
      | .closed =>
        let s := withdrawOffer p c .void s
        if c.proofOffer then { s with binding := { s.binding with proofPending := false } } else s

end Sys2Proof.Machine
end

