-- ==== Sys2Proof/Machine/Track.lean ====
section
/-! DEFINITION. The pitch track (Chapter 3): closing exchanges, the shift, the commands derived at an
advance, the results of the stations (with the outcomes of Chapter 5 and of 6.1), and the four steps of
an advance. -/

namespace Sys2Proof.Machine

/-! ### Exchanges (R49, R54, R59) -/

/-- The command is the one for a slot and a cell tag. -/
def BusCommand.isFor (n : SlotNo) (t : Tag) (c : BusCommand) : Bool :=
  match c.order with
  | .cell tag _ => c.slot == n && tag == t
  | .run | .stop => false

/-- The command for a slot and a cell tag is still in the transmit queue (R49). -/
def stillQueued (s : State) (n : SlotNo) (t : Tag) : Bool := s.bus.txQueue.any (·.isFor n t)

/-- The command for a slot and a cell tag leaves the transmit queue unsent (R20, R61). -/
def withdraw (n : SlotNo) (t : Tag) (s : State) : State :=
  { s with bus := { s.bus with txQueue := s.bus.txQueue.filter (!·.isFor n t) } }

/-- The cell has an open exchange for a station (R59). -/
def Cell.hasExchange (n : SlotNo) (c : Cell) : Bool := c.exchanges.any (·.slot == n)

/-- The cell's exchange with a station is removed (R49, R59). -/
def Cell.endExchange (n : SlotNo) (c : Cell) : Cell :=
  { c with exchanges := c.exchanges.eraseP (·.slot == n) }

/-- A command is derived for the cell at a position: an exchange opens and the command joins the tail of
the transmit queue (R54). -/
def openExchange (n : SlotNo) (p closing : Nat) (tag : Tag) (o : CellOrder) (s : State) : State :=
  let s := modifyCell p (fun c => { c with exchanges := c.exchanges ++ [{ slot := n, closing := closing }] }) s
  { s with bus := { s.bus with txQueue := s.bus.txQueue ++ [{ slot := n, order := .cell tag o }] } }

/-- A print job ends: a credit is returned (R67). -/
def returnCredit (s : State) : State :=
  { s with track := { s.track with printJobs := s.track.printJobs - 1 } }

/-- The print state of the cell at a position changes (R94). -/
def setPrint (p : Nat) (v : PrintState) (s : State) : State := modifyCell p (fun c => { c with print := v }) s

/-! ### Step 1: closures (R49 to R51) -/

/-- How an exchange closed without a result. -/
inductive Closure
  | noReport | busLate
deriving DecidableEq, Repr

/-- The condemn cause of a closure (R50, R51). -/
def Closure.condemn (k : Closure) : CondemnKind :=
  match k with
  | .noReport => .noReport
  | .busLate => .busLate

/-- The gate's outcome of a closure (R139). -/
def Closure.gate (k : Closure) : GateOutcome :=
  match k with
  | .noReport => .noReport
  | .busLate => .busLate

/-- What a closure does to the cell at a position, by the role of the station (R50, R51). -/
def closureEffect (k : Closure) (n : SlotNo) (r : Role) (p : Nat) (s : State) : State :=
  match r with
  | .mainFeeder => mainFeedEnded n p .closed s
  | .printer => condemnAt p { kind := k.condemn, station := some n } (setPrint p .failed (returnCredit s))
  | .insertFeeder | .carrierFeeder | .reader | .sealer =>
    condemnAt p { kind := k.condemn, station := some n } s
  | .gate => gateEnded n p k.gate s
  | .stacker => stackerEnded n p .silent s
  | .drive => s

/-- What a closure hands besides: a NO_REPORT goes to the station table and to the tally counters, a
BUS_LATE to the tally counters alone (R50, R51; the order is log entry 17). -/
def handClosure (k : Closure) (n : SlotNo) (s : State) : State :=
  match k with
  | .noReport => tally .noReports (some n) (updateStation n Station.afterNoReport s)
  | .busLate => tally .busLates (some n) s

/-- One exchange of the cell at a position closes (R49). -/
def closeExchange (p : Nat) (tag : Tag) (n : SlotNo) (s : State) : State :=
  let k : Closure := if stillQueued s n tag then .busLate else .noReport
  let s := modifyCell p (Cell.endExchange n) (withdraw n tag s)
  match stationAt s n with
  | some st => handClosure k n (closureEffect k n st.role p s)
  | none => s

/-- The exchanges that close with the cell at a position close, in the order they were opened (R49, log
entry 8). -/
def closeCell (s : State) (p : Nat) : State :=
  match cellAt s p with
  | some c => (c.exchanges.filter (·.closing == p)).foldl (fun s e => closeExchange p c.tag e.slot s) s
  | none => s

/-- Step 1 of an advance (R49): cell by cell from the lowest position up. -/
def closeExchanges (s : State) : State := (List.range s.track.cells.length).foldl closeCell s

/-! ### Steps 2 and 3: shift and creation (R52, R53) -/

/-- A new cell (3.1.2). -/
def Cell.new (tag : Tag) : Cell where
  tag := tag
  content := .empty
  proofOffer := false
  record := none
  formerSequence := none
  escaped := false
  offerMark := none
  fault := none
  laterFaults := 0
  demands := []
  print := .none
  carrier := .none
  verification := .none
  sealed := false
  exchanges := []

/-- Every cell moves one position up, the cell that stood at S leaves, and an EMPTY cell with the next
tag stands at position 0 (R46, R52, R53). -/
def shift (s : State) : State :=
  { s with track := { s.track with
      cells := Cell.new s.track.nextTag :: s.track.cells.take (stackerPosition s)
      nextTag := s.track.nextTag + 1 } }

/-- A BOUND cell on a halted line is condemned (R58). -/
def Cell.takeJog (c : Cell) : Cell :=
  if c.content = .bound then c.condemn { kind := .movedWhileHalted, station := none } else c

/-- A jog condemns every BOUND cell after the shift (R58). -/
def condemnMoved (s : State) : State :=
  { s with track := { s.track with cells := s.track.cells.map Cell.takeJog } }

/-! ### Step 4: commands (R54 to R58) -/

/-- The cell at a position is condemned STATION_UNAVAILABLE (R55, R56). -/
def condemnUnavailable (n : SlotNo) (p : Nat) (s : State) : State :=
  condemnAt p { kind := .stationUnavailable, station := some n } s

/-- The cell demands this feeder's insert and has not received it (R55). -/
def Cell.demandsInsert (n : SlotNo) (c : Cell) : Bool := c.demands.any fun d => d.slot == n && !d.fed

/-- The closing position of a print exchange: the carrier feeder's position less one (R49). -/
def printClosing (s : State) (p : Nat) : Nat := (positionWith s .carrierFeeder).getD (p + 1) - 1

/-- The sequence of the cell's record, which is its carrier code (R93, R99). -/
def Cell.sequence (c : Cell) : Nat := (c.record.map (·.sequence)).getD 0

/-- PRINT is derived for a BOUND cell (R55, R93). -/
def derivePrint (n : SlotNo) (p : Nat) (c : Cell) (s : State) : State :=
  let order : CellOrder := .print c.sequence ((c.record.map (·.lines)).getD []) (c.record.bind (·.keyline))
  let s := openExchange n p (printClosing s p) c.tag order (setPrint p .sent s)
  { s with track := { s.track with printJobs := s.track.printJobs + 1 } }

/-- The printer and a BOUND cell (R55, R97). -/
def derivePrinter (n : SlotNo) (p : Nat) (c : Cell) (s : State) : State :=
  if !usable s n then condemnUnavailable n p s
  else if s.track.printJobs < 2 then derivePrint n p c s
  else condemnAt p { kind := .printNoCredit, station := some n } (setPrint p .refused s)

/-- The carrier feeder and a BOUND cell (R55, R99). -/
def deriveCarrier (n : SlotNo) (p : Nat) (c : Cell) (s : State) : State :=
  if c.print ≠ .printed then condemnAt p { kind := .carrierNotPrinted, station := some n } s
  else if usable s n then openExchange n p p c.tag (.feedCarrier c.sequence) s
  else condemnUnavailable n p s

/-- The reader and a BOUND cell (R56). -/
def deriveReader (n : SlotNo) (p : Nat) (c : Cell) (s : State) : State :=
  if !usable s n then condemnUnavailable n p s
  else if c.carrier = .fed then openExchange n p p c.tag .read s
  else s

/-- The sealer (R56, R103). -/
def deriveSealer (n : SlotNo) (p : Nat) (c : Cell) (s : State) : State :=
  match c.content with
  | .bound => if usable s n then openExchange n p p c.tag .seal s else condemnUnavailable n p s
  | .condemned | .void | .proof => if usable s n then openExchange n p p c.tag .seal s else s
  | .empty | .offered | .passed | .diverted => s

/-- The gate (R57, R138). -/
def deriveGate (n : SlotNo) (p : Nat) (c : Cell) (s : State) : State :=
  match c.content with
  | .bound => openExchange n p p c.tag .pass s
  | .condemned | .void | .proof => openExchange n p p c.tag .divert s
  | .empty | .offered | .passed | .diverted => s

/-- STACK is derived for a PASSED cell with its record: the break is decided and the stack is in flight
(R153, R156). -/
def deriveStack (n : SlotNo) (p : Nat) (c : Cell) (r : Record) (s : State) : State :=
  let d := decideBreak r s
  let serials := openSerials d.2
  let s := openExchange n p p c.tag (.stack d.1 serials.1 serials.2) d.2
  { s with bundles := { s.bundles with
      inFlight := some { tag := c.tag, mark := d.1, bundleSerial := serials.1, traySerial := serials.2 } } }

/-- The stacker (R57, R160). -/
def deriveStacker (n : SlotNo) (p : Nat) (c : Cell) (s : State) : State :=
  if c.content ≠ .passed then s
  else if c.escaped then openExchange n p p c.tag .setAside s
  else
    match c.record with
    | some r => deriveStack n p c r s
    | none => s

/-- The command of one station for the cell at its position, at a running advance (R54 to R57). -/
def deriveFor (n : SlotNo) (r : Role) (p : Nat) (c : Cell) (s : State) : State :=
  match r with
  | .mainFeeder => if c.content = .offered then openExchange n p p c.tag .feed s else s
  | .insertFeeder =>
    if c.content = .bound ∧ c.demandsInsert n then
      if usable s n then openExchange n p p c.tag .feed s else condemnUnavailable n p s
    else s
  | .printer => if c.content = .bound then derivePrinter n p c s else s
  | .carrierFeeder => if c.content = .bound then deriveCarrier n p c s else s
  | .reader => if c.content = .bound then deriveReader n p c s else s
  | .sealer => deriveSealer n p c s
  | .gate => deriveGate n p c s
  | .stacker => deriveStacker n p c s
  | .drive => s

/-- The role is commanded at an advance of this kind: at a jog, the gate and the stacker alone (R58). -/
def Role.commanded (jog : Bool) (r : Role) : Bool := !jog || r == .gate || r == .stacker

/-- The command of the station, if any, at one position (R54, R58). -/
def deriveAt (jog : Bool) (s : State) (p : Nat) : State :=
  match cellAt s p, slotAtPosition s p with
  | some c, some n =>
    match stationAt s n with
    | some st => if st.role.commanded jog then deriveFor n st.role p c s else s
    | none => s
  | _, _ => s

/-- Step 4 of an advance, in ascending order of position (R54). -/
def deriveCommands (jog : Bool) (s : State) : State :=
  (List.range s.track.cells.length).foldl (deriveAt jog) s

/-! ### The advance (R48) -/

/-- Step 3's decision: binding is asked at a running advance while the line is RUNNING (R53, R70). -/
def askBinding (jog : Bool) (s : State) : State :=
  if !jog && s.line.state == .running then decideNewCell s else s

/-- The pitch track takes an advance, whose kind the line state fixes at this moment (R48). -/
def trackAdvance (s : State) : State :=
  let jog := s.line.state.halted
  let s := shift (closeExchanges s)
  let s := lostListAdvance (if jog then condemnMoved s else s)
  tallyAdvance (deriveCommands jog (askBinding jog s))

/-- A cell on the line holds something a drain waits for (R175). -/
def Cell.holdsDrain (c : Cell) : Bool := !(c.content == .empty || c.content == .diverted)

/-- The line controller's test at an advance taken in DRAINING (R175). -/
def drainTest (draining : Bool) (s : State) : State :=
  if draining ∧ s.line.state = .draining ∧ s.track.cells.any Cell.holdsDrain = false then
    enterStopping (if s.line.drain = .close then drainClose s else s)
  else s

/-- The track's advance, then the line controller's test of it (R175). The advance has then been handed to
the counters, and their windows have moved, before a drain close (log entry 34). -/
def trackThenDrain (s : State) : State :=
  drainTest (s.line.state == .draining) (trackAdvance s)

/-! ### Results (R59 to R62) -/

/-- The position of the cell with a tag and an open exchange for a station (R59). -/
def exchangePosition (s : State) (n : SlotNo) (t : Tag) : Option Nat :=
  s.track.cells.findIdx? fun c => c.tag == t && c.hasExchange n

/-- A late result is discarded (R60). -/
def lateResult (n : SlotNo) (s : State) : State :=
  let s := { s with track := { s.track with lateCount := bump 65535 s.track.lateCount } }
  tally .lateResults (some n) (updateStation n Station.afterLate s)

/-- The cell's demand for a station becomes FED (R89). -/
def Cell.demandFed (n : SlotNo) (c : Cell) : Cell :=
  { c with demands := c.demands.map fun d => if d.slot = n then { d with fed := true } else d }

/-- The cell at a position is condemned for an outcome of a station. -/
def failAt (k : CondemnKind) (n : SlotNo) (p : Nat) (s : State) : State :=
  condemnAt p { kind := k, station := some n } s

/-- The station table takes an applied result (R7, R8). -/
def countResult (n : SlotNo) (o : StationOutcome) (s : State) : State :=
  updateStation n (Station.afterResult o) s

/-- An insert feeder's outcome (R89, R90). -/
def insertResult (n : SlotNo) (p : Nat) (o : StationOutcome) (s : State) : State :=
  match o with
  | .fed => tally .insertFeeds (some n) (countResult n o (modifyCell p (Cell.demandFed n) s))
  | .miss => tally .insertMisses (some n) (countResult n o (failAt .insertMiss n p s))
  | .double => tally .insertDoubles (some n) (countResult n o (failAt .insertDouble n p s))
  | _ => s

/-- The printer's outcome (R95, R96). -/
def printerResult (n : SlotNo) (p : Nat) (o : StationOutcome) (s : State) : State :=
  match o with
  | .printed => tally .prints (some n) (countResult n o (returnCredit (setPrint p .printed s)))
  | .printFault =>
    tally .printFaults (some n) (countResult n o (failAt .printFault n p (returnCredit (setPrint p .failed s))))
  | _ => s

/-- The carrier feeder's outcome (R100, R101). -/
def carrierResult (n : SlotNo) (p : Nat) (o : StationOutcome) (s : State) : State :=
  match o with
  | .fed => countResult n o (modifyCell p (fun c => { c with carrier := .fed }) s)
  | .miss =>
    let s := failAt .carrierMiss n p (modifyCell p (fun c => { c with carrier := .missed }) s)
    tally .carrierMisses (some n) (countResult n o s)
  | _ => s

/-- The sealer's outcome (R104). -/
def sealerResult (n : SlotNo) (p : Nat) (o : StationOutcome) (s : State) : State :=
  match o with
  | .sealed => countResult n o (modifyCell p (fun c => { c with sealed := true }) s)
  | .sealFault => countResult n o (failAt .sealFault n p s)
  | _ => s

/-- The main feeder's outcome (R77 to R81). -/
def mainFeederResult (n : SlotNo) (p : Nat) (o : StationOutcome) (s : State) : State :=
  match o with
  | .fed => countResult n o (mainFeedEnded n p .fed s)
  | .miss => countResult n o (mainFeedEnded n p .miss s)
  | .double => countResult n o (mainFeedEnded n p .double s)
  | _ => s

/-- The gate's outcome (R139). -/
def gateResult (n : SlotNo) (p : Nat) (o : StationOutcome) (s : State) : State :=
  match o with
  | .diverted => countResult n o (gateEnded n p .diverted s)
  | .passed => countResult n o (gateEnded n p .passed s)
  | _ => s

/-- The stacker's outcome (R156 to R160). -/
def stackerResult (n : SlotNo) (p : Nat) (o : StationOutcome) (s : State) : State :=
  match o with
  | .stacked => countResult n o (stackerEnded n p .stacked s)
  | .stackFault => countResult n o (stackerEnded n p .fault s)
  | _ => s

/-- The code is the sequence of the record held by the cell at a position (R109). -/
def codeAt (s : State) (p code : Nat) : Bool :=
  match cellAt s p with
  | some c => c.record.any (·.sequence == code)
  | none => false

/-- The comparison of a read code with the cell's sequence and with those of its neighbours at r - 1 and
r + 1 (R109). -/
def readOutcome (s : State) (c : Cell) (code : Nat) : ReadOutcome :=
  match readerPosition s with
  | some r =>
    if c.record.any (·.sequence == code) then .matched
    else if 0 < r ∧ codeAt s (r - 1) code then .mismatch (some .upstream)
    else if codeAt s (r + 1) code then .mismatch (some .downstream)
    else .mismatch none
  | none => if c.record.any (·.sequence == code) then .matched else .mismatch none

/-- The verification and the condemnation that a read gives (R109, R110). -/
def verifyCell (n : SlotNo) (p : Nat) (o : ReadOutcome) (s : State) : State :=
  let mark (v : Verification) (s : State) : State := modifyCell p (fun c => { c with verification := v }) s
  match o with
  | .matched => mark .matched s
  | .mismatch _ => failAt .verifyMismatch n p (mark .failed s)
  | .noRead => failAt .verifyNoRead n p (mark .failed s)

/-- The events of a read (R109, R110). -/
def tallyRead (n : SlotNo) (o : ReadOutcome) (s : State) : State :=
  match o with
  | .matched => tally .matches (some n) s
  | .mismatch none => tally .mismatches (some n) s
  | .mismatch (some _) => tally .slips (some n) (tally .mismatches (some n) s)
  | .noRead => tally .noReads (some n) s

/-- The slip of a read outcome (R109). -/
def ReadOutcome.slip (o : ReadOutcome) : Option Slip :=
  match o with
  | .mismatch slip => slip
  | .matched | .noRead => none

/-- What the STEP notice says of the outcome that caused an entry (R123). -/
def stepEvidence (c : Cell) (code : Option Nat) (o : ReadOutcome) : StepEvidence where
  code := code
  sequence := c.record.map (·.sequence)
  slip := o.slip

/-- A read is taken: the cell, the station table, the tally counters, then the step monitor (R109,
R110). -/
def takeRead (n : SlotNo) (p : Nat) (c : Cell) (station : StationOutcome) (code : Option Nat) (o : ReadOutcome)
    (s : State) : State :=
  let s := countResult n station (verifyCell n p o s)
  takeReadOutcome o (stepEvidence c code o) (tallyRead n o s)

/-- The reader's outcome (R109, R110). -/
def readerResult (n : SlotNo) (p : Nat) (o : StationOutcome) (s : State) : State :=
  match cellAt s p, o with
  | some c, .read code => takeRead n p c o (some code) (readOutcome s c code) s
  | some c, .noRead => takeRead n p c o none .noRead s
  | _, _ => s

/-- An outcome is taken by the rule that owns it (R59). -/
def applyOutcome (n : SlotNo) (r : Role) (p : Nat) (o : StationOutcome) (s : State) : State :=
  match r with
  | .mainFeeder => mainFeederResult n p o s
  | .insertFeeder => insertResult n p o s
  | .printer => printerResult n p o s
  | .carrierFeeder => carrierResult n p o s
  | .reader => readerResult n p o s
  | .sealer => sealerResult n p o s
  | .gate => gateResult n p o s
  | .stacker => stackerResult n p o s
  | .drive => s

/-- The track takes a result (R59 to R61). -/
def takeResult (n : SlotNo) (t : Tag) (o : StationOutcome) (s : State) : State :=
  match exchangePosition s n t, stationAt s n with
  | some p, some st =>
    applyOutcome n st.role p o (withdraw n t (modifyCell p (Cell.endExchange n) s))
  | _, _ => lateResult n s

end Sys2Proof.Machine
end

