-- ==== Sys2Proof/Machine/Chain.lean ====
section
/-! DEFINITION. The PITCH and HOME inputs: the advance as the blocks take it, the wrap of the chain count,
and the home mark (Chapters 3 and 7). -/

namespace Sys2Proof.Machine

/-- The phase monitor takes the pulse, and its fault, if it lost the phase, is handed at once (R135). -/
def phaseThenFault (s : State) : State :=
  let r := takePulse s
  handPhaseFault r.2 r.1

/-- The blocks take a PITCH pulse in an order that R135 and R175 allow (log entry 5). -/
def takePitch (order : AdvanceOrder) (s : State) : State :=
  match order with
  | .phaseThenTrack => trackThenDrain (phaseThenFault s)
  | .phaseFaultAfterTrack =>
    let r := takePulse s
    drainTest (s.line.state == .draining) (handPhaseFault r.2 (trackAdvance r.1))
  | .trackThenPhase => drainTest (s.line.state == .draining) (phaseThenFault (trackAdvance s))
  | .trackThenLine => phaseThenFault (trackThenDrain s)

/-- PITCH_ADVANCE (R48). -/
def execPitchAdvance (order : AdvanceOrder) (s : State) : Next := .next (takePitch order (newMoment s))

/-- CHAIN_WRAP (R129, log entry 7): the phase monitor's share of the pulse at which the chain count
reaches C. -/
def execChainWrap (s : State) : Next :=
  if s.phase.state ≠ .off ∧ s.phase.wraps s.params.chainLength = true then
    .next { s with phase := s.phase.wrapped }
  else .next s

/-- HOME_MARK (R130): HOME changes from released to asserted. -/
def execHomeMark (s : State) : Next :=
  if s.home then .next s
  else
    let r := takeMark (newMoment { s with home := true })
    .next (handPhaseFault r.2 r.1)

/-- HOME_RELEASE (R130): the level alone changes. -/
def execHomeRelease (s : State) : Next := .next { s with home := false }

end Sys2Proof.Machine
end

