-- ==== Sys2Proof/Machine/LineControl.lean ====
section
/-! DEFINITION. The line controller (Chapter 10): starting, draining, stopping and holding the line, faults
and their clearing, the ESTOP input, the drive timers, and the two resets. -/

namespace Sys2Proof.Machine

/-! ### LINE_START (R171, R172) -/

/-- The lines of the table of R171 whose refusal is CONFIG, in its order (log entry 14). -/
inductive LineUp
  | driveCount | mainFeeder | carrierFeeder | printer | insertFeeder | reader | sealer | gate | stacker
deriving DecidableEq, Repr

/-- The code of a line-up condition (R200). -/
def LineUp.code : LineUp → Nat
  | .driveCount => 1
  | .mainFeeder => 2
  | .carrierFeeder => 3
  | .printer => 4
  | .insertFeeder => 5
  | .reader => 6
  | .sealer => 7
  | .gate => 8
  | .stacker => 9

/-- The refusal CONFIG with a condition and further data (R171). -/
def configRefusal (k : LineUp) (more : List Byte) : Answer := Answer.refuse .config (nat1 k.code ++ more)

/-- The number of slots configured with a role. -/
def roleCount (s : State) (r : Role) : Nat := (slotsWith s r).length

/-- The position of the slot, 0 when it has none. -/
def placeOf (s : State) (n : SlotNo) : Nat := (positionOf s n).getD 0

/-- The position of the one slot with a role, when there is one; 0 otherwise. -/
def rolePlace (s : State) (r : Role) : Nat := (positionWith s r).getD 0

/-- Exactly one slot has the role and it meets a test: else the refusal with the count or the slot
(R171). -/
def needOne (s : State) (k : LineUp) (r : Role) (test : SlotNo → Bool) (more : SlotNo → List Byte) : Option Answer :=
  match slotsWith s r with
  | [n] => if test n then none else some (configRefusal k (slotByte (some n) ++ more n))
  | l => some (configRefusal k (nat1 l.length))

/-- At most one slot has the role, and it meets a test when there is one (R171). -/
def needAtMostOne (s : State) (k : LineUp) (r : Role) (test : SlotNo → Bool) : Option Answer :=
  match slotsWith s r with
  | [] => none
  | [n] => if test n then none else some (configRefusal k (slotByte (some n)))
  | l => some (configRefusal k (nat1 l.length))

/-- c - p, for a printer at p and the carrier feeder at c, in the 4 bytes of a number whose range is not
within 0 to 65,535 (R171, R200); a negative one is its two's complement (log entry 14). -/
def leadBytes (s : State) (n : SlotNo) : List Byte :=
  nat4 ((2 ^ 32 + rolePlace s .carrierFeeder - placeOf s n) % 2 ^ 32)

/-- The printer stands 1 to 8 pitches upstream of the carrier feeder (R171). -/
def printLeadHolds (s : State) (n : SlotNo) : Bool :=
  placeOf s n + 1 ≤ rolePlace s .carrierFeeder && rolePlace s .carrierFeeder ≤ placeOf s n + 8

/-- The position of the slot is above that of every slot with a role (R171). -/
def above (s : State) (r : Role) (n : SlotNo) : Bool :=
  (slotsWith s r).all fun m => placeOf s m < placeOf s n

/-- The refusal of the insert feeders, if any (R171, order 6). The first slot out of place is the one with the
lowest slot number (log entry 32). -/
def insertLineUp (s : State) : Option Answer :=
  if 8 < roleCount s .insertFeeder then some (configRefusal .insertFeeder (nat1 (roleCount s .insertFeeder)))
  else
    ((slotsWith s .insertFeeder).find? fun n => rolePlace s .carrierFeeder ≤ placeOf s n).map fun n =>
      configRefusal .insertFeeder (slotByte (some n))

/-- The first slot that is not upstream of the stacker, the one with the lowest slot number (R171, order 10;
log entry 32). -/
def notUpstream (s : State) (n : SlotNo) : Option SlotNo :=
  allSlots.find? fun m => m != n && (positionOf s m).any fun p => placeOf s n ≤ p

/-- The refusal of the stacker, if any (R171, order 10). -/
def stackerLineUp (s : State) : Option Answer :=
  match slotsWith s .stacker with
  | [n] => (notUpstream s n).map fun m => configRefusal .stacker (slotByte (some m))
  | l => some (configRefusal .stacker (nat1 l.length))

/-- The refusal STATION of the first unusable of the gate, the stacker and the drive, if any (R171, order
11). -/
def unusableDisposer (s : State) : Option Answer :=
  ([Role.gate, .stacker, .drive].filterMap (slotWith s)).find? (!usable s ·) |>.map fun n =>
    Answer.refuse .station (slotByte (some n) ++ conditionBytes (stationAt s n))

/-- The refusals of R171 in the order of its table, each none when its condition holds. -/
def lineUpChecks (s : State) : List (Option Answer) :=
  [ if s.line.state = .idle then none else some (Answer.refuse .state (nat1 s.line.state.code)),
    if roleCount s .drive = 1 then none else some (configRefusal .driveCount (nat1 (roleCount s .drive))),
    needOne s .mainFeeder .mainFeeder (fun n => placeOf s n == 0) (fun _ => []),
    needOne s .carrierFeeder .carrierFeeder (fun _ => true) (fun _ => []),
    needOne s .printer .printer (printLeadHolds s) (leadBytes s),
    insertLineUp s,
    needAtMostOne s .reader .reader (above s .carrierFeeder),
    needAtMostOne s .sealer .sealer (fun n => above s .carrierFeeder n && above s .reader n),
    needOne s .gate .gate (fun n => above s .carrierFeeder n && above s .reader n && above s .sealer n) (fun _ => []),
    stackerLineUp s,
    unusableDisposer s ]

/-- The refusal of a LINE_START, if any: the first case of R171 that applies. -/
def startRefusal (s : State) : Option Answer := (lineUpChecks s).findSome? id

/-- Binding is told of the start: a MET stop point becomes NONE and its cause is removed (R84). -/
def bindingLineStart (s : State) : State :=
  match s.binding.stopPoint with
  | .met _ _ => removeCause .stopPoint { s with binding := { s.binding with stopPoint := .none } }
  | .none | .armed _ => s

/-- The line starts (R172). -/
def startLine (s : State) : State :=
  let s := issueDrive .run (bindingLineStart (phaseLineStart s))
  changeLine { s.line with
    state := .starting
    fault := none
    laterFaults := 0
    lastLater := none
    driveOrder := .run false
    startTimer := .running (s.params.driveStartTime * 1000) } s

/-- LINE_START (R171, R172). -/
def takeLineStart : Taking := fun s =>
  match startRefusal s with
  | some a => (a, s)
  | none => (Answer.ok [], startLine s)

/-- LINE_START at the head of the receive queue (R171, R194). -/
def execLineStart (s : State) : Next :=
  serve (fun r => match r with | .lineStart => some takeLineStart | _ => none) s

/-! ### LINE_DRAIN, LINE_STOP, LINE_HOLD, LINE_RESUME (R170, R174, R176) -/

/-- The refusal STATE with the line state. -/
def stateRefusal (s : State) : Answer := Answer.refuse .state (nat1 s.line.state.code)

/-- LINE_DRAIN (R174). -/
def takeLineDrain (closeOption : Nat) : Taking := fun s =>
  if s.line.state ≠ .running then (stateRefusal s, s)
  else
    match closeOption with
    | 0 => (Answer.ok [], enterDraining .noClose s)
    | 1 => (Answer.ok [], enterDraining .close s)
    | _ => (Answer.field 1, s)

/-- LINE_DRAIN at the head of the receive queue (R174, R194). -/
def execLineDrain (s : State) : Next :=
  serve (fun r => match r with | .lineDrain closeOption => some (takeLineDrain closeOption) | _ => none) s

/-- LINE_STOP (R176). -/
def takeLineStop : Taking := fun s =>
  match s.line.state with
  | .starting | .running | .draining => (Answer.ok [], enterStopping s)
  | .stopping => (Answer.ok [], s)
  | .idle | .faulted => (stateRefusal s, s)

/-- LINE_STOP at the head of the receive queue (R176, R194). -/
def execLineStop (s : State) : Next :=
  serve (fun r => match r with | .lineStop => some takeLineStop | _ => none) s

/-- LINE_HOLD (R170). -/
def takeLineHold : Taking := fun s =>
  let s := addCause .hostHold s
  (Answer.ok (feedBytes s.line.feed), s)

/-- LINE_HOLD at the head of the receive queue (R170, R194). -/
def execLineHold (s : State) : Next :=
  serve (fun r => match r with | .lineHold => some takeLineHold | _ => none) s

/-- LINE_RESUME (R170). -/
def takeLineResume : Taking := fun s =>
  let s := removeCause .hostHold s
  (Answer.ok (feedBytes s.line.feed), s)

/-- LINE_RESUME at the head of the receive queue (R170, R194). -/
def execLineResume (s : State) : Next :=
  serve (fun r => match r with | .lineResume => some takeLineResume | _ => none) s

/-! ### FAULT_CLEAR (R180) -/

/-- The first condition of R180 that is not met, in a line that is FAULTED. The reply carries the data of
the table of R180 and no condition beside it, so that a missing gate and a missing stacker give equal replies
(log entry 14). -/
def clearRefusal (s : State) : Option Answer :=
  if s.estop then some (Answer.refuse .state (nat1 1))
  else
    match slotWith s .drive with
    | none => some (Answer.refuse .state (nat1 3))
    | some n =>
      if (stationAt s n).any (·.motion == some .stopped) = false then some (Answer.refuse .state (nat1 2))
      else
        match allSlots.find? fun m => (stationAt s m).any (·.recorded == .guardOpen) with
        | some m => some (Answer.refuse .station (slotByte (some m)))
        | none => needUsable .gate |>.or (needUsable .stacker)
where
  /-- The slot with the role exists and is usable, else the refusal with it (R180, orders 4 and 5). -/
  needUsable (r : Role) : Option Answer :=
    match slotWith s r with
    | none => some (Answer.refuse .station (slotByte none ++ conditionBytes none))
    | some n =>
      if usable s n then none
      else some (Answer.refuse .station (slotByte (some n) ++ conditionBytes (stationAt s n)))

/-- The fault is cleared (R180). -/
def clearFault (s : State) : State := changeLine { s.line with state := .idle, driveOrder := .none } s

/-- FAULT_CLEAR (R180). -/
def takeFaultClear : Taking := fun s =>
  if s.line.state ≠ .faulted then (stateRefusal s, s)
  else
    match clearRefusal s with
    | some a => (a, s)
    | none => (Answer.ok [], clearFault s)

/-- FAULT_CLEAR at the head of the receive queue (R180, R194). -/
def execFaultClear (s : State) : Next :=
  serve (fun r => match r with | .faultClear => some takeFaultClear | _ => none) s

/-! ### JOB_RESET (R181) -/

/-- The counter after a job reset (R183). -/
def Counter.jobReset (c : Counter) : Counter where
  setup := c.setup
  value := 0
  progress := 0
  armed := c.setup.any (·.threshold != 0)
  started := false
  hold := false

/-- The blocks that a job reset clears without an announcement (R1, R36, R43, R45, R69, R152, R168,
R183). -/
def clearBlocks (s : State) : State :=
  { s with
    bus := { s.bus with txQueue := s.bus.txQueue.filter (·.forDrive) }
    intake := Intake.reset
    versions := Vector.ofFn fun i => { s.versions[i] with refCount := 0 }
    track := { cells := [], nextTag := s.track.nextTag, printJobs := 0, lateCount := 0 }
    binding := Binding.reset
    bundles := BundleBuilder.reset
    counters := { all := Vector.ofFn fun i => s.counters.all[i].jobReset, frozen := false, source := none }
    line := { s.line with fault := none, laterFaults := 0, lastLater := none }
    link := { s.link with notices := Vector.replicate 33 none } }

/-- The phase monitor is set as a job reset sets it, cause PHASE aside (R126). -/
def clearPhase (s : State) : State :=
  let m := PhaseMonitor.cleared (phaseStateAtStart s.params.chainLength)
  let before := s.phase.state
  let s := { s with phase := m }
  if before = m.state then s else raise (phaseNotice m s.params.chainLength none) s

/-- A cause stands in the suppression set after a job reset (R181). -/
def jobCause (s : State) : FeedCause → Bool
  | .hostHold | .stopPoint | .step | .backlog | .counter _ => false
  | .phase => s.phase.state.suppresses
  | .station n => suppresses s n

/-- The suppression set after a job reset: PHASE and the STATION(n) causes, as they hold then (R181). -/
def jobFeed (s : State) : FeedSet :=
  allSlots.foldl (fun f n => f.put (.station n) (jobCause s (.station n)))
    (FeedSet.empty.put .phase (jobCause s .phase))

/-- The suppression set is set, and a changed set raises the FEED notice (R181). -/
def resetFeed (s : State) : State := if jobFeed s = s.line.feed then s else setFeed (jobFeed s) s

/-- A job reset (R181). -/
def resetJob (s : State) : State := resetFeed (clearPhase (clearStep (clearBlocks s)))

/-- JOB_RESET (R181). -/
def takeJobReset : Taking := fun s =>
  if s.line.state ≠ .idle then (Answer.refuse .state [], s)
  else if s.link.reports ≠ [] then (Answer.refuse .busy (nat2 s.link.reports.length), s)
  else (Answer.ok [], resetJob s)

/-- JOB_RESET at the head of the receive queue (R181, R194). -/
def execJobReset (s : State) : Next :=
  serve (fun r => match r with | .jobReset => some takeJobReset | _ => none) s

/-! ### Inputs, timers and the part reset (R168, R173, R176, R178) -/

/-- ESTOP changes from released to asserted (R178). -/
def execEstop (s : State) : Next :=
  if s.estop then .next s else .next (handFault .estop (newMoment { s with estop := true }))

/-- ESTOP_RELEASE (R178): the release moves no state but the level. -/
def execEstopRelease (s : State) : Next := .next { s with estop := false }

/-- DRIVE_START (R173): the start timer expires. -/
def execDriveStart (s : State) : Next :=
  if s.line.startTimer = .stopped then .next s else .next (handFault .driveStart (newMoment s))

/-- DRIVE_STOP (R176): the stop timer expires. -/
def execDriveStop (s : State) : Next :=
  if s.line.stopTimer = .stopped then .next s else .next (handFault .driveStop (newMoment s))

/-- PART_RESET (R168): every block at its part-reset values; the inputs keep their levels, and an asserted
ESTOP is taken as an assertion. -/
def execPartReset (s : State) : Next :=
  let fresh := { State.reset with estop := s.estop, home := s.home, freeIndex := s.freeIndex, pending := s.pending }
  .next (if s.estop then handFault .estop fresh else fresh)

/-! ### The drive's motion (R6, R173, R176, R177) -/

/-- The line controller takes the motion of a good answer of the drive (R173, R176, R177). -/
def lineMotion (n : SlotNo) (m : Motion) (changed : Bool) (s : State) : State :=
  match s.line.state with
  | .starting =>
    if s.line.driveOrder = .run true ∧ m = .running then
      changeLine { s.line with state := .running, startTimer := .stopped } s
    else s
  | .stopping =>
    if s.line.driveOrder = .stop true ∧ m = .stopped then
      changeLine { s.line with state := .idle, driveOrder := .none, stopTimer := .stopped } s
    else s
  | .running | .draining => if changed ∧ m = .stopped then handFault (.driveHalt n) s else s
  | .idle | .faulted => s

/-- The motion of a good answer is set in the drive's slot and handed to the line controller (R6). -/
def takeMotion (n : SlotNo) (m : Motion) (s : State) : State :=
  match stationAt s n with
  | some st =>
    if st.role = .drive then
      lineMotion n m (st.motion != some m) (putStation n (some { st with motion := some m }) s)
    else s
  | none => s

end Sys2Proof.Machine
end

