-- ==== Sys2Proof/Config.lean ====
section
/-! DEFINITION. What the spec leaves open and an implementation or the outside world decides. -/

namespace Sys2Proof

/-- FREE VALUE (log entry 2). The milliseconds left on a running drive timer, which STATUS_READ
carries (R182, R200). The model keeps no clock, so nothing is known of it but the bound the reply
puts on it: it never exceeds the time the timer was started with. Applied to the model's own counter
`State.freeIndex`, a fresh value at each read. -/
opaque Config.timeLeft : Nat → Nat

end Sys2Proof
end

