-- ==== Sys2Proof/Machine/Reading.lean ====
section
/-! DEFINITION. STATUS_READ (R199) and CELL_READ (R68). -/

namespace Sys2Proof.Machine

/-! ### STATUS_READ (R199) -/

/-- The time of the running drive timer, if one runs; at most one does (10.1). -/
def runningTimer (l : Line) : Option Nat :=
  match l.startTimer, l.stopTimer with
  | .running t, _ => some t
  | .stopped, .running t => some t
  | .stopped, .stopped => none

/-- The time left on the running drive timer: a FREE VALUE no greater than the time the timer was started
with (log entry 2). -/
def timeLeft (s : State) : Option Nat := (runningTimer s.line).map (min (Config.timeLeft s.freeIndex))

/-- The line group (R182, R199). It holds what R182 lists, and so not the restarted mark, which the table of
10.1 has besides (log entry 13). -/
def lineGroup (s : State) : List Byte :=
  let l := s.line
  nat1 l.state.code ++ faultBytes l.fault ++ nat1 l.laterFaults ++ faultBytes l.lastLater ++ nat1 l.drain.code
    ++ nat1 l.driveOrder.code ++ nat1 l.driveOrder.mark ++ optional nat4 (timeLeft s) ++ feedBytes l.feed
    ++ nat1 s.params.driveStartTime ++ nat1 s.params.driveStopTime ++ flag s.estop

/-- The binding group (R69). -/
def bindingGroup (b : Binding) : List Byte :=
  opt2 b.lastKey ++ optional nat1 (b.lastVersion.map (·.val)) ++ nat1 b.keyWaitCount ++ stopPointBytes b.stopPoint
    ++ flag b.proofPending

/-- The step monitor group (R124). -/
def stepGroup (m : StepMonitor) : List Byte :=
  nat1 m.state.code ++ listed (fun e => nat1 (StepEntry.code e)) m.window ++ nat1 m.slipCount ++ nat1 m.provingCount
    ++ nat2 m.blockEntered ++ nat2 m.blockFailures ++ flag m.blockNoticeRaised ++ nat2 m.blocksCompleted
    ++ listed (fun t => [t]) m.lost ++ nat2 m.lossCount ++ listed (fun c => nat1 (StepCondition.code c)) m.conditions

/-- The phase monitor group, with CHAIN_LENGTH (R137, 7.1). -/
def phaseGroup (m : PhaseMonitor) (chainLength : Nat) : List Byte :=
  nat1 m.state.code ++ nat2 m.chainCount ++ nat2 m.sinceMark ++ flag m.zeroMark ++ listed nat1 m.window
    ++ opt2 m.lastMisplaced ++ nat2 m.restarts ++ nat2 m.lossCount ++ lossBytes m.lossCause ++ nat2 chainLength

/-- The bundle builder group (R199). -/
def bundleGroup (b : BundleBuilder) : List Byte :=
  opt2 (b.bundle.map (·.serial)) ++ opt2 (b.tray.map (·.serial)) ++ optional nat2 (b.bundle.map (·.items))
    ++ optional nat4 (b.tray.map (·.items)) ++ optional inFlightBytes b.inFlight ++ nat1 b.closePending.code

/-- The number of pending notices (R199). -/
def pendingNotices (s : State) : Nat := (List.finRange 33).countP fun i => s.link.notices[i].isSome

/-- The host link group (R199). -/
def linkGroup (s : State) : List Byte :=
  nat2 s.link.reports.length ++ nat1 (pendingNotices s) ++ nat1 s.link.rx.length ++ nat1 s.link.overflow.length
    ++ nat2 s.link.discarded

/-- STATUS_READ (R199): the groups in the order of its table. The receive queue no longer holds the
request that is taken. -/
def answerStatusRead (s : State) : Answer :=
  Answer.ok (lineGroup s ++ bindingGroup s.binding ++ queueCounts s ++ trackBytes s ++ stepGroup s.step
    ++ phaseGroup s.phase s.params.chainLength ++ bundleGroup s.bundles ++ linkGroup (dropHead s)
    ++ paramBytes s.params)

/-- The next free value is another one (log entry 2). -/
def nextFree (o : Next) : Next :=
  match o with
  | .next s => .next { s with freeIndex := s.freeIndex + 1 }
  | .fault f => .fault f
  | .refused r => .refused r

/-- STATUS_READ at the head of the receive queue (R199, R194). -/
def execStatusRead (s : State) : Next :=
  nextFree (serveRead (fun r => match r with | .statusRead => some answerStatusRead | _ => none) s)

/-! ### CELL_READ (R68) -/

/-- CELL_READ (R68). -/
def answerCellRead (position : Nat) (s : State) : Answer :=
  if 63 < position then Answer.field 1
  else
    Answer.ok (trackBytes s ++ optional (fun c => cellBytes (fun n => stillQueued s n (Cell.tag c)) c) (cellAt s position))

/-- CELL_READ at the head of the receive queue (R68, R194). -/
def execCellRead (s : State) : Next :=
  serveRead (fun r => match r with | .cellRead position => some (answerCellRead position) | _ => none) s

end Sys2Proof.Machine
end

