-- ==== Sys2Proof/Machine/Records.lean ====
section
/-! DEFINITION. The requests about records and versions (Chapter 2): LOAD, PURGE, VERSION_SET,
VERSION_CLEAR, QUEUE_READ. -/

namespace Sys2Proof.Machine

/-! ### LOAD (R23 to R26) -/

/-- The version with a number, 0 to 31. -/
def versionOf (number : Nat) : Option (Fin 32) := if h : number < 32 then some ⟨number, h⟩ else none

/-- The definition of the version with a number, when it is DEFINED (R23). -/
def definedVersion (s : State) (number : Nat) : Option VersionDef :=
  (versionOf number).bind fun v => s.versions[v].definition

/-- Every record's sequence is greater than the one before it, the first being compared with the last
accepted sequence (R23, cases 2 and 3). -/
def sequencesRise : Nat → List LoadRecord → Bool
  | _, [] => true
  | before, r :: rest => before < r.sequence && sequencesRise r.sequence rest

/-- The number of the first record that a test fails, counted from 1. -/
def firstFailing (bad : LoadRecord → Bool) (records : List LoadRecord) : Option Nat :=
  (records.findIdx? bad).map (· + 1)

/-- A printable character: a code of 32 to 126 (2.1). -/
def printable (b : Byte) : Bool := 32 ≤ b.toNat && b.toNat ≤ 126

/-- The address line is too long or holds a code outside 32-126 (R24). -/
def badLine (line : List Byte) : Bool := 40 < line.length || !line.all printable

/-- The number of the first field of a record that fails R24, in the order of its table, numbered by the
record table of 12.7 (R200). That a list of lines fails as its line count (field 5) and a line as the field
of the lines (field 6) is log entry 15. -/
def badField (s : State) (r : LoadRecord) : Option Nat :=
  let most := ((definedVersion s r.version).map (·.lineCount)).getD 0
  if r.bundleKey = 0 then some 3
  else if r.trayKey = 0 then some 4
  else if r.lines.length < 1 ∨ 6 < r.lines.length ∨ most < r.lines.length then some 5
  else if r.lines.any badLine then some 6
  else if 24 < r.keyline.length ∨ r.keyline.all printable = false then some 7
  else none

/-- The keys of two records that follow each other are inconsistent: one bundle key, two tray keys
(R25). -/
def keysClash (before : Option (Nat × Nat)) (r : LoadRecord) : Bool :=
  before.any fun k => k.1 == r.bundleKey && k.2 != r.trayKey

/-- The number of the first record whose keys are inconsistent with its predecessor's, the first record
having the given number and predecessor (R25). -/
def firstClash : Nat → Option (Nat × Nat) → List LoadRecord → Option Nat
  | _, _, [] => none
  | n, before, r :: rest =>
    if keysClash before r then some n else firstClash (n + 1) (some (r.bundleKey, r.trayKey)) rest

/-- The lowest record with a field out of range, with its number, and the number of the field (R23, case
5). -/
def firstBadField (s : State) (records : List LoadRecord) : Option (Nat × Nat) :=
  (firstFailing (fun r => (badField s r).isSome) records).bind fun n =>
    (records[n - 1]?.bind (badField s)).map fun f => (n, f)

/-- The refusal of a LOAD, if any: the first case of R23 that applies. -/
def loadRefusal (s : State) (records : List LoadRecord) : Option Answer :=
  if records.length < 1 ∨ 8 < records.length then some (Answer.refuse .field (nat1 0 ++ nat1 1))
  else if sequencesRise s.intake.lastSequence records = false then
    some (Answer.refuse .order (nat4 s.intake.lastSequence))
  else
    match firstFailing (fun r => (definedVersion s r.version).isNone) records with
    | some n => some (Answer.refuse .version (nat1 n))
    | none =>
      match firstBadField s records with
      | some (n, f) => some (Answer.refuse .field (nat1 n ++ nat1 f))
      | none =>
        match firstClash 1 s.intake.lastKeys records with
        | some n => some (Answer.refuse .keys (nat1 n))
        | none =>
          if 256 < freshCount s + records.length then some (Answer.refuse .full (nat2 (freeRoom s))) else none

/-- The record that an accepted LOAD record becomes (R22, R26). -/
def LoadRecord.accepted (r : LoadRecord) : Record where
  sequence := r.sequence
  version := (versionOf r.version).getD 0
  bundleKey := r.bundleKey
  trayKey := r.trayKey
  lines := r.lines
  keyline := if r.keyline = [] then none else some r.keyline
  attempts := 0
  kind := .fresh

/-- One accepted record joins the tail of the queue, its version counts it, and it becomes the last
accepted one (R26). -/
def acceptRecord (s : State) (l : LoadRecord) : State :=
  let r := l.accepted
  setRefCount r.version (· + 1) { s with intake := {
    queue := s.intake.queue ++ [r]
    lastSequence := r.sequence
    lastKeys := some (r.bundleKey, r.trayKey) } }

/-- LOAD (R23). -/
def takeLoad (records : List LoadRecord) : Taking := fun s =>
  match loadRefusal s records with
  | some a => (a, s)
  | none =>
    let s := records.foldl acceptRecord s
    (Answer.ok (nat1 records.length ++ nat2 (freshCount s) ++ nat2 (freeRoom s) ++ nat4 s.intake.lastSequence), s)

/-- LOAD at the head of the receive queue (R23, R194). -/
def execLoad (s : State) : Next :=
  serve (fun r => match r with | .load records => some (takeLoad records) | _ => none) s

/-! ### PURGE (R35) -/

/-- The record is one that a PURGE removes (R35). -/
def purged (fromSequence : Nat) (r : Record) : Bool := r.isFresh && fromSequence ≤ r.sequence

/-- The queue without the purged records, each of which its version no longer counts (R35). -/
def purgeQueue (fromSequence : Nat) (s : State) : State :=
  let gone := s.intake.queue.filter (purged fromSequence)
  let s := setQueue (s.intake.queue.filter (!purged fromSequence ·)) s
  gone.foldl (fun s r => releaseVersion r s) s

/-- PURGE (R35). -/
def takePurge (fromSequence : Nat) : Taking := fun s =>
  if fromSequence = 0 then (Answer.field 1, s)
  else
    let gone := s.intake.queue.filter (purged fromSequence)
    (Answer.ok (nat2 gone.length ++ opt4 (gone.map (·.sequence)).min?), freshFell (freshCount s) (purgeQueue fromSequence s))

/-- PURGE at the head of the receive queue (R35, R194). -/
def execPurge (s : State) : Next :=
  serve (fun r => match r with | .purge fromSequence => some (takePurge fromSequence) | _ => none) s

/-! ### The version table (R40, R41) -/

/-- The number of the first field of a VERSION_SET that is out of range (R40; the order is log entry
15). -/
def versionFieldRefusal (version : Nat) (inserts : List Nat) (weight lineCount : Nat) : Option Answer :=
  if 32 ≤ version then some (Answer.field 1)
  else if 8 < inserts.length then some (Answer.field 2)
  else if inserts.any (fun n => (slotOf n).isNone) ∨ ¬ inserts.Nodup then some (Answer.field 3)
  else if weight < 1 ∨ 2000 < weight then some (Answer.field 4)
  else if lineCount < 1 ∨ 6 < lineCount then some (Answer.field 5)
  else none

/-- The version entry with a definition, or without one. -/
def setVersion (v : Fin 32) (d : Option VersionDef) (s : State) : State :=
  { s with versions := s.versions.set v.val { s.versions[v] with definition := d } v.isLt }

/-- VERSION_SET (R40). -/
def takeVersionSet (version : Nat) (inserts : List Nat) (weight lineCount : Nat) : Taking := fun s =>
  match versionFieldRefusal version inserts weight lineCount, versionOf version with
  | some a, _ => (a, s)
  | none, none => (Answer.field 1, s)
  | none, some v =>
    let slots := inserts.filterMap slotOf
    if 0 < s.versions[v].refCount then (Answer.refuse .inUse (nat2 s.versions[v].refCount), s)
    else
      match slots.find? (!hasRole s .insertFeeder ·) with
      | some n => (Answer.refuse .station (slotByte (some n)), s)
      | none => (Answer.ok [], setVersion v (some { inserts := slots, weight := weight, lineCount := lineCount }) s)

/-- VERSION_SET at the head of the receive queue (R40, R194). -/
def execVersionSet (s : State) : Next :=
  serve (fun r => match r with
    | .versionSet version inserts weight lineCount => some (takeVersionSet version inserts weight lineCount)
    | _ => none) s

/-- VERSION_CLEAR (R41). -/
def takeVersionClear (version : Nat) : Taking := fun s =>
  match versionOf version with
  | none => (Answer.field 1, s)
  | some v =>
    if 0 < s.versions[v].refCount then (Answer.refuse .inUse (nat2 s.versions[v].refCount), s)
    else (Answer.ok [], setVersion v none s)

/-- VERSION_CLEAR at the head of the receive queue (R41, R194). -/
def execVersionClear (s : State) : Next :=
  serve (fun r => match r with | .versionClear version => some (takeVersionClear version) | _ => none) s

/-! ### QUEUE_READ (R39) -/

/-- QUEUE_READ (R39). -/
def answerQueueRead (index : Nat) (s : State) : Answer :=
  if 319 < index then Answer.field 1
  else Answer.ok (queueCounts s ++ optional recordBytes s.intake.queue[index]?)

/-- QUEUE_READ at the head of the receive queue (R39, R194). -/
def execQueueRead (s : State) : Next :=
  serveRead (fun r => match r with | .queueRead index => some (answerQueueRead index) | _ => none) s

end Sys2Proof.Machine
end

