-- ==== Sys2Proof/Machine/StationBus.lean ====
section
/-! DEFINITION. The station bus controller (1.5): choosing and sending the next frame, and taking its
answer or the want of one. -/

namespace Sys2Proof.Machine

/-! ### Sending (R16 to R18) -/

/-- A frame to a station begins to be sent (R16). -/
def sendFrame (n : SlotNo) (st : Station) (kind : FrameKind) (bytes : List Byte) (s : State) : State :=
  { s with bus := { s.bus with
      inProgress := some { slot := some n, kind := kind, address := st.address, chars := busChars st.address bytes } } }

/-- The drive order's mark when a drive command's frame begins to be sent (R172, 10.1). -/
def DriveOrder.sentBy (d : DriveOrder) (o : BusOrder) : DriveOrder :=
  match d, o with
  | .run _, .run => .run true
  | .stop _, .stop => .stop true
  | d, _ => d

/-- SEND_COMMAND (R17): the command at the head of the transmit queue, when the bus is free. -/
def execSendCommand (s : State) : Next :=
  match s.bus.inProgress, s.bus.txQueue with
  | none, c :: rest =>
    match stationAt s c.slot with
    | some st =>
      let s := { s with
        bus := { s.bus with txQueue := rest }
        line := { s.line with driveOrder := s.line.driveOrder.sentBy c.order } }
      .next (sendFrame c.slot st .command c.order.bytes s)
    | none => .next s
  | _, _ => .next s

/-- The lowest configured slot with a pending identity request (R17). -/
def pendingIdentity (s : State) : Option SlotNo := allSlots.find? fun n => (stationAt s n).any (·.identityPending)

/-- The first configured slot after the poll pointer, wrapping from 16 to 1 (R18). -/
def nextPoll (s : State) : Option SlotNo :=
  let configured (n : SlotNo) : Bool := (stationAt s n).isSome
  (allSlots.find? fun n => s.bus.pollPointer < slotNumber n && configured n).or (allSlots.find? configured)

/-- SEND_IDENTITY_REQUEST (R10, R17): when the bus is free and no command waits. -/
def execSendIdentityRequest (s : State) : Next :=
  match s.bus.inProgress, s.bus.txQueue, pendingIdentity s with
  | none, [], some n =>
    match stationAt s n with
    | some st => .next (sendFrame n st .identity (nat1 0x11) s)
    | none => .next s
  | _, _, _ => .next s

/-- SEND_POLL (R17, R18): when the bus is free, no command waits and no identity request is pending. -/
def execSendPoll (s : State) : Next :=
  match s.bus.inProgress, s.bus.txQueue, pendingIdentity s, nextPoll s with
  | none, [], none, some n =>
    match stationAt s n with
    | some st =>
      .next (sendFrame n st .poll (nat1 0x10) { s with bus := { s.bus with pollPointer := slotNumber n } })
    | none => .next s
  | _, _, _, _ => .next s

/-! ### Answers (R4 to R6, R10, R16, R21) -/

/-- The bus is free again (R17). -/
def freeBus (s : State) : State := { s with bus := { s.bus with inProgress := none } }

/-- A frame ends without a good answer: its station's count rises (R5). A frame without a station counts
for none (R2). -/
def noAnswer (f : BusFrame) (s : State) : State :=
  match f.slot with
  | some n => updateStation n Station.notAnswered (freeBus s)
  | none => freeBus s

/-- The frame in progress ends as it is given (R16); without one nothing is awaited. -/
def endBusFrame (f : BusFrame → State → State) (s : State) : Next :=
  match s.bus.inProgress with
  | some frame => .next (f frame (newMoment s))
  | none => .next s

/-- ANSWER_TIMEOUT (R16). -/
def execAnswerTimeout (s : State) : Next := endBusFrame noAnswer s

/-- ANSWER_CHECK_FAIL (R16). -/
def execAnswerCheckFail (s : State) : Next := endBusFrame noAnswer s

/-- The role code of an identity answer is handed to the station table (R10). -/
def takeRoleCode (n : SlotNo) (code : Option Byte) (s : State) : State :=
  match code with
  | some b => updateStation n (Station.identified b) s
  | none => s

/-- The result of a poll answer is handed to the pitch track (R59). -/
def takeAnswerResult (n : SlotNo) (r : Option (Tag × StationOutcome)) (s : State) : State :=
  match r with
  | some (t, o) => takeResult n t o s
  | none => s

/-- The parts of a good answer are handed to their owners: the status, the drive's motion, the role code,
the result (R21; the place of the motion is log entry 21). -/
def handAnswer (n : SlotNo) (kind : FrameKind) (a : StationAnswer) (s : State) : State :=
  let s := takeMotion n a.motion (updateStation n (Station.answered kind a.status) s)
  takeAnswerResult n a.result (takeRoleCode n a.roleCode s)

/-- The characters of an answer are taken: a good answer by R21, one that fails its check as none (R16), an
answer to a frame without a station not at all (R2, log entry 22). -/
def takeAnswer (answer : List BusChar) (f : BusFrame) (s : State) : State :=
  match f.slot with
  | none => freeBus s
  | some n =>
    match (stationAt s n).bind fun st => decodeAnswer f st.role answer with
    | some a => handAnswer n f.kind a (freeBus s)
    | none => noAnswer f s

/-- GOOD_ANSWER (R21). -/
def execGoodAnswer (answer : List BusChar) (s : State) : Next := endBusFrame (takeAnswer answer) s

end Sys2Proof.Machine
end

