-- ==== Sys2Proof/Machine/Stations.lean ====
section
/-! DEFINITION. The requests about the station table (Chapter 1): STATION_SET, STATION_CLEAR,
STATION_RESTORE, STATION_READ. -/

namespace Sys2Proof.Machine

/-- The line is IDLE and no cell holds an item (R2): the condition of a change of configuration. -/
def configurable (s : State) : Bool :=
  s.line.state == .idle && s.track.cells.all fun c => c.content == .empty || c.content == .diverted

/-- The lowest defined version that names a slot in its insert set (R2, R3). -/
def namingVersion (s : State) (n : SlotNo) : Option (Fin 32) :=
  (List.finRange 32).find? fun v => s.versions[v].definition.any (·.inserts.contains n)

/-- The refusal IN_USE for an insert feeder that a defined version names (R2, R3). -/
def inUseRefusal (s : State) (n : SlotNo) : Option Answer :=
  if hasRole s .insertFeeder n then
    (namingVersion s n).map fun v => Answer.refuse .inUse (nat1 v.val)
  else none

/-! ### STATION_SET (R2) -/

/-- The fields of a STATION_SET, their ranges tested. -/
structure SlotSetup where
  slot : SlotNo
  role : Role
  address : Nat
  position : Option Nat
  debounce : Bool
  faultLimit : Nat
deriving DecidableEq, Repr

/-- The fault limit a STATION_SET gives, 0 being the default 3 (R2, 12.7). -/
def faultLimitOf (n : Nat) : Nat := if n = 0 then 3 else n

/-- The fields of a STATION_SET, or the number of the first that is out of range: slot, role, bus address,
position, fault limit, debounce, in the order R2 names them (log entry 15). -/
def setupOf (slot role address position debounce faultLimit : Nat) : Except Nat SlotSetup :=
  match slotOf slot, roleOf role with
  | none, _ => .error 1
  | some _, none => .error 2
  | some n, some r =>
    if address < 1 ∨ 30 < address then .error 3
    else if r ≠ .drive ∧ 63 < position then .error 4
    else if 15 < faultLimit then .error 6
    else if 2 < debounce then .error 5
    else .ok {
      slot := n
      role := r
      address := address
      position := if r = .drive then none else some position
      debounce := debounce != 2
      faultLimit := faultLimitOf faultLimit }

/-- Another configured slot that meets a test, the lowest. -/
def otherSlot (s : State) (n : SlotNo) (test : Station → Bool) : Option SlotNo :=
  allSlots.find? fun m => m != n && (stationAt s m).any test

/-- The roles of which one slot alone may be configured (R2). -/
def Role.single (r : Role) : Bool := r == .drive || r == .gate || r == .stacker

/-- The refusals of R2 that look at other slots and at the versions. -/
def setupRefusal (s : State) (u : SlotSetup) : Option Answer :=
  match otherSlot s u.slot (·.address == u.address) with
  | some m => some (Answer.fieldWith 3 (slotByte (some m)))
  | none =>
    match otherSlot s u.slot (fun st => st.position.isSome && st.position == u.position) with
    | some m => some (Answer.fieldWith 4 (slotByte (some m)))
    | none =>
      match otherSlot s u.slot (fun st => u.role.single && st.role == u.role) with
      | some m => some (Answer.fieldWith 2 (slotByte (some m)))
      | none => if u.role = .insertFeeder then none else inUseRefusal s u.slot

/-- The station a STATION_SET configures: the part-kept fields begin afresh (R2). -/
def SlotSetup.station (u : SlotSetup) : Station where
  role := u.role
  address := u.address
  position := u.position
  debounce := u.debounce
  faultLimit := u.faultLimit
  recorded := .unknown
  lastReported := none
  health := .ok
  faultCount := 0
  noReportCount := 0
  identityPending := false
  unanswered := 0
  lateCount := 0
  motion := if u.role = .drive then some .stopped else none

/-- The slot's frames in the transmit queue are discarded, and an answer to its frame in progress will be
that of a frame without a station (R2, R3). -/
def dropFrames (n : SlotNo) (s : State) : State :=
  let unbind (f : BusFrame) : BusFrame := if f.slot = some n then { f with slot := none } else f
  { s with bus := { s.bus with
      txQueue := s.bus.txQueue.filter (·.slot != n)
      inProgress := s.bus.inProgress.map unbind } }

/-- The cells above S leave the track (R44). -/
def dropAboveS (s : State) : State :=
  { s with track := { s.track with cells := s.track.cells.take (stackerPosition s + 1) } }

/-- The monitor is set as a job reset sets it, and cause STEP is removed (R112). -/
def resetStep (s : State) : State := clearStep (removeCause .step s)

/-- A slot takes a configuration, or loses it: its frames are dropped, S may fall, and the STATION notice
is raised (R2, R3, R44). -/
def configure (n : SlotNo) (st : Option Station) (s : State) : State :=
  raise (stationNotice n st) (dropAboveS (putStation n st (dropFrames n s)))

/-- STATION_SET configures a slot (R2), with what follows for the suppression set (R14), the printer's
credits (R67) and the step monitor (R112). -/
def configureSlot (u : SlotSetup) (s : State) : State :=
  let reader := u.role == .reader || hasRole s .reader u.slot
  let s := configure u.slot (some u.station) s
  let s := putCause (.station u.slot) u.role.feeding s
  let s := if u.role = .printer then { s with track := { s.track with printJobs := 0 } } else s
  if reader then resetStep s else s

/-- STATION_SET (R2). -/
def takeStationSet (slot role address position debounce faultLimit : Nat) : Taking := fun s =>
  if configurable s = false then (Answer.refuse .state [], s)
  else
    match setupOf slot role address position debounce faultLimit with
    | .error n => (Answer.field n, s)
    | .ok u =>
      match setupRefusal s u with
      | some a => (a, s)
      | none => (Answer.ok [], configureSlot u s)

/-- STATION_SET at the head of the receive queue (R2, R194). -/
def execStationSet (s : State) : Next :=
  serve (fun r => match r with
    | .stationSet slot role address position debounce faultLimit =>
      some (takeStationSet slot role address position debounce faultLimit)
    | _ => none) s

/-! ### STATION_CLEAR (R3) -/

/-- STATION_CLEAR makes a configured slot unconfigured (R3, R112). -/
def clearSlot (n : SlotNo) (s : State) : State :=
  let reader := hasRole s .reader n
  let s := removeCause (.station n) (configure n none s)
  if reader && slotsWith s .reader == [] then resetStep s else s

/-- STATION_CLEAR (R3). -/
def takeStationClear (slot : Nat) : Taking := fun s =>
  if configurable s = false then (Answer.refuse .state [], s)
  else
    match slotOf slot with
    | none => (Answer.field 1, s)
    | some n =>
      match inUseRefusal s n with
      | some a => (a, s)
      | none => (Answer.ok [], if (stationAt s n).isSome then clearSlot n s else s)

/-- STATION_CLEAR at the head of the receive queue (R3, R194). -/
def execStationClear (s : State) : Next :=
  serve (fun r => match r with | .stationClear slot => some (takeStationClear slot) | _ => none) s

/-! ### STATION_RESTORE and STATION_READ (R11, R13) -/

/-- STATION_RESTORE (R11). -/
def takeStationRestore (slot : Nat) : Taking := fun s =>
  match slotOf slot with
  | none => (Answer.field 1, s)
  | some n =>
    if (stationAt s n).isSome then (Answer.ok [], updateStation n Station.restored s) else (Answer.field 1, s)

/-- STATION_RESTORE at the head of the receive queue (R11, R194). -/
def execStationRestore (s : State) : Next :=
  serve (fun r => match r with | .stationRestore slot => some (takeStationRestore slot) | _ => none) s

/-- STATION_READ (R13): the record, marked unconfigured when there is none. -/
def answerStationRead (slot : Nat) (s : State) : Answer :=
  match slotOf slot with
  | none => Answer.field 1
  | some n => Answer.ok (optional stationBytes (stationAt s n))

/-- STATION_READ at the head of the receive queue (R13, R194). -/
def execStationRead (s : State) : Next :=
  serveRead (fun r => match r with | .stationRead slot => some (answerStationRead slot) | _ => none) s

end Sys2Proof.Machine
end

