-- ==== Sys2Proof/Machine/Tally.lean ====
section
/-! DEFINITION. The requests to the tally counters (Chapter 11): COUNTER_SET, COUNTER_CLEAR,
COUNTER_UNFREEZE, COUNTER_READ, and the end of one counter's window. -/

namespace Sys2Proof.Machine

/-- The counter with a number, 1 to 8. -/
def counterOf (number : Nat) : Option (Fin 8) :=
  if h : 1 ≤ number ∧ number ≤ 8 then some ⟨number - 1, by omega⟩ else none

/-- One counter changed. -/
def putCounter (i : Fin 8) (c : Counter) (s : State) : State :=
  { s with counters := { s.counters with all := s.counters.all.set i.val c i.isLt } }

/-! ### COUNTER_SET (R184) -/

/-- The event carries a station (R184, 11.2). -/
def TallyEvent.carriesStation : TallyEvent → Bool
  | .pitchAdvances | .offers | .gaps | .strands | .bundlesClosed | .keyWaitGaps => false
  | _ => true

/-- The action with a code (12.7). -/
def actionOf (code : Nat) : Option CounterAction :=
  match code with
  | 1 => some .notice
  | 2 => some .noticeHold
  | _ => none

/-- The start mode with a code (12.7). -/
def startModeOf (code : Nat) : Option StartMode :=
  match code with
  | 1 => some .free
  | 2 => some .afterFirst
  | _ => none

/-- The setup a COUNTER_SET gives, none for event NONE; or the number of the field of the first case of R184
that applies. Of a case that lies between two fields, the later one is named: the qualifier for a station of
an event that carries none, the start mode for AFTER_FIRST of counter 1 (log entry 15). -/
def counterSetupOf (i : Fin 8) (event qualifier window threshold action start : Nat) : Except Nat (Option CounterSetup) :=
  if event ≠ 0 ∧ (eventOf event).isNone then .error 2
  else if 16 < qualifier then .error 3
  else if 0 < qualifier ∧ (eventOf event).any (!·.carriesStation) then .error 3
  else if 65535 < window then .error 4
  else
    match actionOf action, startModeOf start with
    | none, _ => .error 6
    | some _, none => .error 7
    | some a, some m =>
      if m = .afterFirst ∧ i = 0 then .error 7
      else .ok ((eventOf event).map fun e => {
        event := e
        qualifier := slotOf qualifier
        window := window
        threshold := BitVec.ofNat 32 threshold
        action := a
        start := m })

/-- The counter after a COUNTER_SET (R184). -/
def freshCounter (u : Option CounterSetup) : Counter where
  setup := u
  value := 0
  progress := 0
  armed := u.any (·.threshold != 0)
  started := false
  hold := false

/-- A hold that is given up hands the removal of COUNTER(n) (R184, R190). -/
def giveUpHold (held : Bool) (i : Fin 8) (s : State) : State := if held then removeCause (.counter i) s else s

/-- COUNTER_SET (R184). -/
def takeCounterSet (counter event qualifier window threshold action start : Nat) : Taking := fun s =>
  match counterOf counter with
  | none => (Answer.field 1, s)
  | some i =>
    match counterSetupOf i event qualifier window threshold action start with
    | .error n => (Answer.field n, s)
    | .ok u =>
      let old := s.counters.all[i]
      (Answer.ok (optional setupBytes old.setup ++ word4 old.value), giveUpHold old.hold i (putCounter i (freshCounter u) s))

/-- COUNTER_SET at the head of the receive queue (R184, R194). -/
def execCounterSet (s : State) : Next :=
  serve (fun r => match r with
    | .counterSet counter event qualifier window threshold action start =>
      some (takeCounterSet counter event qualifier window threshold action start)
    | _ => none) s

/-! ### COUNTER_CLEAR, COUNTER_UNFREEZE, COUNTER_READ (R189 to R191) -/

/-- The counter after a COUNTER_CLEAR (R190). -/
def Counter.cleared (c : Counter) : Counter :=
  { c with value := 0, progress := 0, armed := c.setup.any (·.threshold != 0), hold := false }

/-- COUNTER_CLEAR (R190). The reply has one form for every counter (log entry 20). -/
def takeCounterClear (counter : Nat) : Taking := fun s =>
  match counterOf counter with
  | none => (Answer.field 1, s)
  | some i =>
    let old := s.counters.all[i]
    let reply := Answer.ok (word4 old.value ++ nat2 old.progress ++ flag old.hold)
    if old.setup.isNone then (reply, s) else (reply, giveUpHold old.hold i (putCounter i old.cleared s))

/-- COUNTER_CLEAR at the head of the receive queue (R190, R194). -/
def execCounterClear (s : State) : Next :=
  serve (fun r => match r with | .counterClear counter => some (takeCounterClear counter) | _ => none) s

/-- COUNTER_UNFREEZE (R189). -/
def takeCounterUnfreeze : Taking := fun s =>
  (Answer.ok (counterByte s.counters.source),
    { s with counters := { s.counters with frozen := false, source := none } })

/-- COUNTER_UNFREEZE at the head of the receive queue (R189, R194). -/
def execCounterUnfreeze (s : State) : Next :=
  serve (fun r => match r with | .counterUnfreeze => some takeCounterUnfreeze | _ => none) s

/-- COUNTER_READ (R191): the eight counters, COUNTER_FREEZE, frozen and the freeze source. -/
def answerCounterRead (s : State) : Answer :=
  Answer.ok (((List.finRange 8).flatMap fun i => counterBytes s.counters.all[i]) ++ nat1 s.params.counterFreeze
    ++ flag s.counters.frozen ++ counterByte s.counters.source)

/-- COUNTER_READ at the head of the receive queue (R191, R194). -/
def execCounterRead (s : State) : Next :=
  serveRead (fun r => match r with | .counterRead => some answerCounterRead | _ => none) s

/-! ### WINDOW_END (R187) -/

/-- The last advance of a counter's window has been taken into it, but for the end (R187): the next move
of the window ends it, and the block is not frozen. -/
def windowEnds (s : State) (i : Fin 8) : Bool := !s.counters.frozen && s.counters.all[i].windowDue

/-- WINDOW_END (R187, log entry 7): the window of a counter ends when it is due. -/
def execWindowEnd (i : Fin 8) (s : State) : Next :=
  if windowEnds s i then .next (putCounter i s.counters.all[i].windowEnded s) else .next s

end Sys2Proof.Machine
end

