-- ==== Sys2Proof/Machine/Dispatch.lean ====
section
/-! DEFINITION. One arm for each command: the one direct call of its meaning. -/

namespace Sys2Proof.Machine

def exec (i : Instr) (s : State) : Host.Outcome State Fault Refusal :=
  match i with
  | .partReset => Sys2Proof.Machine.execPartReset s
  | .frameComplete bytes => Sys2Proof.Machine.execFrameComplete bytes s
  | .frameTruncated received => Sys2Proof.Machine.execFrameTruncated received s
  | .frameCheckError => Sys2Proof.Machine.execFrameCheckError s
  | .frameLengthError bodyLength kind number => Sys2Proof.Machine.execFrameLengthError bodyLength kind number s
  | .reject => Sys2Proof.Machine.execReject s
  | .overflow => Sys2Proof.Machine.execOverflow s
  | .load => Sys2Proof.Machine.execLoad s
  | .purge => Sys2Proof.Machine.execPurge s
  | .versionSet => Sys2Proof.Machine.execVersionSet s
  | .versionClear => Sys2Proof.Machine.execVersionClear s
  | .stationSet => Sys2Proof.Machine.execStationSet s
  | .stationClear => Sys2Proof.Machine.execStationClear s
  | .stationRestore => Sys2Proof.Machine.execStationRestore s
  | .paramSet => Sys2Proof.Machine.execParamSet s
  | .lineStart => Sys2Proof.Machine.execLineStart s
  | .lineDrain => Sys2Proof.Machine.execLineDrain s
  | .lineStop => Sys2Proof.Machine.execLineStop s
  | .lineHold => Sys2Proof.Machine.execLineHold s
  | .lineResume => Sys2Proof.Machine.execLineResume s
  | .faultClear => Sys2Proof.Machine.execFaultClear s
  | .jobReset => Sys2Proof.Machine.execJobReset s
  | .stopPointSet => Sys2Proof.Machine.execStopPointSet s
  | .stopPointClear => Sys2Proof.Machine.execStopPointClear s
  | .proof => Sys2Proof.Machine.execProof s
  | .restep => Sys2Proof.Machine.execRestep s
  | .bundleClose => Sys2Proof.Machine.execBundleClose s
  | .counterSet => Sys2Proof.Machine.execCounterSet s
  | .counterClear => Sys2Proof.Machine.execCounterClear s
  | .counterUnfreeze => Sys2Proof.Machine.execCounterUnfreeze s
  | .statusRead => Sys2Proof.Machine.execStatusRead s
  | .cellRead => Sys2Proof.Machine.execCellRead s
  | .queueRead => Sys2Proof.Machine.execQueueRead s
  | .stationRead => Sys2Proof.Machine.execStationRead s
  | .bundleRead => Sys2Proof.Machine.execBundleRead s
  | .counterRead => Sys2Proof.Machine.execCounterRead s
  | .transmitReply => Sys2Proof.Machine.execTransmitReply s
  | .transmitNotice => Sys2Proof.Machine.execTransmitNotice s
  | .transmitReport => Sys2Proof.Machine.execTransmitReport s
  | .sendCommand => Sys2Proof.Machine.execSendCommand s
  | .sendIdentityRequest => Sys2Proof.Machine.execSendIdentityRequest s
  | .sendPoll => Sys2Proof.Machine.execSendPoll s
  | .goodAnswer answer => Sys2Proof.Machine.execGoodAnswer answer s
  | .answerTimeout => Sys2Proof.Machine.execAnswerTimeout s
  | .answerCheckFail => Sys2Proof.Machine.execAnswerCheckFail s
  | .pitchAdvance order => Sys2Proof.Machine.execPitchAdvance order s
  | .chainWrap => Sys2Proof.Machine.execChainWrap s
  | .windowEnd counter => Sys2Proof.Machine.execWindowEnd counter s
  | .homeMark => Sys2Proof.Machine.execHomeMark s
  | .estop => Sys2Proof.Machine.execEstop s
  | .driveStart => Sys2Proof.Machine.execDriveStart s
  | .driveStop => Sys2Proof.Machine.execDriveStop s
  | .estopRelease => Sys2Proof.Machine.execEstopRelease s
  | .homeRelease => Sys2Proof.Machine.execHomeRelease s
  | .frameStart => Sys2Proof.Machine.execFrameStart s
  | .frameSent => Sys2Proof.Machine.execFrameSent s

end Sys2Proof.Machine
end

