-- ==== Sys2Proof/Safety.lean ====
section
/-! DEFINITION. The vocabulary of the statements: a request at the head of its queue and the states before
and after its reply, the result a cell awaits and what every result leaves alone, and the invariants. -/

namespace Sys2Proof.Machine

/-- A request stands at the head of the receive queue with its request number and the entries behind it,
and the reply queue has room (R194). -/
def Requested (s : State) (number : Byte) (r : Request) (rest : List RxEntry) : Prop :=
  s.link.rx = .request number r :: rest ∧ s.link.replies.length < 2

/-- The state in which a request has left the receive queue and a new moment has begun (log entry 6). -/
def taken (rest : List RxEntry) (s : State) : State :=
  { s with moment := s.moment + 1, link := { s.link with rx := rest } }

/-- The state in which a read request has left the receive queue. -/
def readFrom (rest : List RxEntry) (s : State) : State := { s with link := { s.link with rx := rest } }

/-- The state with one more reply: the kind and number of its request, a result and its data (12.7). -/
def withReply (number : Byte) (r : Request) (result : ResultCode) (data : List Byte) (s : State) : State :=
  { s with link := { s.link with
      replies := s.link.replies
        ++ [{ kind := BitVec.ofNat 8 r.kind, number := number, result := result, cause := none, data := data }] } }

/-- The receiver hunts and an entry has been offered to the receive queue (R192, R194). -/
def offered (e : RxEntry) (s : State) : State :=
  let joins : Bool := s.link.overflow.isEmpty && s.link.rx.length < 4
  let drops : Bool := !joins && s.link.overflow.length < 16
  { s with link := { s.link with
      receiver := .hunting
      rx := if joins then s.link.rx ++ [e] else s.link.rx
      overflow := if drops then s.link.overflow ++ [e.number] else s.link.overflow
      discarded := if joins || drops then s.link.discarded else min 65535 (s.link.discarded + 1) } }

/-- A pending notice stands in a slot with a content. -/
def Noticed (t : State) (i : Fin 33) (n : Notice) : Prop := (t.link.notices[i]).map (·.notice) = some n

/-- The slot numbers in the order in which the poll pointer reaches them: how many slots lie between the
pointer and a slot (R18). -/
def pollDistance (pointer : Nat) (n : SlotNo) : Nat := (n.val + 16 - pointer) % 16

/-- The request kinds (12.5). -/
def requestKinds : List Nat := List.range' 0x01 0x17 ++ List.range' 0x20 6

/-- Every field of a request fits the bytes it has in its body (12.7). -/
def Request.fits : Request → Prop
  | .load records => records.length < 256 ∧ ∀ r ∈ records, r.sequence < 2 ^ 32 ∧ r.version < 256
      ∧ r.bundleKey < 65536 ∧ r.trayKey < 65536 ∧ r.lines.length < 256 ∧ (∀ l ∈ r.lines, l.length < 256)
      ∧ r.keyline.length < 256
  | .purge a => a < 2 ^ 32
  | .versionSet version inserts weight lineCount => version < 256 ∧ inserts.length < 256 ∧ (∀ n ∈ inserts, n < 256)
      ∧ weight < 65536 ∧ lineCount < 256
  | .stationSet a b c d e f => a < 256 ∧ b < 256 ∧ c < 256 ∧ d < 256 ∧ e < 256 ∧ f < 256
  | .paramSet a b | .stopPointSet a b => a < 256 ∧ b < 2 ^ 32
  | .counterSet a b c d e f g => a < 256 ∧ b < 256 ∧ c < 256 ∧ d < 65536 ∧ e < 2 ^ 32 ∧ f < 256 ∧ g < 256
  | .queueRead a => a < 65536
  | .versionClear a | .stationClear a | .stationRestore a | .lineDrain a | .bundleClose a | .counterClear a
  | .cellRead a | .stationRead a => a < 256
  | .lineStart | .lineStop | .lineHold | .lineResume | .faultClear | .jobReset | .stopPointClear | .proof | .restep
  | .counterUnfreeze | .statusRead | .bundleRead | .counterRead => True

/-- The values of the parameters in number order, 1 to 20 (12.5). -/
def paramValues (p : Params) : List Nat :=
  [p.queueLowMark, p.remakeLimit, p.keyWait, p.stepWindow, p.stepThreshold, p.stepNoreadCounts, p.stepLock, p.stepAuto,
    p.provingRun, p.excessLimit, p.excessRestep, p.chainLength, p.bundleMaxItems, p.bundleMaxWeight, p.bundleMinItems,
    p.trayMaxBundles, p.trayMaxWeight, p.driveStartTime, p.driveStopTime, p.counterFreeze]

/-- A LOAD holds 1 to 8 records (R23, case 1). -/
def CountAllowed (records : List LoadRecord) : Prop := 1 ≤ records.length ∧ records.length ≤ 8

/-- The sequences rise from record to record, and above the last accepted one (R23, cases 2 and 3). -/
def SequencesAllowed (s : State) (records : List LoadRecord) : Prop :=
  (∀ r ∈ records, s.intake.lastSequence < r.sequence) ∧ records.Pairwise (·.sequence < ·.sequence)

/-- The version of a record is DEFINED (R23, case 4). -/
def VersionAllowed (s : State) (r : LoadRecord) : Prop := ∃ v : Fin 32, r.version = v.val ∧ (s.versions[v].definition).isSome

/-- The fields of a record of a DEFINED version are in range (R24). -/
def FieldsAllowed (s : State) (r : LoadRecord) : Prop :=
  r.bundleKey ≠ 0 ∧ r.trayKey ≠ 0 ∧ 1 ≤ r.lines.length ∧ r.lines.length ≤ 6
    ∧ (∃ (v : Fin 32) (d : VersionDef), r.version = v.val ∧ s.versions[v].definition = some d ∧ r.lines.length ≤ d.lineCount)
    ∧ (∀ l ∈ r.lines, l.length ≤ 40 ∧ ∀ b ∈ l, 32 ≤ b.toNat ∧ b.toNat ≤ 126)
    ∧ r.keyline.length ≤ 24 ∧ ∀ b ∈ r.keyline, 32 ≤ b.toNat ∧ b.toNat ≤ 126

/-- No record follows one of its bundle key with another tray key, the last accepted record coming before
the first (R25). -/
def KeysAllowed (s : State) (records : List LoadRecord) : Prop :=
  let keys := s.intake.lastKeys.toList ++ records.map fun r => (r.bundleKey, r.trayKey)
  ∀ k a b, keys[k]? = some a → keys[k + 1]? = some b → a.1 = b.1 → a.2 = b.2

/-- No case of R23 refuses a LOAD of these records. -/
def LoadAllowed (s : State) (records : List LoadRecord) : Prop :=
  CountAllowed records ∧ SequencesAllowed s records ∧ (∀ r ∈ records, VersionAllowed s r)
    ∧ (∀ r ∈ records, FieldsAllowed s r) ∧ KeysAllowed s records ∧ freshCount s + records.length ≤ 256

/-- The line is IDLE and every cell is EMPTY or DIVERTED (R2). -/
def Configurable (s : State) : Prop :=
  s.line.state = .idle ∧ ∀ c ∈ s.track.cells, c.content = .empty ∨ c.content = .diverted

/-- From s to t a slot has taken a configuration, or lost it, with all that follows (R2, R3, R14, R44,
R112); the printer's jobs are stated beside it. -/
def Reconfigured (n : SlotNo) (st : Option Station) (s t : State) : Prop :=
  let unbind (f : BusFrame) : BusFrame := if f.slot = some n then { f with slot := none } else f
  let reading := st.any (·.role == .reader) || hasRole s .reader n
  let monitored := allSlots.any (hasRole t .reader)
  t = { s with
      stations := s.stations.set n.val st n.isLt
      bus := { s.bus with
        txQueue := s.bus.txQueue.filter (·.slot != n)
        inProgress := s.bus.inProgress.map unbind }
      track := { s.track with cells := s.track.cells.take (stackerPosition t + 1), printJobs := t.track.printJobs }
      step := t.step
      line := { s.line with feed := t.line.feed }
      link := { s.link with notices := t.link.notices } }
    ∧ Noticed t ⟨9 + n.val, by omega⟩ (.station n { station := st.map fun st => (st.role, st.recorded, st.health), usable := st.any Station.usable })
    ∧ (∀ c, c ≠ .station n → c ≠ .step → t.line.feed.has c = s.line.feed.has c)
    ∧ t.line.feed.has (.station n) = st.any (fun st => st.role.feeding && !st.usable)
    ∧ (reading = false → t.step = s.step ∧ t.line.feed.has .step = s.line.feed.has .step)
    ∧ (reading = true → st.isSome = true ∨ monitored = false →
        t.step = StepMonitor.cleared (if monitored then .proving else .notMonitored) ∧ t.line.feed.has .step = false)

/-- A good answer with status v has made the station st the station new: v is its last reported status, and
the debounce decides whether v is the recorded one too; whether its identity is pending is given (R4, R5,
R10). -/
def StatusTakenBy (v : Reported) (pending : Prop) (st new : Station) : Prop :=
  let takes : Prop := st.recorded = .unknown ∨ st.recorded = .silent ∨ st.debounce = false ∨ st.lastReported = some v
  new = { st with recorded := new.recorded, lastReported := some v, identityPending := new.identityPending, unanswered := 0 }
    ∧ (takes → new.recorded = v.recorded)
    ∧ (¬ takes → new.recorded = st.recorded)
    ∧ (new.identityPending = true ↔ pending)

/-- The cell at position p carries the tag t, no cell nearer the main feeder does, and it awaits a result of
slot n (R59). -/
def Awaits (s : State) (n : SlotNo) (t : Tag) (p : Nat) (c : Cell) : Prop :=
  s.track.cells[p]? = some c ∧ c.tag = t ∧ (∃ e ∈ c.exchanges, e.slot = n)
    ∧ ∀ q d, q < p → s.track.cells[q]? = some d → d.tag ≠ t

/-- The transmit queue without the command for a slot and a tag (R61). -/
def unsent (n : SlotNo) (t : Tag) (s : State) : List BusCommand :=
  s.bus.txQueue.filter fun c => match c.order with
    | .cell tag _ => !(c.slot == n && tag == t)
    | .run | .stop => true

/-- The cell with a station's exchange removed (R59). -/
def ended (n : SlotNo) (c : Cell) : Cell := { c with exchanges := c.exchanges.eraseP (·.slot == n) }

/-- The cell without its record, whose sequence it keeps as the former one (R47). -/
def vacated (r : Record) (c : Cell) : Cell := { c with record := none, formerSequence := some r.sequence }

/-- The step monitor m, out of step with nothing lost, has left: it proves from 0 on, cause STEP is gone and a
STEP notice is raised (R118, R123; that the notice's window size is the number of entries held is log entry
13). -/
def LeftOutOfStep (m : StepMonitor) (u : State) : Prop :=
  u.step = { m with state := .proving, provingCount := 0 } ∧ u.line.feed.has .step = false
    ∧ Noticed u 2 (.step { state := .proving, conditions := m.conditions, lossCount := m.lossCount, fails := m.window.countP (· == .fail), windowSize := m.window.length, slipCount := m.slipCount, provingCount := 0, lostTags := m.lost.length, condemned := none, marked := none, evidence := none })

/-- From s to u the offer of the cell with tag t has ended without an item: its tag has left the lost list
(R117). When it was the last one there, in OUT_OF_STEP with STEP_AUTO 1, the step monitor has left
OUT_OF_STEP; else its state and cause STEP stay (R118). -/
def OfferEnded (t : Tag) (s u : State) : Prop :=
  let left : StepMonitor := { s.step with lost := s.step.lost.filter (· != t) }
  let leaves : Prop := s.step.state = .outOfStep ∧ s.params.stepAuto = 1 ∧ t ∈ s.step.lost ∧ left.lost = []
  (leaves → LeftOutOfStep left u)
    ∧ (¬ leaves → u.step = left ∧ u.line.feed.has .step = s.line.feed.has .step)

/-- From s to u a result of slot n has been applied to the cell with tag t at p, which is now c: its
exchange has ended, its command is withdrawn, the station has counted the result, and of the blocks that no
result moves nothing has changed. -/
def Applied (s u : State) (n : SlotNo) (t : Tag) (p : Nat) (st : Station) (o : StationOutcome) (c : Cell) : Prop :=
  u.stations = s.stations.set n.val (some (st.afterResult o)) n.isLt
    ∧ u.track = { s.track with cells := s.track.cells.set p c, printJobs := u.track.printJobs }
    ∧ u.bus = { s.bus with txQueue := u.bus.txQueue }
    ∧ (u.line.state = s.line.state → u.bus.txQueue = unsent n t s ∧ u.line = { s.line with
        feed := u.line.feed, laterFaults := u.line.laterFaults, lastLater := u.line.lastLater })
    ∧ u.phase = s.phase ∧ u.params = s.params ∧ u.estop = s.estop ∧ u.home = s.home ∧ u.moment = s.moment
    ∧ u.freeIndex = s.freeIndex ∧ u.pending = s.pending
    ∧ u.link = { s.link with notices := u.link.notices, reports := u.link.reports }

/-- From s to u a result has left records, versions, binding, the step monitor, the bundles, the reports and
the printer's jobs alone. -/
def CellOnly (s u : State) : Prop :=
  u.intake = s.intake ∧ u.versions = s.versions ∧ u.binding = s.binding ∧ u.step = s.step ∧ u.bundles = s.bundles
    ∧ u.link.reports = s.link.reports ∧ u.track.printJobs = s.track.printJobs

/-- From s to u the line has taken a fault: it is FAULTED with that cause, unless it was FAULTED before, when
the first cause stays and the later one is counted (R179). -/
def FaultTaken (k : FaultCause) (s u : State) : Prop :=
  u.line.state = .faulted ∧ (s.line.state ≠ .faulted → u.line.fault = some k)
    ∧ (s.line.state = .faulted → u.line.fault = s.line.fault ∧ u.line.lastLater = some k
        ∧ u.line.laterFaults = min 255 (s.line.laterFaults + 1))

/-- The version table with one record of a version less (R42). -/
def released (r : Record) (s : State) : Vector VersionEntry 32 :=
  s.versions.set r.version.val { s.versions[r.version] with refCount := s.versions[r.version].refCount - 1 } r.version.isLt

/-- Exactly one slot has a role, and its station meets a test (R171). -/
def One (s : State) (r : Role) (test : Station → Prop) : Prop :=
  ∃ n st, slotsWith s r = [n] ∧ stationAt s n = some st ∧ test st

/-- At most one slot has a role, and its station, if there is one, meets a test (R171). -/
def AtMostOne (s : State) (r : Role) (test : Station → Prop) : Prop :=
  slotsWith s r = [] ∨ One s r test

/-- The station stands above every station of a role (R171). -/
def StandsAbove (s : State) (r : Role) (st : Station) : Prop :=
  ∀ m other, stationAt s m = some other → other.role = r → other.position.getD 0 < st.position.getD 0

/-- The carrier feeder's position, c in R171. -/
def carrierAt (s : State) : Nat := (positionWith s .carrierFeeder).getD 0

/-- The condition of one row of the table of R171 holds; the rows are 1 to 11. -/
def LineUpRow (s : State) (row : Nat) : Prop :=
  match row with
  | 1 => s.line.state = .idle
  | 2 => One s .drive fun _ => True
  | 3 => One s .mainFeeder fun st => st.position.getD 0 = 0
  | 4 => One s .carrierFeeder fun _ => True
  | 5 => One s .printer fun st => st.position.getD 0 + 1 ≤ carrierAt s ∧ carrierAt s ≤ st.position.getD 0 + 8
  | 6 => (slotsWith s .insertFeeder).length ≤ 8
      ∧ ∀ n st, stationAt s n = some st → st.role = .insertFeeder → st.position.getD 0 < carrierAt s
  | 7 => AtMostOne s .reader (StandsAbove s .carrierFeeder)
  | 8 => AtMostOne s .sealer fun st => StandsAbove s .carrierFeeder st ∧ StandsAbove s .reader st
  | 9 => One s .gate fun st => StandsAbove s .carrierFeeder st ∧ StandsAbove s .reader st ∧ StandsAbove s .sealer st
  | 10 => One s .stacker fun st => ∀ m other p, stationAt s m = some other → other.role ≠ .stacker →
      other.position = some p → p < st.position.getD 0
  | 11 => ∀ r ∈ [Role.gate, .stacker, .drive], ∃ n st, slotWith s r = some n ∧ stationAt s n = some st ∧ st.usable = true
  | _ => True

/-- Every condition of R171 holds. -/
def LinedUp (s : State) : Prop := ∀ row, LineUpRow s row

/-- A row of the table of R171 is the first whose condition fails. -/
def FirstFailing (s : State) (row : Nat) : Prop := ¬ LineUpRow s row ∧ ∀ before, before < row → LineUpRow s before

/-- Every step that answers a next state keeps a property of the state. -/
def Kept (inv : State → Prop) : Prop := ∀ s t, inv s → step s = .next t → inv t

/-! ### The invariants -/

/-- The bounds of the receive queue, the overflow list and the reply queue (R194). -/
def LinkBounds (s : State) : Prop :=
  s.link.rx.length ≤ 4 ∧ s.link.overflow.length ≤ 16 ∧ s.link.replies.length ≤ 2

/-- With ESTOP asserted the line is FAULTED (R178). -/
def EstopHalts (s : State) : Prop := s.estop = true → s.line.state = .faulted

/-- The start timer runs in STARTING alone, the stop timer in STOPPING alone, and a drain option stands in
DRAINING alone (R172 to R179). -/
def TimersFollow (s : State) : Prop :=
  (s.line.startTimer ≠ .stopped ↔ s.line.state = .starting)
    ∧ (s.line.stopTimer ≠ .stopped ↔ s.line.state = .stopping)
    ∧ (s.line.drain ≠ .none ↔ s.line.state = .draining)

/-- Cause PHASE stands exactly in SEEKING, ACQUIRING and LOST (R128). -/
def PhaseCause (s : State) : Prop :=
  s.line.feed.has .phase = true ↔ s.phase.state = .seeking ∨ s.phase.state = .acquiring ∨ s.phase.state = .lost

/-- Cause STEP stands exactly in OUT_OF_STEP (6.2). -/
def StepCause (s : State) : Prop := s.line.feed.has .step = true ↔ s.step.state = .outOfStep

/-- Cause STATION(n) stands exactly while slot n holds an unusable feeding station (R14). -/
def StationCauses (s : State) : Prop :=
  ∀ n, s.line.feed.has (.station n) = true ↔ ∃ st, stationAt s n = some st ∧ st.role.feeding = true ∧ st.usable = false

/-- Cause COUNTER(n) stands exactly while counter n holds (11.1). -/
def CounterCauses (s : State) : Prop :=
  ∀ i : Fin 8, s.line.feed.has (.counter i) = true ↔ (s.counters.all[i]).hold = true

/-- Cause BACKLOG stands at an occupancy of 64 or more and is absent at one of 32 or less (R197). -/
def BacklogCause (s : State) : Prop :=
  (64 ≤ s.link.reports.length → s.line.feed.has .backlog = true)
    ∧ (s.link.reports.length ≤ 32 → s.line.feed.has .backlog = false)

/-- An open bundle stands in the open tray, whose serial it carries (9.1, R155). -/
def BundleInTray (s : State) : Prop :=
  ∀ b, s.bundles.bundle = some b → ∃ t, s.bundles.tray = some t ∧ t.serial = b.traySerial

/-- Every position is one of 0 to 63, and the tags of the cells, from position 0 on, are the tags given
last, at most 64 of them (R44, R46). -/
def TrackTags (s : State) : Prop :=
  (∀ n st p, stationAt s n = some st → st.position = some p → p ≤ 63)
    ∧ s.track.cells.length ≤ 64
    ∧ ∀ p c, s.track.cells[p]? = some c → c.tag = s.track.nextTag - 1 - BitVec.ofNat 8 p

/-! ### Where records, cells and reports stand -/

/-- A cell holds a record exactly as its content says: an OFFERED one that is no proof offer, a BOUND or
CONDEMNED one, and a PASSED one until its final outcome; an escaped cell is PASSED without a record (R47). -/
def RecordByContent (s : State) : Prop :=
  ∀ c ∈ s.track.cells,
    (c.content = .offered → (c.record = none ↔ c.proofOffer = true))
      ∧ (c.content = .bound ∨ c.content = .condemned → c.record ≠ none)
      ∧ (c.content = .empty ∨ c.content = .void ∨ c.content = .proof ∨ c.content = .diverted → c.record = none)
      ∧ (c.escaped = true → c.content = .passed ∧ c.record = none)
      ∧ (c.proofOffer = true → c.content = .offered)

/-- Every slot but a DRIVE has a position of 0 to 63 that no other slot has (R2). -/
def StationsPlaced (s : State) : Prop :=
  ∀ n st, stationAt s n = some st →
    (st.position = none ↔ st.role = .drive)
      ∧ ∀ p, st.position = some p → p ≤ 63 ∧ ∀ m other, m ≠ n → stationAt s m = some other → other.position ≠ some p

/-- One slot alone has the role, and it stands at p. -/
def Stands (s : State) (r : Role) (n : SlotNo) (p : Nat) : Prop := slotsWith s r = [n] ∧ positionOf s n = some p

/-- The main feeder stands at 0, the gate downstream of it, the stacker downstream of the gate (R171). -/
def Strung (s : State) : Prop :=
  ∃ feeder gate stacker g last, Stands s .mainFeeder feeder 0 ∧ Stands s .gate gate g ∧ Stands s .stacker stacker last
    ∧ 0 < g ∧ g < last

/-- The line may be moving, or some cell holds an item. -/
def Working (s : State) : Prop :=
  (s.line.state ≠ .idle ∧ s.line.state ≠ .faulted) ∨ ∃ c ∈ s.track.cells, c.content ≠ .empty ∧ c.content ≠ .diverted

/-- An OFFERED cell stands at 0 and awaits the main feeder; a BOUND, CONDEMNED, VOID or PROOF cell stands no
further than the gate and there awaits it; a record in a PASSED cell gets no further than the stacker, which
the cell then awaits (R49, R57, R76). -/
def CellsPlaced (s : State) : Prop :=
  ∀ p c, s.track.cells[p]? = some c →
    (c.content = .offered → p = 0 ∧ ∃ n, Stands s .mainFeeder n 0 ∧ { slot := n, closing := 0 } ∈ c.exchanges)
      ∧ (c.content = .bound ∨ c.content = .condemned ∨ c.content = .void ∨ c.content = .proof →
        ∃ n g, Stands s .gate n g ∧ p ≤ g ∧ (p = g → { slot := n, closing := g } ∈ c.exchanges))
      ∧ (c.content = .passed → c.record ≠ none →
        ∃ n last, Stands s .stacker n last ∧ p ≤ last ∧ (p = last → { slot := n, closing := last } ∈ c.exchanges))

/-- The remakes of a list of records stand ahead of its fresh records (R29). -/
def RemakesFirst (l : List Record) : Prop := l.Pairwise fun a b => b.kind = .remake → a.kind = .remake

/-- Remakes stand ahead of fresh records, but for a withdrawn offer at the head, and that only while no
record is offered; the fresh records rise in sequence up to the last accepted one, an offered one below them
all (R29, R31). -/
def QueueOrdered (s : State) : Prop :=
  let q := s.intake.queue
  RemakesFirst q.tail
    ∧ q.Pairwise (fun a b => a.kind = .fresh → b.kind = .fresh → a.sequence < b.sequence)
    ∧ (∀ r ∈ q, r.kind = .fresh → r.sequence ≤ s.intake.lastSequence)
    ∧ ∀ c ∈ s.track.cells, c.content = .offered → ∀ r, c.record = some r → RemakesFirst q
      ∧ (r.kind = .fresh → r.sequence ≤ s.intake.lastSequence ∧ ∀ x ∈ q, x.kind = .fresh → r.sequence < x.sequence)

/-- The cells that hold a record. -/
def heldRecords (s : State) : Nat := s.track.cells.countP (·.record.isSome)

/-- A fresh record at the head of the queue with a remake behind it: one withdrawn offer, whose cell may be
filled again before the remakes are (R28, R31). -/
def withdrawnAhead (s : State) : Nat :=
  if s.intake.queue.head?.any Record.isFresh = true ∧ 0 < remakeCount s then 1 else 0

/-- The fresh count is at most 256; the remakes and the records in cells, with a withdrawn offer that stands
ahead of remakes, are at most 64; the printer has at most 2 jobs (R27, R28, R67). -/
def RecordsBounded (s : State) : Prop :=
  freshCount s ≤ 256 ∧ remakeCount s + heldRecords s + withdrawnAhead s ≤ 64 ∧ s.track.printJobs ≤ 2

/-- The reference count of a version is the number of records of it in the queue and in cells, and a version
that is referred to is DEFINED (R42). -/
def VersionsCounted (s : State) : Prop :=
  ∀ v : Fin 32,
    s.versions[v].refCount = s.intake.queue.countP (fun r => r.version == v)
        + s.track.cells.countP (fun c => c.record.any fun r => r.version == v)
      ∧ (0 < s.versions[v].refCount → s.versions[v].definition ≠ none)

/-- The most reports that the items on the line may still give: three for a record short of the stacker (its
own, and those of a bundle and a tray that it closes), one for the record at the stacker, one for the open
bundle and one for the open tray. -/
def reportsToCome (s : State) : Nat :=
  (s.track.cells.take (stackerPosition s)).countP (·.record.isSome) * 3
    + (s.track.cells.drop (stackerPosition s)).countP (·.record.isSome)
    + (if s.bundles.bundle.isSome then 1 else 0) + (if s.bundles.tray.isSome then 1 else 0)

/-- Stations, cells, records, versions and reports stand as the rules keep them: the invariant from which the
bounds of R28, R29, R42, R47, R67, R76 and R197 follow. -/
def Settled (s : State) : Prop :=
  RecordByContent s ∧ StationsPlaced s ∧ (Working s → Strung s) ∧ CellsPlaced s
    ∧ s.track.cells.length ≤ stackerPosition s + 1
    ∧ QueueOrdered s ∧ RecordsBounded s ∧ VersionsCounted s
    ∧ BacklogCause s ∧ s.link.reports.length + reportsToCome s ≤ 320

end Sys2Proof.Machine
end

