-- ==== Sys2Proof/Certificates/Slice0/Obligations.lean ====
section
/-! DEFINITION. The statements for the provers, chapter by chapter. A request is stated where it stands at
the head of the receive queue with room for its reply (`Requested`); its conclusion gives the whole next
state, or the parts of it that change together with what stays. -/

open Sys2Proof Sys2Proof.Machine

/-! ### The step and the resets -/

/-- A step takes the command at the front of the queue.
On an empty queue the part idles: the model's choice, log entry 1. -/
def Obligations.StepTakesFront : Prop :=
  (∀ (c : Instr) (rest : List Instr) (s : State),
      s.pending = c :: rest → step s = exec c { s with pending := rest })
    ∧ (∀ s : State, s.pending = [] → step s = .next s)

/-- Every command of the table ends in a next state, whatever the state, and leaves the queue of commands
alone. The queue is the model's own (log entry 1), and that a step that is not due completes too, with
nothing changed, is the model's choice (log entry 3). -/
def Obligations.EveryCommandCompletes : Prop :=
  ∀ (c : Instr) (s : State), ∃ t, exec c s = .next t ∧ t.pending = s.pending

/-- What a part reset leaves (R1, R36, R43, R45, R69, R112, R126, R152, R168, R183, R192 to R198), and that the invariants
stated below hold there, both inputs being released (log entry 4). -/
def Obligations.ResetLeaves : Prop :=
  (∀ n, stationAt State.reset n = none)
    ∧ State.reset.bus = { txQueue := [], pollPointer := 0, inProgress := none }
    ∧ State.reset.intake = { queue := [], lastSequence := 0, lastKeys := none }
    ∧ freshCount State.reset = 0 ∧ remakeCount State.reset = 0 ∧ freeRoom State.reset = 256
    ∧ (∀ v : Fin 32, State.reset.versions[v] = { definition := none, refCount := 0 })
    ∧ State.reset.track = { cells := [], nextTag := 0, printJobs := 0, lateCount := 0 }
    ∧ State.reset.binding = { lastKey := none, lastVersion := none, keyWaitCount := 0, stopPoint := .none, proofPending := false }
    ∧ State.reset.step.state = .notMonitored ∧ State.reset.step.window = [] ∧ State.reset.step.lost = []
    ∧ State.reset.phase.state = .off ∧ State.reset.phase.chainCount = 0 ∧ State.reset.phase.window = []
    ∧ State.reset.bundles.bundle = none ∧ State.reset.bundles.tray = none
    ∧ State.reset.bundles.nextBundleSerial = 1 ∧ State.reset.bundles.nextTraySerial = 1
    ∧ State.reset.line.state = .idle ∧ State.reset.line.fault = none ∧ State.reset.line.driveOrder = .none
    ∧ (∀ c, State.reset.line.feed.has c = false) ∧ State.reset.line.restarted = true
    ∧ (∀ i : Fin 8, State.reset.counters.all[i].setup = none ∧ State.reset.counters.all[i].value = 0)
    ∧ State.reset.counters.frozen = false
    ∧ State.reset.link.receiver = .hunting ∧ State.reset.link.rx = [] ∧ State.reset.link.overflow = []
    ∧ State.reset.link.discarded = 0 ∧ State.reset.link.replies = [] ∧ State.reset.link.reports = []
    ∧ State.reset.link.tx = none
    ∧ (∀ i : Fin 33, State.reset.link.notices[i].isSome = decide (i = 0))
    ∧ paramValues State.reset.params = [64, 2, 0, 8, 3, 0, 0, 1, 4, 20, 0, 0, 100, 10000, 6, 20, 25000, 5, 10, 0]
    ∧ EstopHalts State.reset ∧ TimersFollow State.reset ∧ StepCause State.reset ∧ PhaseCause State.reset
    ∧ StationCauses State.reset ∧ CounterCauses State.reset ∧ LinkBounds State.reset ∧ BacklogCause State.reset
    ∧ TrackTags State.reset ∧ Settled State.reset ∧ BundleInTray State.reset

/-- PART_RESET: every block at its reset values; with ESTOP asserted the line is FAULTED(ESTOP) and the
first LINE notice shows it with the restarted mark (R168, R178). That this notice names IDLE as the state before
is the model's choice (log entry 9), and so is its age, moment 0 of the model's own count of moments (log entry
6). The inputs keep their levels, and the model's own free-value counter and queue are kept (log entries 2,
24). -/
def Obligations.PartResetRestarts : Prop :=
  ∀ s : State,
    let fresh : State := { State.reset with home := s.home, freeIndex := s.freeIndex, pending := s.pending }
    let notice : LineNotice := { LineNotice.reset with state := .faulted, fault := some .estop }
    (s.estop = false → exec .partReset s = .next fresh)
      ∧ (s.estop = true → exec .partReset s = .next { fresh with
          estop := true
          line := { Line.reset with state := .faulted, fault := some .estop }
          link := { HostLink.reset with
            notices := HostLink.reset.notices.set 0 (some { notice := .line notice, age := 0 }) } })

/-! ### The host link (Chapter 12) -/

/-- A 0x5A byte begins a frame, each ending of a frame offers its entry and hunts again, and the end of a
sent frame frees the transmitter (R192, R194, R195). `offered` says what becomes of the entry. The kind
named with a LENGTH ending, and the kind 0 of a frame cut short before its number even where its kind byte
has come, are the model's reading (log entry 16). -/
def Obligations.FramesBeginAndEnd : Prop :=
  (∀ s, exec .frameStart s = .next { s with link := { s.link with receiver := .inFrame } })
    ∧ (∀ s, exec .frameSent s = .next { s with link := { s.link with tx := none } })
    ∧ ∀ s : State, s.link.receiver = .inFrame →
      exec .frameCheckError s = .next (offered (.rejected .check 0 0) s)
        ∧ (∀ (n : Word16) (kind number : Byte), 2400 < n.toNat →
            exec (.frameLengthError n kind number) s = .next (offered (.rejected .length kind number) s))
        ∧ (∀ hi lo kind number : Byte, ∀ more : List Byte, partFrame (hi :: lo :: kind :: number :: more) = true →
            exec (.frameTruncated (hi :: lo :: kind :: number :: more)) s
              = .next (offered (.rejected .truncated kind number) s))
        ∧ (∀ received : List Byte, partFrame received = true → received.length < 4 →
            exec (.frameTruncated received) s = .next (offered (.rejected .truncated 0 0) s))
        ∧ ∀ bytes : List Byte, wholeFrame bytes = true →
            exec (.frameComplete bytes) s = .next (offered (checkFrame bytes) s)

/-- A complete frame is checked for CRC, kind and length, in that order (R193). The kind in a rejected entry,
0 for a failed CRC and else the frame's, is the model's reading (log entry 16). -/
def Obligations.FrameChecks : Prop :=
  ∀ (hi lo kind number : Byte) (body check : List Byte), check.length = 2 →
    let content := hi :: lo :: kind :: number :: body
    let e := checkFrame (content ++ check)
    (crcBytes content ≠ check → e = .rejected .check 0 0)
      ∧ (crcBytes content = check → kind.toNat ∉ requestKinds → e = .rejected .kind kind number)
      ∧ (crcBytes content = check → kind.toNat ∈ requestKinds → parseBody kind.toNat body = none →
          e = .rejected .length kind number)
      ∧ ∀ r, crcBytes content = check → kind.toNat ∈ requestKinds → parseBody kind.toNat body = some r →
          e = .request number r

/-- Every request whose fields fit their sizes is received as it was sent: its frame is whole and becomes
the request entry with its number and every field (R193, 12.7). -/
def Obligations.RequestFrameRoundTrip : Prop :=
  ∀ (r : Request) (number : Byte), r.fits → r.body.length ≤ 2400 →
    let bytes := (hostFrame (BitVec.ofNat 8 r.kind) number r.body).tail
    wholeFrame bytes = true ∧ checkFrame bytes = .request number r

/-- A rejected entry at the head of the receive queue, or the head of the overflow list, is answered REJECT
with its cause, kind and number while the reply queue has room; else it waits (R194). The kind 0 in the reply
to an overflowed frame is the model's reading (log entry 16). -/
def Obligations.RejectsAnswered : Prop :=
  (∀ (s : State) (cause : RejectCause) (kind number : Byte) (rest : List RxEntry),
      s.link.rx = .rejected cause kind number :: rest → s.link.replies.length < 2 →
      exec .reject s = .next { s with link := { s.link with
        rx := rest
        replies := s.link.replies ++ [{ kind := kind, number := number, result := .reject, cause := some cause, data := [] }] } })
    ∧ (∀ (s : State) (number : Byte) (rest : List Byte),
        s.link.rx = [] → s.link.overflow = number :: rest → s.link.replies.length < 2 →
        exec .overflow s = .next { s with link := { s.link with
          overflow := rest
          replies := s.link.replies ++ [{ kind := 0, number := number, result := .reject, cause := some .overflow, data := [] }] } })
    ∧ ∀ s : State, 2 ≤ s.link.replies.length → exec .reject s = .next s ∧ exec .overflow s = .next s

/-- The free transmitter takes the head of the reply queue, else the oldest notice, by age and then by
slot, else the head of the report queue; a departure that leaves 32 reports removes BACKLOG (R195, R196,
R197). The restarted mark falls when the LINE notice is taken, which is the model's moment for it (log entry
19; R168). A frame being sent is not interrupted,
no notice is sent while a reply waits, and no report while a reply or a notice waits: a command whose turn it
is not changes nothing, as does one with nothing to send (log entry 3). -/
def Obligations.TransmitterOrder : Prop :=
  (∀ (s : State) (r : Reply) (rest : List Reply), s.link.tx = none → s.link.replies = r :: rest →
      exec .transmitReply s = .next { s with link := { s.link with tx := some r.frame, replies := rest } })
    ∧ (∀ (s : State) (i : Fin 33) (p : PendingNotice), s.link.tx = none → s.link.replies = [] →
        s.link.notices[i] = some p →
        (∀ (j : Fin 33) (q : PendingNotice), s.link.notices[j] = some q → p.age < q.age ∨ (p.age = q.age ∧ i ≤ j)) →
        exec .transmitNotice s = .next { s with
          link := { s.link with tx := some p.notice.frame, notices := s.link.notices.set i.val none i.isLt }
          line := { s.line with restarted := if i = 0 then false else s.line.restarted } })
    ∧ (∀ (s : State) (r : Report) (rest : List Report), s.link.tx = none → s.link.replies = [] →
        (∀ i : Fin 33, s.link.notices[i] = none) → s.link.reports = r :: rest →
        let sent : State := { s with link := { s.link with tx := some r.frame, reports := rest } }
        (rest.length ≠ 32 → exec .transmitReport s = .next sent)
          ∧ (rest.length = 32 → exec .transmitReport s = .next (removeCause .backlog { sent with moment := s.moment + 1 })))
    ∧ ∀ s : State,
      (s.link.tx ≠ none → exec .transmitReply s = .next s ∧ exec .transmitNotice s = .next s ∧ exec .transmitReport s = .next s)
        ∧ (s.link.replies ≠ [] → exec .transmitNotice s = .next s ∧ exec .transmitReport s = .next s)
        ∧ ((∃ i : Fin 33, s.link.notices[i] ≠ none) → exec .transmitReport s = .next s)
        ∧ (s.link.replies = [] → exec .transmitReply s = .next s)
        ∧ ((∀ i : Fin 33, s.link.notices[i] = none) → exec .transmitNotice s = .next s)
        ∧ (s.link.reports = [] → exec .transmitReport s = .next s)

/-- A raised notice takes its slot: an empty slot takes the moment of raising as its age, a pending one
keeps its age (R196).
The addition of an absent cause and the removal of a present one change the set by that cause alone and
raise a FEED notice with the whole set; any other changes nothing (R169).
A report joins the tail of the report queue, and the one that brings the occupancy to 64 adds BACKLOG
(R197). -/
def Obligations.AnnouncementsShared : Prop :=
  (∀ (n : Notice) (s : State),
      let age := match s.link.notices[n.slot] with
        | some p => p.age
        | none => s.moment
      let notices := s.link.notices.set n.slot.val (some { notice := n, age := age }) n.slot.isLt
      raise n s = { s with link := { s.link with notices := notices } })
    ∧ ((∀ (f : FeedSet) (c d : FeedCause) (b : Bool), (f.put c b).has d = if d = c then b else f.has d)
        ∧ ∀ (c : FeedCause) (s : State),
          (s.line.feed.has c = true → addCause c s = s
              ∧ removeCause c s = raise (.feed (s.line.feed.put c false)) { s with line := { s.line with feed := s.line.feed.put c false } })
            ∧ (s.line.feed.has c = false → removeCause c s = s
              ∧ addCause c s = raise (.feed (s.line.feed.put c true)) { s with line := { s.line with feed := s.line.feed.put c true } }))
    ∧ (∀ (r : Report) (s : State),
        let t : State := { s with link := { s.link with reports := s.link.reports ++ [r] } }
        queueReport r s = if s.link.reports.length = 63 then addCause .backlog t else t)

/-! ### Records, intake queue, versions (Chapter 2) -/

/-- An allowed LOAD appends its records in order as FRESH records with no attempts and the six fields that the
host gave, a keyline of length 0 being none; it counts each in its version, takes the last record's sequence and keys as the last accepted ones, and answers with the number
of records, the fresh count, the room and the last sequence (R22, R23, R26). -/
def Obligations.LoadAccepted : Prop :=
  ∀ (s : State) (number : Byte) (records : List LoadRecord) (last : LoadRecord) (rest : List RxEntry),
    Requested s number (.load records) rest → LoadAllowed s records → records.getLast? = some last →
    let fresh := freshCount s + records.length
    let counted (v : Fin 32) : VersionEntry := { s.versions[v] with
      refCount := s.versions[v].refCount + records.countP (·.version == v.val) }
    let t : State := { taken rest s with
      intake := {
        queue := s.intake.queue ++ records.map LoadRecord.accepted
        lastSequence := last.sequence
        lastKeys := some (last.bundleKey, last.trayKey) }
      versions := Vector.ofFn counted }
    freshCount t = fresh
      ∧ (∀ r ∈ records, r.accepted.attempts = 0 ∧ r.accepted.kind = .fresh ∧ r.accepted.sequence = r.sequence
          ∧ r.accepted.version.val = r.version ∧ r.accepted.bundleKey = r.bundleKey ∧ r.accepted.trayKey = r.trayKey
          ∧ r.accepted.lines = r.lines ∧ r.accepted.keyline = if r.keyline = [] then none else some r.keyline)
      ∧ exec .load s = .next (withReply number (.load records) .ok
          (nat1 records.length ++ nat2 fresh ++ nat2 (256 - fresh) ++ nat4 last.sequence) t)

/-- A LOAD that is not allowed is refused, and a refused LOAD changes no state (R23). The result is that of
the first case that applies: the record count, the sequences, the versions, the fields of the records, the
keys, the room. The field is the first that fails in the lowest failing record, in the order of R24: bundle
key, tray key, the number of address lines, an address line, the keyline. Their numbers are their places in the
record table; that a list of lines fails as its line count (field 5) and a line as the field of the lines
(field 6) is the model's reading (log entry 15). The keys are refused at the first record that has its
predecessor's bundle key and another tray key, the last accepted record being the first one's predecessor
(R25). -/
def Obligations.LoadRefused : Prop :=
  ∀ (s : State) (number : Byte) (records : List LoadRecord) (rest : List RxEntry),
    Requested s number (.load records) rest →
    let refused (result : ResultCode) (data : List Byte) : Prop :=
      exec .load s = .next (withReply number (.load records) result data (taken rest s))
    let unprintable (b : Byte) : Prop := b.toNat < 32 ∨ 126 < b.toNat
    let fails (r : LoadRecord) (f : Nat) : Prop := (f = 3 ∧ r.bundleKey = 0) ∨ (f = 4 ∧ r.trayKey = 0)
      ∨ (f = 5 ∧ (r.lines = [] ∨ 6 < r.lines.length
        ∨ ∃ (v : Fin 32) (d : VersionDef), r.version = v.val ∧ s.versions[v].definition = some d ∧ d.lineCount < r.lines.length))
      ∨ (f = 6 ∧ ∃ l ∈ r.lines, 40 < l.length ∨ ∃ b ∈ l, unprintable b)
      ∨ (f = 7 ∧ (24 < r.keyline.length ∨ ∃ b ∈ r.keyline, unprintable b))
    let predecessor (k : Nat) : Option (Nat × Nat) :=
      if k = 0 then s.intake.lastKeys else records[k - 1]?.map fun r => (r.bundleKey, r.trayKey)
    let clashes (k : Nat) : Prop := ∃ r trayKey, records[k]? = some r ∧ predecessor k = some (r.bundleKey, trayKey)
      ∧ trayKey ≠ r.trayKey
    (¬ LoadAllowed s records → ∃ result data, result ≠ .ok ∧ refused result data)
      ∧ (¬ CountAllowed records → refused .field [0, 1])
      ∧ (CountAllowed records → ¬ SequencesAllowed s records → refused .order (nat4 s.intake.lastSequence))
      ∧ (CountAllowed records → SequencesAllowed s records →
          (∀ k r, records[k]? = some r → (∀ j q, j < k → records[j]? = some q → VersionAllowed s q) →
            ¬ VersionAllowed s r → refused .version (nat1 (k + 1)))
          ∧ ((∀ r ∈ records, VersionAllowed s r) →
            (∀ k r f, records[k]? = some r → (∀ j q, j < k → records[j]? = some q → FieldsAllowed s q) →
              fails r f → (∀ e, e < f → ¬ fails r e) → refused .field (nat1 (k + 1) ++ nat1 f))
            ∧ ((∀ r ∈ records, FieldsAllowed s r) →
              (¬ KeysAllowed s records → ∃ k, clashes k ∧ (∀ j, j < k → ¬ clashes j) ∧ refused .keys (nat1 (k + 1)))
              ∧ (KeysAllowed s records → 256 < freshCount s + records.length →
                  refused .full (nat2 (256 - freshCount s))))))

/-- PURGE removes every FRESH record of the queue at or above the sequence, keeps the order of the others
and the last accepted values, counts the versions down, answers with the number and the lowest sequence
removed, and raises QUEUE_LOW when the fall crosses the mark; from-sequence 0 is refused (R35, R38). -/
def Obligations.PurgeRemoves : Prop :=
  ∀ (s : State) (number : Byte) (fromSequence : Nat) (rest : List RxEntry),
    Requested s number (.purge fromSequence) rest →
    let gone := s.intake.queue.filter fun r => r.kind == .fresh && fromSequence ≤ r.sequence
    let counted (v : Fin 32) : VersionEntry := { s.versions[v] with
      refCount := s.versions[v].refCount - gone.countP (·.version == v) }
    let t : State := { taken rest s with
      intake := { s.intake with queue := s.intake.queue.filter fun r => !(r.kind == .fresh && fromSequence ≤ r.sequence) }
      versions := Vector.ofFn counted }
    let low : Notice := .queueLow { fresh := freshCount t, room := 256 - freshCount t, entries := t.intake.queue.length, lastSequence := s.intake.lastSequence }
    (fromSequence = 0 → exec .purge s = .next (withReply number (.purge fromSequence) .field [0, 1] (taken rest s)))
      ∧ (fromSequence ≠ 0 →
          freshCount t + gone.length = freshCount s
          ∧ exec .purge s = .next (withReply number (.purge fromSequence) .ok
              (nat2 gone.length ++ opt4 (gone.map (·.sequence)).min?)
              (if s.params.queueLowMark ≤ freshCount s ∧ freshCount t < s.params.queueLowMark then raise low t else t)))

/-- VERSION_SET defines an entry that no record refers to, with insert feeders in the order given;
VERSION_CLEAR makes it UNDEFINED; both are refused FIELD for a value out of range and IN_USE while records
refer to the entry, and change nothing else (R40, R41). The field that a refused VERSION_SET names is one that
is out of range; which one when two are, and that more than 8 entries fail as the insert count (field 2) and a
bad entry as the field of the slots (field 3), is the model's choice (log entry 15). -/
def Obligations.VersionRequests : Prop :=
  ∀ (s : State) (number : Byte) (v : Fin 32) (rest : List RxEntry),
    (∀ version inserts weight lineCount, Requested s number (.versionSet version inserts weight lineCount) rest →
      let bad (f : Nat) : Prop := (f = 1 ∧ 32 ≤ version) ∨ (f = 2 ∧ 8 < inserts.length)
        ∨ (f = 3 ∧ ((∃ n ∈ inserts, n = 0 ∨ 16 < n) ∨ ¬ inserts.Nodup)) ∨ (f = 4 ∧ (weight = 0 ∨ 2000 < weight))
        ∨ (f = 5 ∧ (lineCount = 0 ∨ 6 < lineCount))
      (∃ f, bad f) → ∃ f, bad f ∧ exec .versionSet s
        = .next (withReply number (.versionSet version inserts weight lineCount) .field (nat1 0 ++ nat1 f) (taken rest s)))
    ∧ (∀ k, 32 ≤ k → Requested s number (.versionClear k) rest →
      exec .versionClear s = .next (withReply number (.versionClear k) .field [0, 1] (taken rest s)))
    ∧ (∀ (inserts : List SlotNo) (weight lineCount : Nat),
      inserts.length ≤ 8 → inserts.Nodup → 1 ≤ weight → weight ≤ 2000 → 1 ≤ lineCount → lineCount ≤ 6 →
      let r : Request := .versionSet v.val (inserts.map slotNumber) weight lineCount
      Requested s number r rest →
      let d : VersionDef := { inserts := inserts, weight := weight, lineCount := lineCount }
      (0 < s.versions[v].refCount →
          exec .versionSet s = .next (withReply number r .inUse (nat2 s.versions[v].refCount) (taken rest s)))
        ∧ (s.versions[v].refCount = 0 → (∀ n ∈ inserts, ∃ st, stationAt s n = some st ∧ st.role = .insertFeeder) →
          exec .versionSet s = .next (withReply number r .ok [] { taken rest s with
            versions := s.versions.set v.val { definition := some d, refCount := 0 } v.isLt }))
        ∧ (s.versions[v].refCount = 0 → ∀ n before after, inserts = before ++ n :: after →
          (∀ m ∈ before, ∃ st, stationAt s m = some st ∧ st.role = .insertFeeder) →
          ¬ (∃ st, stationAt s n = some st ∧ st.role = .insertFeeder) →
          exec .versionSet s = .next (withReply number r .station (nat1 (slotNumber n)) (taken rest s))))
      ∧ (Requested s number (.versionClear v.val) rest →
        (0 < s.versions[v].refCount →
          exec .versionClear s = .next (withReply number (.versionClear v.val) .inUse (nat2 s.versions[v].refCount) (taken rest s)))
        ∧ (s.versions[v].refCount = 0 →
          exec .versionClear s = .next (withReply number (.versionClear v.val) .ok [] { taken rest s with
            versions := s.versions.set v.val { definition := none, refCount := 0 } v.isLt })))

/-! ### Reading the part (12.6) -/

/-- A read request is answered with the state as it stands and changes nothing but the two queues; an
operand out of range is refused FIELD (R13, R39, R68, R167, R191). STATUS_READ answers nine groups; its
time left, a free value (log entry 2), never exceeds the time the timer was started with (R199). The bytes are
R200 applied to the lists of those rules, the codes of the named sets and the composed fields being the model's
reading (log entries 12 and 13): the sets numbered by their tables, one optional record of the slot in
STATION_READ, the composed fields of the groups of STATUS_READ, one optional setup for each counter in
COUNTER_READ, one optional record each of the open bundle, the open tray and the stack in flight in BUNDLE_READ.
That an exchange of CELL_READ ends in a flag, 1 for a command still queued and 0 for one sent, is the model's
choice (log entry 35). -/
def Obligations.ReadsAnswered : Prop :=
  ∀ (s : State) (number : Byte) (rest : List RxEntry),
    let bundleRecord (b : OpenBundle) : List Byte := nat2 b.serial ++ nat2 b.traySerial ++ nat2 b.key ++ nat2 b.items
      ++ nat4 b.weight ++ opt4 b.first ++ opt4 b.last ++ flag b.split ++ nat2 b.unconfirmed
    let trayRecord (t : OpenTray) : List Byte := nat2 t.serial ++ nat2 t.key ++ nat2 t.bundles ++ nat4 t.items
      ++ nat4 t.weight ++ flag t.split
    let stack (f : StackInFlight) : List Byte := [f.tag] ++ nat1 f.mark.code ++ nat2 f.bundleSerial ++ nat2 f.traySerial
    let setup (u : CounterSetup) : List Byte := nat1 u.event.code ++ slotByte u.qualifier ++ nat2 u.window
      ++ word4 u.threshold ++ nat1 u.action.code ++ nat1 u.start.code
    let counter (c : Counter) : List Byte := optional setup c.setup ++ word4 c.value ++ nat2 c.progress ++ flag c.armed
      ++ flag c.started ++ flag c.hold
    (∀ p, Requested s number (.cellRead p) rest →
        (63 < p → exec .cellRead s = .next (withReply number (.cellRead p) .field [0, 1] (readFrom rest s)))
        ∧ (p ≤ 63 → exec .cellRead s = .next (withReply number (.cellRead p) .ok
            (trackBytes s ++ optional (fun c => cellBytes (fun n => stillQueued s n (Cell.tag c)) c) s.track.cells[p]?)
            (readFrom rest s))))
      ∧ (∀ i, Requested s number (.queueRead i) rest →
        (319 < i → exec .queueRead s = .next (withReply number (.queueRead i) .field [0, 1] (readFrom rest s)))
        ∧ (i ≤ 319 → exec .queueRead s = .next (withReply number (.queueRead i) .ok
            (queueCounts s ++ optional recordBytes s.intake.queue[i]?) (readFrom rest s))))
      ∧ (∀ n : SlotNo, Requested s number (.stationRead (slotNumber n)) rest →
        exec .stationRead s = .next (withReply number (.stationRead (slotNumber n)) .ok
          (optional stationBytes (stationAt s n)) (readFrom rest s)))
      ∧ (∀ k, k = 0 ∨ 16 < k → Requested s number (.stationRead k) rest →
        exec .stationRead s = .next (withReply number (.stationRead k) .field [0, 1] (readFrom rest s)))
      ∧ (Requested s number .bundleRead rest →
        exec .bundleRead s = .next (withReply number .bundleRead .ok
          (optional bundleRecord s.bundles.bundle ++ optional trayRecord s.bundles.tray ++ nat2 s.bundles.nextBundleSerial
            ++ nat2 s.bundles.nextTraySerial ++ opt2 s.bundles.bundleSplitKey ++ opt2 s.bundles.traySplitKey
            ++ optional stack s.bundles.inFlight ++ nat1 s.bundles.closePending.code ++ nat2 s.params.bundleMaxItems
            ++ nat2 s.params.bundleMaxWeight ++ nat1 s.params.bundleMinItems ++ nat1 s.params.trayMaxBundles
            ++ nat4 s.params.trayMaxWeight) (readFrom rest s)))
      ∧ (Requested s number .counterRead rest →
        exec .counterRead s = .next (withReply number .counterRead .ok
          ((s.counters.all.toList.flatMap counter) ++ nat1 s.params.counterFreeze ++ flag s.counters.frozen
            ++ counterByte s.counters.source) (readFrom rest s)))
      ∧ (Requested s number .statusRead rest →
        exec .statusRead s = .next { withReply number .statusRead .ok
          (lineGroup s ++ bindingGroup s.binding ++ queueCounts s ++ trackBytes s ++ stepGroup s.step
            ++ phaseGroup s.phase s.params.chainLength ++ bundleGroup s.bundles ++ linkGroup (readFrom rest s)
            ++ paramBytes s.params) (readFrom rest s) with freeIndex := s.freeIndex + 1 })
      ∧ ∀ left, timeLeft s = some left → ∃ started, left ≤ started
          ∧ (s.line.startTimer = .running started ∨ s.line.stopTimer = .running started)

/-! ### Stations (Chapter 1) -/

/-- STATION_SET on an IDLE line without items gives a slot its configuration: the kept fields begin afresh,
the slot's queued frames are dropped and a frame in progress for it loses its station, the cells above S
leave the track, STATION(n) stands for a feeding role, a printer starts with no job, and a reader's change
sets the step monitor as a job reset does (R2, R14, R44, R67, R112). Nothing else changes but the
notices. -/
def Obligations.StationConfigured : Prop :=
  ∀ (s : State) (number : Byte) (n : SlotNo) (role : Role) (address position debounce limit : Nat) (rest : List RxEntry),
    let r : Request := .stationSet (slotNumber n) role.code address position debounce limit
    Requested s number r rest → Configurable s → 1 ≤ address → address ≤ 30 → role = .drive ∨ position ≤ 63 →
    debounce ≤ 2 → limit ≤ 15 →
    let place : Option Nat := if role = .drive then none else some position
    (∀ m st, m ≠ n → stationAt s m = some st → st.address ≠ address ∧ (place = none ∨ st.position ≠ place)
      ∧ (role = .drive ∨ role = .gate ∨ role = .stacker → st.role ≠ role)) →
    (hasRole s .insertFeeder n = true → role ≠ .insertFeeder → ∀ (v : Fin 32) d, s.versions[v].definition = some d → n ∉ d.inserts) →
    let st : Station := { role := role, address := address, position := place, debounce := debounce != 2, faultLimit := if limit = 0 then 3 else limit, recorded := .unknown, lastReported := none, health := .ok, faultCount := 0, noReportCount := 0, identityPending := false, unanswered := 0, lateCount := 0, motion := if role = .drive then some .stopped else none }
    ∃ t, exec .stationSet s = .next (withReply number r .ok [] t) ∧ Reconfigured n (some st) (taken rest s) t
      ∧ t.track.printJobs = if role = .printer then 0 else s.track.printJobs

/-- STATION_CLEAR of a configured slot makes it unconfigured under the same conditions and removes its
cause; that of the last reader's slot sets the step monitor as a job reset does, and that of an unconfigured
slot changes nothing (R3, R112).
The refusals of STATION_SET and STATION_CLEAR change no state: STATE outside an IDLE line without items;
FIELD for a slot that does not exist and, of STATION_SET, for a role, address, position, fault limit or
debounce option out of range (which one is named when two are is log entry 15), then for the address, the
position or the single role of another slot, which the reply names; and IN_USE, with the lowest such version,
for an insert feeder that a defined version names (R2, R3). -/
def Obligations.StationCleared : Prop :=
  (∀ (s : State) (number : Byte) (n : SlotNo) (rest : List RxEntry),
      let r : Request := .stationClear (slotNumber n)
      Requested s number r rest → Configurable s →
      (stationAt s n = none → exec .stationClear s = .next (withReply number r .ok [] (taken rest s)))
        ∧ ((stationAt s n).isSome →
          (hasRole s .insertFeeder n = true → ∀ (v : Fin 32) d, s.versions[v].definition = some d → n ∉ d.inserts) →
          ∃ t, exec .stationClear s = .next (withReply number r .ok [] t) ∧ Reconfigured n none (taken rest s) t
            ∧ t.track.printJobs = s.track.printJobs))
    ∧ (∀ (s : State) (number : Byte) (slot : Nat) (rest : List RxEntry),
        (∀ role address position debounce limit,
            let r : Request := .stationSet slot role address position debounce limit
            Requested s number r rest →
            let refused (result : ResultCode) (data : List Byte) : Prop :=
              exec .stationSet s = .next (withReply number r result data (taken rest s))
            let bad (f : Nat) : Prop := (f = 1 ∧ (slot = 0 ∨ 16 < slot)) ∨ (f = 2 ∧ (role = 0 ∨ 9 < role))
              ∨ (f = 3 ∧ (address = 0 ∨ 30 < address)) ∨ (f = 4 ∧ role ≠ 9 ∧ 63 < position)
              ∨ (f = 5 ∧ 2 < debounce) ∨ (f = 6 ∧ 15 < limit)
            (¬ Configurable s → refused .state [])
            ∧ (Configurable s → (∃ f, bad f) → ∃ f, bad f ∧ refused .field (nat1 0 ++ nat1 f))
            ∧ ∀ (n : SlotNo) (q : Role), Configurable s → (∀ f, ¬ bad f) → slot = slotNumber n → role = q.code →
              let other (test : Station → Prop) (m : SlotNo) : Prop := m ≠ n ∧ ∃ st, stationAt s m = some st ∧ test st
              let addressed := other fun st => st.address = address
              let placed := other fun st => q ≠ .drive ∧ st.position = some position
              let doubled := other fun st => (q = .drive ∨ q = .gate ∨ q = .stacker) ∧ st.role = q
              ((∃ m, addressed m) → ∃ m, addressed m ∧ refused .field (nat1 0 ++ nat1 3 ++ nat1 (slotNumber m)))
                ∧ ((∀ m, ¬ addressed m) → (∃ m, placed m) →
                  ∃ m, placed m ∧ refused .field (nat1 0 ++ nat1 4 ++ nat1 (slotNumber m)))
                ∧ ((∀ m, ¬ addressed m) → (∀ m, ¬ placed m) → (∃ m, doubled m) →
                  ∃ m, doubled m ∧ refused .field (nat1 0 ++ nat1 2 ++ nat1 (slotNumber m)))
                ∧ ((∀ m, ¬ addressed m) → (∀ m, ¬ placed m) → (∀ m, ¬ doubled m) →
                  ∀ (v : Fin 32) (d : VersionDef), hasRole s .insertFeeder n = true → q ≠ .insertFeeder →
                  s.versions[v].definition = some d → n ∈ d.inserts →
                  (∀ (w : Fin 32) e, w < v → s.versions[w].definition = some e → n ∉ e.inserts) →
                  refused .inUse (nat1 v.val)))
          ∧ (Requested s number (.stationClear slot) rest →
            (¬ Configurable s → exec .stationClear s = .next (withReply number (.stationClear slot) .state [] (taken rest s)))
            ∧ (Configurable s → slot = 0 ∨ 16 < slot →
                exec .stationClear s = .next (withReply number (.stationClear slot) .field [0, 1] (taken rest s)))
            ∧ ∀ (n : SlotNo) (v : Fin 32) (d : VersionDef), Configurable s → slot = slotNumber n →
                hasRole s .insertFeeder n = true → s.versions[v].definition = some d → n ∈ d.inserts →
                (∀ (w : Fin 32) e, w < v → s.versions[w].definition = some e → n ∉ e.inserts) →
                exec .stationClear s = .next (withReply number (.stationClear slot) .inUse (nat1 v.val) (taken rest s))))

/-- STATION_RESTORE returns a configured station to health OK with both counts 0; a MISMATCH one is asked
its identity again. A change of health raises the STATION notice and is judged for usability; a slot that
is unconfigured or does not exist is refused (R11, R14). -/
def Obligations.StationRestored : Prop :=
  ∀ (s : State) (number : Byte) (slot : Nat) (rest : List RxEntry),
    Requested s number (.stationRestore slot) rest →
    (∀ (n : SlotNo) st, slot = slotNumber n → stationAt s n = some st →
        let new : Station := { st with
          health := .ok
          faultCount := 0
          noReportCount := 0
          identityPending := st.identityPending || st.health == .mismatch }
        let u : State := { taken rest s with stations := s.stations.set n.val (some new) n.isLt }
        (st.health = .ok → exec .stationRestore s = .next (withReply number (.stationRestore slot) .ok [] u))
        ∧ (st.health ≠ .ok →
            exec .stationRestore s = .next (withReply number (.stationRestore slot) .ok []
              (let told := raise (.station n { station := some (new.role, new.recorded, .ok), usable := new.usable }) u
               if st.role.feeding then putCause (.station n) (!new.usable) told else told))))
      ∧ ((∀ n : SlotNo, slot = slotNumber n → stationAt s n = none) →
        exec .stationRestore s = .next (withReply number (.stationRestore slot) .field [0, 1] (taken rest s)))

/-! ### The station bus (1.5) and what an answer brings (1.2, 1.3) -/

/-- A change of a configured station alone changes its entry. One of recorded status or health raises the
STATION notice, puts or removes STATION(n) for a feeding role, and hands the fault STATION(n) when a
disposing station turns unusable or a status becomes GUARD_OPEN (R12, R14, R15). -/
def Obligations.StationChangeJudged : Prop :=
  ∀ (n : SlotNo) (f : Station → Station) (st : Station) (s : State), stationAt s n = some st →
    let new := f st
    let u : State := { s with stations := s.stations.set n.val (some new) n.isLt }
    let t := updateStation n f s
    let faulting : Prop := (new.role.feeding = false ∧ st.usable = true ∧ new.usable = false)
      ∨ (new.recorded = .guardOpen ∧ st.recorded ≠ .guardOpen)
    (new.recorded = st.recorded → new.health = st.health → t = u)
      ∧ (new.recorded ≠ st.recorded ∨ new.health ≠ st.health →
        Noticed t ⟨9 + n.val, by omega⟩ (.station n { station := some (new.role, new.recorded, new.health), usable := new.usable })
        ∧ (∀ c, t.line.feed.has c = if c = .station n ∧ new.role.feeding = true then !new.usable else s.line.feed.has c)
        ∧ (¬ faulting → t = { u with line := { u.line with feed := t.line.feed }, link := { u.link with notices := t.link.notices } })
        ∧ (faulting → ∃ v : State, t = handFault (.station n) v
            ∧ v = { u with line := { u.line with feed := v.line.feed }, link := { u.link with notices := v.link.notices } }))

/-- A good answer to a command or poll frees the bus and is taken for its status first: the debounce decides
the recorded status, the unanswered count returns to 0, and the end of UNKNOWN or SILENT asks for the
identity. The motion of the drive's answer is then handed to the line controller, and the result an answer
carries to the track (R4, R5, R6, R10, R21); that the motion stands between the status and the result is the
model's reading (log entry 21). An answer to an identity request is stated by IdentityCompared. -/
def Obligations.StatusTaken : Prop :=
  ∀ (s : State) (f : BusFrame) (n : SlotNo) (st : Station) (answer : List BusChar) (a : StationAnswer),
    s.bus.inProgress = some f → f.slot = some n → stationAt s n = some st →
    f.kind = .command ∨ f.kind = .poll → decodeAnswer f st.role answer = some a →
    ∃ new : Station, StatusTakenBy a.status (st.identityPending = true ∨ st.recorded = .unknown ∨ st.recorded = .silent) st new ∧
      let u := updateStation n (fun _ => new) { s with moment := s.moment + 1, bus := { s.bus with inProgress := none } }
      let v := if st.role = .drive then takeMotion n a.motion u else u
      (a.result = none → exec (.goodAnswer answer) s = .next v)
        ∧ (∀ t o, a.result = some (t, o) → exec (.goodAnswer answer) s = .next (takeResult n t o v))

/-- A frame that times out, or whose answer fails its check, counts one more unanswered frame up to 3; at 3
the recorded status is SILENT and the last reported status none (R5, R16).
The answer to a frame whose slot has been configured anew or cleared is not taken as status, and its
want is not counted (R2; that its result is not taken either is the model's reading, log entry 22). -/
def Obligations.UnansweredCounted : Prop :=
  (∀ (s : State) (f : BusFrame) (n : SlotNo) (st : Station), s.bus.inProgress = some f → f.slot = some n → stationAt s n = some st →
      let free : State := { s with moment := s.moment + 1, bus := { s.bus with inProgress := none } }
      let new : Station := { st with
        unanswered := min 3 (st.unanswered + 1)
        recorded := if 2 ≤ st.unanswered then .silent else st.recorded
        lastReported := if 2 ≤ st.unanswered then none else st.lastReported }
      let t := updateStation n (fun _ => new) free
      exec .answerTimeout s = .next t ∧ exec .answerCheckFail s = .next t
        ∧ ∀ answer, decodeAnswer f st.role answer = none → exec (.goodAnswer answer) s = .next t)
    ∧ (∀ (s : State) (f : BusFrame), s.bus.inProgress = some f → f.slot = none →
        let free : State := { s with moment := s.moment + 1, bus := { s.bus with inProgress := none } }
        exec .answerTimeout s = .next free ∧ exec .answerCheckFail s = .next free
          ∧ ∀ answer, exec (.goodAnswer answer) s = .next free)

/-- The good answer to an identity request frees the bus and is taken for its status as any other is, but asks
for no identity again, then for the motion if it is the drive's (the place of the motion is log entry 21), and
then for its role code: identity pending is cleared, and the health stays when the code is the configured
role's and else is MISMATCH, which replaces any health. Each of the two changes of the station is announced and
judged as StationChangeJudged says; the station's other fields, the other stations and the blocks that no
status moves stay (R4, R5, R9, R10, R21). -/
def Obligations.IdentityCompared : Prop :=
  ∀ (s : State) (f : BusFrame) (n : SlotNo) (st : Station) (answer : List BusChar) (a : StationAnswer) (code : Byte),
    s.bus.inProgress = some f → f.slot = some n → stationAt s n = some st →
    f.kind = .identity → decodeAnswer f st.role answer = some a → a.roleCode = some code →
    let compared (x : Station) : Station :=
      { x with identityPending := false, health := if code.toNat = st.role.code then x.health else .mismatch }
    ∃ new : Station, StatusTakenBy a.status (st.identityPending = true) st new ∧
      let u := updateStation n (fun _ => new) { s with moment := s.moment + 1, bus := { s.bus with inProgress := none } }
      let t := updateStation n compared (if st.role = .drive then takeMotion n a.motion u else u)
      exec (.goodAnswer answer) s = .next t ∧ t.bus.inProgress = none
        ∧ (∀ m, m ≠ n → stationAt t m = stationAt s m)
        ∧ t.track = s.track ∧ t.intake = s.intake ∧ t.step = s.step ∧ t.phase = s.phase ∧ t.bundles = s.bundles ∧ t.counters = s.counters
        ∧ stationAt t n = some { compared new with motion := if st.role = .drive then some a.motion else st.motion }

/-- The counts from which health is judged (R7, R8, R9, R60): a fault outcome adds one up to the limit and
fails the station there, a good outcome returns the count to 0, every result returns the no-report count to
0, a third NO_REPORT fails the station, and nothing moves while the health is not OK. -/
def Obligations.HealthCounts : Prop :=
  (∀ (st : Station) (o : StationOutcome), st.health ≠ .ok → st.afterResult o = st)
    ∧ (∀ st : Station, st.health ≠ .ok → st.afterNoReport = st)
    ∧ (∀ (st : Station) (o : StationOutcome), st.health = .ok → st.role.reports o = true →
        (o ∈ [StationOutcome.miss, .double, .printFault, .noRead, .sealFault] →
          st.afterResult o = { st with
            noReportCount := 0
            faultCount := min st.faultLimit (st.faultCount + 1)
            health := if st.faultLimit ≤ st.faultCount + 1 then .failedFaults else .ok })
        ∧ (o ∈ [StationOutcome.fed, .printed, .sealed] ∨ (∃ code, o = .read code) →
          st.afterResult o = { st with noReportCount := 0, faultCount := 0 })
        ∧ (o ∈ [StationOutcome.diverted, .passed, .stacked, .stackFault] →
          st.afterResult o = { st with noReportCount := 0 }))
    ∧ ∀ st : Station, st.health = .ok →
        st.afterNoReport = { st with
          noReportCount := min 3 (st.noReportCount + 1)
          health := if 2 ≤ st.noReportCount then .failedNoReports else .ok }

/-- With the bus free, the command at the head of the transmit queue is sent first, then the identity
request of the lowest slot that has one; a sent RUN or STOP marks the drive order (R16, R17, R173, R176). A
frame is the address with its mark, its bytes and the check over both; a command's bytes are its kind, its tag, 0
for RUN and STOP, the length of its data and the data (12.7; that an absent keyline is one of length 0 is log
entry 31). Nothing is sent while a frame is in progress, no identity request while a command is queued, and no
poll while a command is queued or an identity request is pending: a send whose turn it is not, or with nothing
to send, changes nothing (log entry 3). -/
def Obligations.CommandsAndIdentitySent : Prop :=
  let characters (address : Nat) (bytes : List Byte) : List BusChar :=
    let first := BitVec.ofNat 8 address
    { mark := true, data := first } :: (bytes ++ crcBytes (first :: bytes)).map fun b => { mark := false, data := b }
  let text (l : List Byte) : List Byte := nat1 l.length ++ l
  let order : CellOrder → Byte × List Byte
    | .feed => (1, [])
    | .feedCarrier code => (1, nat4 code)
    | .print sequence lines keyline => (2, nat4 sequence ++ nat1 lines.length ++ lines.flatMap text ++ text (keyline.getD []))
    | .read => (3, [])
    | .seal => (4, [])
    | .pass => (5, [])
    | .divert => (6, [])
    | .stack mark bundle tray => (7, [match mark with | .none => 0 | .newBundle => 1 | .newTray => 2] ++ nat2 bundle ++ nat2 tray)
    | .setAside => (8, [])
  let command : BusOrder → List Byte
    | .cell tag o => [(order o).1, tag] ++ nat2 (order o).2.length ++ (order o).2
    | .run => [9, 0, 0, 0]
    | .stop => [10, 0, 0, 0]
  (∀ (s : State) (c : BusCommand) (rest : List BusCommand) (st : Station),
      s.bus.inProgress = none → s.bus.txQueue = c :: rest → stationAt s c.slot = some st →
      exec .sendCommand s = .next { s with
        bus := { s.bus with
          txQueue := rest
          inProgress := some { slot := some c.slot, kind := .command, address := st.address, chars := characters st.address (command c.order) } }
        line := { s.line with driveOrder := match c.order, s.line.driveOrder with
          | .run, .run _ => .run true
          | .stop, .stop _ => .stop true
          | _, d => d } })
    ∧ (∀ (s : State) (n : SlotNo) (st : Station),
      s.bus.inProgress = none → s.bus.txQueue = [] → stationAt s n = some st → st.identityPending = true →
      (∀ m st', m < n → stationAt s m = some st' → st'.identityPending = false) →
      exec .sendIdentityRequest s = .next { s with bus := { s.bus with
        inProgress := some { slot := some n, kind := .identity, address := st.address, chars := characters st.address [0x11] } } })
    ∧ ∀ s : State,
      (s.bus.inProgress ≠ none → exec .sendCommand s = .next s ∧ exec .sendIdentityRequest s = .next s ∧ exec .sendPoll s = .next s)
        ∧ (s.bus.txQueue ≠ [] → exec .sendIdentityRequest s = .next s ∧ exec .sendPoll s = .next s)
        ∧ ((∃ n st, stationAt s n = some st ∧ st.identityPending = true) → exec .sendPoll s = .next s)
        ∧ (s.bus.txQueue = [] → exec .sendCommand s = .next s)
        ∧ ((∀ n st, stationAt s n = some st → st.identityPending = false) → exec .sendIdentityRequest s = .next s)
        ∧ ((∀ n, stationAt s n = none) → exec .sendPoll s = .next s)

/-- The polls go round robin: to the first configured slot after the poll pointer, whatever its role, status
or health, and the pointer becomes that slot's number; it is 0 after a part reset; commands and identity
requests do not move it (R18). -/
def Obligations.PollsInTurn : Prop :=
  State.reset.bus.pollPointer = 0
    ∧ (∀ (s : State) (n : SlotNo) (st : Station),
      s.bus.inProgress = none → s.bus.txQueue = [] → (∀ m st', stationAt s m = some st' → st'.identityPending = false) →
      s.bus.pollPointer ≤ 16 → stationAt s n = some st →
      (∀ m st', stationAt s m = some st' → pollDistance s.bus.pollPointer n ≤ pollDistance s.bus.pollPointer m) →
      exec .sendPoll s = .next { s with bus := { s.bus with
        pollPointer := slotNumber n
        inProgress := some { slot := some n, kind := .poll, address := st.address, chars := busChars st.address [0x10] } } })
    ∧ ∀ (s t : State), exec .sendCommand s = .next t ∨ exec .sendIdentityRequest s = .next t →
      t.bus.pollPointer = s.bus.pollPointer

/-- Every answer a station can give is read as it was given: status, motion, role code, result (R16,
12.7). -/
def Obligations.AnswerRoundTrip : Prop :=
  ∀ (f : BusFrame) (role : Role) (a : StationAnswer), f.address < 256 →
    (f.kind = .identity ↔ a.roleCode.isSome) → (f.kind ≠ .poll → a.result = none) →
    (∀ t o, a.result = some (t, o) → role.reports o = true ∧ ∀ code, o = .read code → code < 2 ^ 32) →
    decodeAnswer f role (encodeAnswer f a) = some a

/-! ### Cells, results and condemnation (Chapters 3 to 6, 8, 9) -/

/-- Condemning a cell by its content: BOUND becomes CONDEMNED with the cause as its fault, CONDEMNED, VOID
and PROOF take the fault or count a later one, OFFERED takes the offer mark or counts a later fault, and
EMPTY, PASSED and DIVERTED are not touched (R63). -/
def Obligations.CondemnByContent : Prop :=
  ∀ (k : Condemn) (c : Cell),
    (c.content = .bound → c.condemn k = { c with content := .condemned, fault := some k })
      ∧ (c.content = .condemned ∨ c.content = .void ∨ c.content = .proof →
          (c.fault = none → c.condemn k = { c with fault := some k })
          ∧ (c.fault ≠ none → c.condemn k = { c with laterFaults := min 255 (c.laterFaults + 1) }))
      ∧ (c.content = .offered →
          (c.offerMark = none → c.condemn k = { c with offerMark := some k })
          ∧ (c.offerMark ≠ none → c.condemn k = { c with laterFaults := min 255 (c.laterFaults + 1) }))
      ∧ (c.content = .empty ∨ c.content = .passed ∨ c.content = .diverted → c.condemn k = c)

/-- A result that matches no open exchange is late: no cell changes and no exchange closes, the track and
the station count it, holding at 65,535, and the counters take "late results" with the station (R60). -/
def Obligations.LateResultDiscarded : Prop :=
  ∀ (s : State) (n : SlotNo) (t : Tag) (o : StationOutcome),
    (∀ c ∈ s.track.cells, c.tag = t → ∀ e ∈ c.exchanges, e.slot ≠ n) →
    let u (stations : Vector (Option Station) 16) : State := { s with
      stations := stations
      track := { s.track with lateCount := min 65535 (s.track.lateCount + 1) } }
    (∀ st, stationAt s n = some st → takeResult n t o s
        = tally .lateResults (some n) (u (s.stations.set n.val (some { st with lateCount := min 65535 (st.lateCount + 1) }) n.isLt)))
      ∧ (stationAt s n = none → takeResult n t o s = tally .lateResults (some n) (u s.stations))

/-- An insert feeder's, the printer's, the carrier feeder's and the sealer's results: what each records in
the cell or condemns it for, the printer's job that ends, the station's counts and the event counted (R62,
R67, R89, R90, R95, R96, R100, R101, R104). -/
def Obligations.FeedingResults : Prop :=
  ∀ (s : State) (n : SlotNo) (st : Station) (t : Tag) (p : Nat) (c : Cell),
    stationAt s n = some st → Awaits s n t p c →
    let took (o : StationOutcome) (d : Cell) (jobs : Nat) (counters : Counters) : Prop :=
      takeResult n t o s = { s with
        stations := s.stations.set n.val (some (st.afterResult o)) n.isLt
        bus := { s.bus with txQueue := unsent n t s }
        track := { s.track with cells := s.track.cells.set p d, printJobs := jobs }
        counters := counters
        line := { s.line with feed := (takeResult n t o s).line.feed }
        link := { s.link with notices := (takeResult n t o s).link.notices } }
    let counted (e : TallyEvent) : Counters := (tally e (some n) s).counters
    let c := ended n c
    let jobs := s.track.printJobs
    (st.role = .insertFeeder →
        took .fed { c with demands := c.demands.map fun d => if d.slot = n then { d with fed := true } else d } jobs (counted .insertFeeds)
        ∧ took .miss (c.condemn { kind := .insertMiss, station := some n }) jobs (counted .insertMisses)
        ∧ took .double (c.condemn { kind := .insertDouble, station := some n }) jobs (counted .insertDoubles))
      ∧ (st.role = .printer →
        took .printed { c with print := .printed } (jobs - 1) (counted .prints)
        ∧ took .printFault (Cell.condemn { kind := .printFault, station := some n } { c with print := .failed }) (jobs - 1) (counted .printFaults))
      ∧ (st.role = .carrierFeeder →
        took .fed { c with carrier := .fed } jobs s.counters
        ∧ took .miss (Cell.condemn { kind := .carrierMiss, station := some n } { c with carrier := .missed }) jobs (counted .carrierMisses))
      ∧ (st.role = .sealer →
        took .sealed { c with sealed := true } jobs s.counters
        ∧ took .sealFault (c.condemn { kind := .sealFault, station := some n }) jobs s.counters)

/-- The main feeder's results on an OFFERED cell that holds a record: FED and DOUBLE bind it, set the last
bound values and let a FRESH record leave the fresh count; MISS empties the cell and returns the record to
the front of the queue (R31, R65, R77, R78, R79, R82).
The main feeder's results on a proof offer: FED and DOUBLE make it PROOF and clear proof pending, MISS
empties it and keeps it pending; records and last bound values are not touched (R81). A MISS takes the tag
from the lost list (R117), which ends OUT_OF_STEP when the tag was the last and STEP_AUTO is 1 (R118). That the proof-offer flag falls and the later faults stay when an offer ends or its
mark is dropped is the model's reading (log entry 25), and so is the window size in the STEP notice, the number of
entries held (log entry 13). -/
def Obligations.MainFeedResults : Prop :=
  (∀ (s : State) (n : SlotNo) (st : Station) (t : Tag) (p : Nat) (c : Cell) (r : Record),
      stationAt s n = some st → st.role = .mainFeeder → Awaits s n t p c → c.content = .offered → c.record = some r → c.fault = none →
      let bound : Cell := { ended n c with
        content := if c.offerMark = none then .bound else .condemned
        proofOffer := false
        fault := c.offerMark
        offerMark := none
        demands := ((s.versions[r.version].definition.map (·.inserts)).getD []).map fun m => { slot := m, fed := false } }
      let doubled : Cell := if c.offerMark = none then
          { bound with content := .condemned, fault := some { kind := .mainDouble, station := some n } }
        else { bound with laterFaults := min 255 (c.laterFaults + 1) }
      let empty : Cell := { vacated r (ended n c) with content := .empty, proofOffer := false, offerMark := none }
      let binds (o : StationOutcome) (d : Cell) : Prop :=
        let u := takeResult n t o s
        Applied s u n t p st o d ∧ u.line.state = s.line.state
          ∧ u.binding = { s.binding with lastKey := some r.bundleKey, lastVersion := some r.version }
          ∧ u.intake = s.intake ∧ u.versions = s.versions ∧ u.step = s.step ∧ u.bundles = s.bundles
          ∧ u.link.reports = s.link.reports ∧ u.track.printJobs = s.track.printJobs
          ∧ freshCount u + (if r.kind = .fresh then 1 else 0) = freshCount s
          ∧ (r.kind = .fresh → freshCount s = s.params.queueLowMark → ∃ low, Noticed u 6 (.queueLow low) ∧ low.fresh = freshCount u)
      (binds .fed bound ∧ (takeResult n t .fed s).counters = (tally .binds (some n) s).counters)
        ∧ (binds .double doubled ∧ (takeResult n t .double s).counters = (tally .mainDoubles (some n) (tally .binds (some n) s)).counters)
        ∧ (let u := takeResult n t .miss s
          Applied s u n t p st .miss empty ∧ u.line.state = s.line.state ∧ u.intake = { s.intake with queue := r :: s.intake.queue }
            ∧ u.binding = s.binding ∧ u.versions = s.versions ∧ OfferEnded t s u ∧ u.bundles = s.bundles
            ∧ u.link.reports = s.link.reports ∧ freshCount u = freshCount s
            ∧ u.counters = (tally .mainMisses (some n) s).counters))
    ∧ (∀ (s : State) (n : SlotNo) (st : Station) (t : Tag) (p : Nat) (c : Cell),
        stationAt s n = some st → st.role = .mainFeeder → Awaits s n t p c → c.content = .offered → c.record = none → c.fault = none →
        let made : Cell := { ended n c with content := .proof, proofOffer := false, fault := c.offerMark, offerMark := none }
        let doubled : Cell := if c.offerMark = none then made else { made with laterFaults := min 255 (c.laterFaults + 1) }
        let empty : Cell := { ended n c with content := .empty, proofOffer := false, offerMark := none }
        let result (o : StationOutcome) (d : Cell) (stays : Bool) (counters : Counters) : Prop :=
          let u := takeResult n t o s
          Applied s u n t p st o d ∧ u.line.state = s.line.state ∧ u.counters = counters
            ∧ u.binding = { s.binding with proofPending := s.binding.proofPending && stays }
            ∧ u.intake = s.intake ∧ u.versions = s.versions ∧ u.bundles = s.bundles
            ∧ (if stays then OfferEnded t s u else u.step = s.step)
            ∧ u.link.reports = s.link.reports ∧ u.track.printJobs = s.track.printJobs
        result .fed made false s.counters
          ∧ result .double doubled false (tally .mainDoubles (some n) s).counters
          ∧ result .miss empty true (tally .mainMisses (some n) s).counters)

/-- A read code is compared with the cell's sequence and then with the records at r - 1 and r + 1 (R109).
A reader's result sets the verification, condemns the cell on a mismatch or no-read, counts for the
reader and the counters, and is then handed to the step monitor (R7, R109, R110, R121). -/
def Obligations.ReadResults : Prop :=
  (∀ (s : State) (c : Cell) (code r : Nat), readerPosition s = some r →
      let is (d : Cell) : Prop := ∃ x, d.record = some x ∧ x.sequence = code
      let up : Prop := 0 < r ∧ ∃ d, s.track.cells[r - 1]? = some d ∧ is d
      let down : Prop := ∃ d, s.track.cells[r + 1]? = some d ∧ is d
      (is c → readOutcome s c code = .matched)
        ∧ (¬ is c → up → readOutcome s c code = .mismatch (some .upstream))
        ∧ (¬ is c → ¬ up → down → readOutcome s c code = .mismatch (some .downstream))
        ∧ (¬ is c → ¬ up → ¬ down → readOutcome s c code = .mismatch none))
    ∧ (∀ (s : State) (n : SlotNo) (st : Station) (t : Tag) (p : Nat) (c : Cell),
        stationAt s n = some st → st.role = .reader → Awaits s n t p c →
        let read (o : StationOutcome) (handed : ReadOutcome) (code : Option Nat) (d : Cell) (counters : Counters) : Prop :=
          ∃ v : State, Applied s v n t p st o d ∧ v.line.state = s.line.state ∧ CellOnly s v ∧ v.counters = counters
            ∧ takeResult n t o s = takeReadOutcome handed { code := code, sequence := c.record.map (·.sequence), slip := handed.slip } v
        let matched : Cell := { ended n c with verification := .matched }
        let failed (k : CondemnKind) : Cell := Cell.condemn { kind := k, station := some n } { ended n c with verification := .failed }
        (∀ code, readOutcome s c code = .matched →
            read (.read code) .matched (some code) matched (tally .matches (some n) s).counters)
          ∧ (∀ code, readOutcome s c code = .mismatch none →
            read (.read code) (.mismatch none) (some code) (failed .verifyMismatch) (tally .mismatches (some n) s).counters)
          ∧ (∀ code slip, readOutcome s c code = .mismatch (some slip) →
            read (.read code) (.mismatch (some slip)) (some code) (failed .verifyMismatch)
              (tally .slips (some n) (tally .mismatches (some n) s)).counters)
          ∧ read .noRead .noRead none (failed .verifyNoRead) (tally .noReads (some n) s).counters)

/-- DIVERTED at the gate. A CONDEMNED cell gives up its record, which returns as a remake behind the last
REMAKE, reported REJECTED, or finishes OFFLINE(ATTEMPTS) above REMAKE_LIMIT; a BOUND cell is first condemned
GATE_UNREQUESTED; a VOID cell becomes DIVERTED and nothing else; a PROOF cell passes its check (R32, R42,
R140 to R143, R146, R147).
PASSED at the gate. A BOUND cell goes on as PASSED with its record. A CONDEMNED cell has escaped: it is
marked, its record finishes ESCAPED and the line takes the fault ESCAPE. A VOID cell escapes unaddressed, a
PROOF cell fails its check, and each faults the line (R42, R144 to R147). -/
def Obligations.GateResults : Prop :=
  (∀ (s : State) (n : SlotNo) (st : Station) (t : Tag) (p : Nat) (c : Cell),
      stationAt s n = some st → st.role = .gate → Awaits s n t p c →
      let u := takeResult n t .diverted s
      let requested : Condemn := { kind := .gateUnrequested, station := some n }
      let d := if c.content = .bound then (ended n c).condemn requested else ended n c
      (∀ r, c.content = .condemned ∨ c.content = .bound → c.record = some r →
          Applied s u n t p st .diverted { vacated r d with content := .diverted } ∧ u.line.state = s.line.state
            ∧ u.binding = s.binding ∧ u.step = s.step ∧ u.bundles = s.bundles ∧ u.track.printJobs = s.track.printJobs
            ∧ (r.attempts + 1 ≤ s.params.remakeLimit →
              u.versions = s.versions
              ∧ u.link.reports = s.link.reports ++ [.item { sequence := r.sequence, outcome := .rejected, reason := none, cause := d.fault, attempts := r.attempts + 1, bundleSerial := none, unconfirmed := false }]
              ∧ (∀ ahead behind, s.intake.queue = ahead ++ behind → (∀ x ∈ behind, x.kind = .fresh) →
                  (∀ x, ahead.getLast? = some x → x.kind = .remake) →
                  u.intake = { s.intake with queue := ahead ++ { r with attempts := r.attempts + 1, kind := .remake } :: behind })
              ∧ u.counters = (tally .remakesReturned (some n) (tally .divertsOfCondemned (some n) s)).counters)
            ∧ (s.params.remakeLimit < r.attempts + 1 →
              u.versions = released r s ∧ u.intake = s.intake
              ∧ u.link.reports = s.link.reports ++ [.item { sequence := r.sequence, outcome := .offline, reason := some .attempts, cause := d.fault, attempts := r.attempts + 1, bundleSerial := none, unconfirmed := false }]
              ∧ u.counters = (tally .offlineFinishes (some n) (tally .divertsOfCondemned (some n) s)).counters))
        ∧ (c.content = .void → Applied s u n t p st .diverted { ended n c with content := .diverted } ∧ CellOnly s u
            ∧ u.counters = s.counters ∧ u.line = s.line)
        ∧ (c.content = .proof → Applied s u n t p st .diverted { ended n c with content := .diverted } ∧ CellOnly s u
            ∧ u.counters = s.counters ∧ u.line = s.line
            ∧ Noticed u 8 (.proof { passed := true, tag := t, outcome := .diverted, fault := c.fault, gateHealth := some st.health, gateStatus := some st.recorded })))
    ∧ (∀ (s : State) (n : SlotNo) (st : Station) (t : Tag) (p : Nat) (c : Cell),
        stationAt s n = some st → st.role = .gate → Awaits s n t p c →
        let u := takeResult n t .passed s
        let escaped (d : Cell) : Cell := { d with content := .passed, escaped := true }
        let escapes : Counters := (tally .escapes (some n) s).counters
        (c.content = .bound → Applied s u n t p st .passed { ended n c with content := .passed } ∧ CellOnly s u
            ∧ u.counters = s.counters ∧ u.line = s.line)
          ∧ (∀ r, c.content = .condemned → c.record = some r →
            Applied s u n t p st .passed (escaped (vacated r (ended n c))) ∧ FaultTaken (.escape t) s u
              ∧ u.versions = released r s ∧ u.intake = s.intake ∧ u.binding = s.binding ∧ u.step = s.step ∧ u.bundles = s.bundles
              ∧ u.link.reports = s.link.reports ++ [.item { sequence := r.sequence, outcome := .escaped, reason := none, cause := c.fault, attempts := r.attempts, bundleSerial := none, unconfirmed := false }]
              ∧ u.counters = escapes)
          ∧ (c.content = .void → Applied s u n t p st .passed (escaped (ended n c)) ∧ CellOnly s u
              ∧ FaultTaken (.unaddressedEscape t) s u ∧ u.counters = escapes)
          ∧ (c.content = .proof → Applied s u n t p st .passed (escaped (ended n c)) ∧ CellOnly s u
              ∧ FaultTaken (.proofEscape t) s u ∧ u.counters = escapes
              ∧ Noticed u 8 (.proof { passed := false, tag := t, outcome := .passed, fault := c.fault, gateHealth := some st.health, gateStatus := some st.recorded })))

/-- The stacker's results. STACKED counts the item into the open bundle and tray and finishes its record;
STACK_FAULT finishes it OFFLINE(STACK_LOST), changes no count and faults the line; either is counted, ends the
stack in flight and then carries out a pending close, whose "bundles closed" the counters take after it. The
result of a SET_ASIDE changes no bundle, record or report (R42, R154, R156, R157, R158, R160, R165). Only a PASSED cell is ever commanded at the stacker (R57). -/
def Obligations.StackerResults : Prop :=
  ∀ (s : State) (n : SlotNo) (st : Station) (t : Tag) (p : Nat) (c : Cell),
    stationAt s n = some st → st.role = .stacker → Awaits s n t p c → c.content = .passed →
    (∀ (r : Record) (b : OpenBundle) (tray : OpenTray) (v : VersionDef), c.escaped = false → c.record = some r →
        s.bundles.bundle = some b → s.bundles.tray = some tray → s.versions[r.version].definition = some v →
        let counted : OpenBundle := { b with
          items := b.items + 1
          weight := b.weight + v.weight
          first := if b.first = none then some r.sequence else b.first
          last := some r.sequence }
        let countedTray : OpenTray := { tray with items := tray.items + 1, weight := tray.weight + v.weight }
        let stacked : BundleBuilder := { s.bundles with bundle := some counted, tray := some countedTray, inFlight := none }
        let bundleClosed (x : OpenBundle) : Report := .bundle { bundle := x, residual := false, reason := .host }
        let trayClosed (x : OpenTray) : Report := .tray { tray := x, reason := .host }
        let item : Report := .item { sequence := r.sequence, outcome := .stacked, reason := none, cause := none, attempts := r.attempts, bundleSerial := some b.serial, unconfirmed := false }
        let lost : Report := .item { sequence := r.sequence, outcome := .offline, reason := some .stackLost, cause := none, attempts := r.attempts, bundleSerial := none, unconfirmed := false }
        let closed (x : State) : State := if s.bundles.closePending = .none then x else tally .bundlesClosed none x
        let u := takeResult n t .stacked s
        let w := takeResult n t .stackFault s
        Applied s u n t p st .stacked (vacated r (ended n c)) ∧ Applied s w n t p st .stackFault (vacated r (ended n c))
          ∧ u.line.state = s.line.state ∧ FaultTaken (.stackFault t) s w
          ∧ u.versions = released r s ∧ w.versions = released r s ∧ u.intake = s.intake ∧ w.intake = s.intake
          ∧ u.binding = s.binding ∧ w.binding = s.binding ∧ u.step = s.step ∧ w.step = s.step
          ∧ u.counters = (closed (tally .stacked (some n) s)).counters
          ∧ w.counters = (closed (tally .offlineFinishes (some n) s)).counters
          ∧ (s.bundles.closePending = .none →
            u.bundles = stacked ∧ u.link.reports = s.link.reports ++ [item]
            ∧ w.bundles = { s.bundles with inFlight := none } ∧ w.link.reports = s.link.reports ++ [lost])
          ∧ (s.bundles.closePending = .bundle →
            u.bundles = { stacked with bundle := none, closePending := .none, bundleSplitKey := some b.key }
            ∧ u.link.reports = s.link.reports ++ [item, bundleClosed counted]
            ∧ w.bundles = { s.bundles with bundle := none, inFlight := none, closePending := .none, bundleSplitKey := some b.key }
            ∧ w.link.reports = s.link.reports ++ [lost, bundleClosed b])
          ∧ (s.bundles.closePending = .bundleAndTray →
            u.bundles = { stacked with bundle := none, tray := none, closePending := .none, bundleSplitKey := some b.key, traySplitKey := some tray.key }
            ∧ u.link.reports = s.link.reports ++ [item, bundleClosed counted, trayClosed countedTray]
            ∧ w.bundles = { s.bundles with bundle := none, tray := none, inFlight := none, closePending := .none, bundleSplitKey := some b.key, traySplitKey := some tray.key }
            ∧ w.link.reports = s.link.reports ++ [lost, bundleClosed b, trayClosed tray]))
      ∧ (c.escaped = true →
        let u := takeResult n t .stacked s
        let w := takeResult n t .stackFault s
        Applied s u n t p st .stacked (ended n c) ∧ CellOnly s u ∧ u.line = s.line ∧ u.counters = s.counters
          ∧ Applied s w n t p st .stackFault (ended n c) ∧ CellOnly s w ∧ FaultTaken (.stackFault t) s w ∧ w.counters = s.counters)

/-! ### Fault, ESTOP, resets of the line (Chapter 10) -/

/-- A fault handed to a line that is not FAULTED enters FAULTED with its cause: the timers stop, the drain
ends, a queued RUN leaves the transmit queue, and then a usable drive is sent STOP, which takes the place of a
STOP still queued and else joins the tail (that it does not take RUN's place is log entry 33). One handed in FAULTED is
counted and named as the last later one, without a notice (R19, R179, R182).
ESTOP asserted from released is one fault ESTOP in every line state; an input that stays asserted gives no
second one; its release changes the level alone (R178).
A drive timer that expires while it runs is a fault DRIVE_START or DRIVE_STOP (R173, R176); one that does
not run cannot expire (log entry 3). -/
def Obligations.FaultHanded : Prop :=
  (∀ (k : FaultCause) (s : State),
    (s.line.state = .faulted → handFault k s = { s with line := { s.line with
        laterFaults := min 255 (s.line.laterFaults + 1)
        lastLater := some k } })
      ∧ (s.line.state ≠ .faulted →
        let u := handFault k s
        let kept := s.bus.txQueue.filter (·.order != .run)
        let stops (line : Line) : Line := { line with
          state := .faulted
          fault := some k
          laterFaults := 0
          lastLater := none
          drain := .none
          startTimer := .stopped
          stopTimer := .stopped }
        let notice : Notice := .line { state := .faulted, before := s.line.state, fault := some k, laterFaults := 0, lastLater := none, drain := .none, restarted := s.line.restarted }
        Noticed u 0 notice
          ∧ u = { s with line := u.line, bus := u.bus, link := { s.link with notices := u.link.notices } }
          ∧ (∀ n st, slotWith s .drive = some n → stationAt s n = some st → st.usable = true →
            u.line = stops { s.line with driveOrder := .stop false }
            ∧ u.bus = { s.bus with txQueue := putDriveCommand { slot := n, order := .stop } kept }
            ∧ (kept.any (·.forDrive) = false → u.bus = { s.bus with txQueue := kept ++ [{ slot := n, order := .stop }] }))
          ∧ ((∀ n st, slotWith s .drive = some n → stationAt s n = some st → st.usable = false) →
            u.line = stops { s.line with driveOrder := .none } ∧ u.bus = { s.bus with txQueue := kept })))
    ∧ (∀ s : State,
      (s.estop = false → exec .estop s = .next (handFault .estop { s with estop := true, moment := s.moment + 1 }))
        ∧ (s.estop = true → exec .estop s = .next s)
        ∧ exec .estopRelease s = .next { s with estop := false })
    ∧ (∀ s : State,
        let u : State := { s with moment := s.moment + 1 }
        (s.line.startTimer ≠ .stopped → exec .driveStart s = .next (handFault .driveStart u))
          ∧ (s.line.stopTimer ≠ .stopped → exec .driveStop s = .next (handFault .driveStop u))
          ∧ (s.line.startTimer = .stopped → exec .driveStart s = .next s)
          ∧ (s.line.stopTimer = .stopped → exec .driveStop s = .next s))

/-- The end of a drain, tested at an advance taken in DRAINING: with every cell EMPTY or DIVERTED the stop timer
starts, STOP is issued and the line is STOPPING. With CLOSE the open bundle and tray are closed and reported
with reason DRAIN, the bundle residual when it is short, and both split keys become none; without it nothing
of the bundles changes. While an item is left, nothing changes (R164, R175). At the advance the track goes first,
and that the counters take the advance, and their windows move, before the drain close is the model's choice (log
entry 34). -/
def Obligations.DrainCompletes : Prop :=
  (∀ s : State,
    let empty : Prop := ∀ c ∈ s.track.cells, c.content = .empty ∨ c.content = .diverted
    let t := drainTest true s
    (¬ (s.line.state = .draining ∧ empty) → t = s)
      ∧ ∀ n, s.line.state = .draining → empty → slotWith s .drive = some n →
        t = { s with
            bus := { s.bus with txQueue := putDriveCommand { slot := n, order := .stop } s.bus.txQueue }
            bundles := t.bundles
            counters := t.counters
            line := { s.line with
              state := .stopping
              drain := .none
              driveOrder := .stop false
              startTimer := .stopped
              stopTimer := .running (s.params.driveStopTime * 1000)
              feed := t.line.feed }
            link := { s.link with notices := t.link.notices, reports := t.link.reports } }
          ∧ Noticed t 0 (.line { state := .stopping, before := .draining, fault := s.line.fault, laterFaults := s.line.laterFaults, lastLater := s.line.lastLater, drain := .none, restarted := s.line.restarted })
          ∧ (∀ c, (∀ i, c ≠ .counter i) → c ≠ .backlog → t.line.feed.has c = s.line.feed.has c)
          ∧ (s.line.drain ≠ .close → t.bundles = s.bundles ∧ t.counters = s.counters ∧ t.link.reports = s.link.reports
              ∧ t.line.feed = s.line.feed)
          ∧ (s.line.drain = .close →
            t.bundles = { s.bundles with bundle := none, tray := none, bundleSplitKey := none, traySplitKey := none }
              ∧ t.counters = (if s.bundles.bundle.isSome then (tally .bundlesClosed none s).counters else s.counters)
              ∧ t.link.reports = s.link.reports
                ++ (s.bundles.bundle.toList.map fun b => Report.bundle { bundle := b, residual := decide (b.items < s.params.bundleMinItems), reason := .drain })
                ++ s.bundles.tray.toList.map fun b => Report.tray { tray := b, reason := .drain }))
    ∧ ∀ (order : AdvanceOrder) (s : State), s.phase.state = .off → s.line.state = .draining →
      exec (.pitchAdvance order) s = .next (drainTest true (trackAdvance { s with moment := s.moment + 1 }))

/-- A good answer of the drive sets its motion. It starts the line in STARTING when RUN was sent and it
carries RUNNING, returns it to IDLE in STOPPING when STOP was sent and it carries STOPPED, and faults it on an
unasked stop in RUNNING or DRAINING; else no line state moves (R6, R173, R176, R177). -/
def Obligations.DriveAnswerMovesLine : Prop :=
  ∀ (s : State) (n : SlotNo) (st : Station) (m : Motion), stationAt s n = some st → st.role = .drive →
    let u : State := { s with stations := s.stations.set n.val (some { st with motion := some m }) n.isLt }
    let told (l : Line) : State := raise (lineNotice s.line.state l) { u with line := l }
    let t := takeMotion n m s
    (s.line.state = .starting → s.line.driveOrder = .run true → m = .running →
        t = told { s.line with state := .running, startTimer := .stopped })
      ∧ (s.line.state = .stopping → s.line.driveOrder = .stop true → m = .stopped →
        t = told { s.line with state := .idle, driveOrder := .none, stopTimer := .stopped })
      ∧ (s.line.state = .running ∨ s.line.state = .draining → m = .stopped → st.motion = some .running →
        t = handFault (.driveHalt n) u)
      ∧ (¬ (s.line.state = .starting ∧ s.line.driveOrder = .run true ∧ m = .running) →
        ¬ (s.line.state = .stopping ∧ s.line.driveOrder = .stop true ∧ m = .stopped) →
        ¬ ((s.line.state = .running ∨ s.line.state = .draining) ∧ m = .stopped ∧ st.motion ≠ some .stopped) →
        t = u)

/-- LINE_START is refused when a condition of the table does not hold and changes nothing then; it is taken
exactly when every condition of R171 holds. The refusal is that of the first row that fails, in the table's
order: STATE with the line state, CONFIG with the row and then the count of the slots or the slot, and STATION
with the first unusable slot of gate, stacker and drive, its status and health. The codes of the rows and the
form of c - p are the model's reading (log entry 14), and of several slots out of place the lowest is the model's
choice (log entry 32).
A LINE_START that passes the conditions: LOST becomes SEEKING, a MET stop point is dropped, the faults are
cleared, RUN is issued and the start timer starts with DRIVE_START_TIME, and the line is STARTING; one that
does not is refused with no change (R84, R136, R171, R172). -/
def Obligations.LineStarts : Prop :=
  (∀ s : State, startRefusal s = none ↔ LinedUp s)
    ∧ (∀ (s : State) (number : Byte) (rest : List RxEntry), Requested s number .lineStart rest →
        let refused (result : ResultCode) (data : List Byte) : Prop :=
          exec .lineStart s = .next (withReply number .lineStart result data (taken rest s))
        let place (n : SlotNo) : Nat := (positionOf s n).getD 0
        let lowest (test : SlotNo → Prop) (n : SlotNo) : Prop := test n ∧ ∀ m, test m → n ≤ m
        (∀ a, startRefusal s = some a → a.result ≠ .ok ∧ refused a.result a.data)
          ∧ (FirstFailing s 1 → refused .state (nat1 s.line.state.code))
          ∧ (∀ row r, (row, r) ∈ [(2, Role.drive), (3, .mainFeeder), (4, .carrierFeeder), (5, .printer), (7, .reader), (8, .sealer),
              (9, .gate), (10, .stacker)] → FirstFailing s row →
            ((∀ n, slotsWith s r ≠ [n]) → refused .config (nat1 (row - 1) ++ nat1 (slotsWith s r).length))
              ∧ ∀ n, slotsWith s r = [n] →
                (row ≠ 5 → row ≠ 10 → refused .config (nat1 (row - 1) ++ nat1 (slotNumber n)))
                ∧ (row = 5 → refused .config (nat1 4 ++ nat1 (slotNumber n) ++ nat4 ((2 ^ 32 + carrierAt s - place n) % 2 ^ 32)))
                ∧ (row = 10 → ∃ m, lowest (fun m => m ≠ n ∧ ∃ p, positionOf s m = some p ∧ place n ≤ p) m
                    ∧ refused .config (nat1 9 ++ nat1 (slotNumber m))))
          ∧ (FirstFailing s 6 →
            (8 < (slotsWith s .insertFeeder).length → refused .config (nat1 5 ++ nat1 (slotsWith s .insertFeeder).length))
              ∧ ((slotsWith s .insertFeeder).length ≤ 8 →
                ∃ m, lowest (fun m => hasRole s .insertFeeder m = true ∧ carrierAt s ≤ place m) m
                  ∧ refused .config (nat1 5 ++ nat1 (slotNumber m))))
          ∧ (FirstFailing s 11 → ∃ before r after n st, [Role.gate, .stacker, .drive] = before ++ r :: after
            ∧ slotWith s r = some n ∧ stationAt s n = some st ∧ st.usable = false
            ∧ (∀ q ∈ before, ∃ m other, slotWith s q = some m ∧ stationAt s m = some other ∧ other.usable = true)
            ∧ refused .station (nat1 (slotNumber n) ++ nat1 st.recorded.code ++ nat1 st.health.code))
          ∧ (startRefusal s = none → ∃ t n,
            exec .lineStart s = .next (withReply number .lineStart .ok [] t)
            ∧ slotWith s .drive = some n
            ∧ t = { taken rest s with
                bus := { s.bus with txQueue := putDriveCommand { slot := n, order := .run } s.bus.txQueue }
                binding := { s.binding with stopPoint := match s.binding.stopPoint with
                  | .met _ _ => .none
                  | p => p }
                phase := if s.phase.state = .lost then { PhaseMonitor.cleared .seeking with restarts := s.phase.restarts, lossCount := s.phase.lossCount } else s.phase
                line := { s.line with
                  state := .starting
                  fault := none
                  laterFaults := 0
                  lastLater := none
                  driveOrder := .run false
                  startTimer := .running (s.params.driveStartTime * 1000)
                  feed := t.line.feed }
                link := { (taken rest s).link with notices := t.link.notices } }
            ∧ (∀ c, c ≠ .stopPoint → c ≠ .phase → t.line.feed.has c = s.line.feed.has c)
            ∧ t.line.feed.has .phase = (s.phase.state == .lost || s.line.feed.has .phase)
            ∧ (t.line.feed.has .stopPoint = match s.binding.stopPoint with
                | .met _ _ => false
                | .none | .armed _ => s.line.feed.has .stopPoint)
            ∧ Noticed t 0 (.line { state := .starting, before := s.line.state, fault := none, laterFaults := 0, lastLater := none, drain := s.line.drain, restarted := s.line.restarted })))

/-- LINE_DRAIN is taken in RUNNING alone, LINE_STOP in STARTING, RUNNING and DRAINING; LINE_STOP in STOPPING
changes nothing; elsewhere both are refused STATE with the line state (R174, R176).
LINE_HOLD adds HOST_HOLD and LINE_RESUME removes it, in every line state, and each answers the set as it
stands then (R170).
A drive command takes the place of the one in the transmit queue, or joins the tail (R19). -/
def Obligations.LineRequests : Prop :=
  (∀ (s : State) (number : Byte) (rest : List RxEntry),
      let told (l : Line) (u : State) : State := raise (lineNotice s.line.state l) { u with line := l }
      (∀ option, Requested s number (.lineDrain option) rest →
          (s.line.state ≠ .running → exec .lineDrain s = .next (withReply number (.lineDrain option) .state (nat1 s.line.state.code) (taken rest s)))
          ∧ (s.line.state = .running → 1 < option → exec .lineDrain s = .next (withReply number (.lineDrain option) .field [0, 1] (taken rest s)))
          ∧ (s.line.state = .running → option ≤ 1 → exec .lineDrain s = .next (withReply number (.lineDrain option) .ok []
              (told { s.line with state := .draining, drain := if option = 1 then .close else .noClose } (taken rest s)))))
        ∧ (Requested s number .lineStop rest →
          (s.line.state = .idle ∨ s.line.state = .faulted →
            exec .lineStop s = .next (withReply number .lineStop .state (nat1 s.line.state.code) (taken rest s)))
          ∧ (s.line.state = .stopping → exec .lineStop s = .next (withReply number .lineStop .ok [] (taken rest s)))
          ∧ ∀ n, s.line.state = .starting ∨ s.line.state = .running ∨ s.line.state = .draining → slotWith s .drive = some n →
            exec .lineStop s = .next (withReply number .lineStop .ok []
              (told { s.line with
                  state := .stopping
                  drain := .none
                  driveOrder := .stop false
                  startTimer := .stopped
                  stopTimer := .running (s.params.driveStopTime * 1000) }
                { taken rest s with bus := { s.bus with txQueue := putDriveCommand { slot := n, order := .stop } s.bus.txQueue } }))))
    ∧ (∀ (s : State) (number : Byte) (rest : List RxEntry),
        let held := addCause .hostHold (taken rest s)
        let resumed := removeCause .hostHold (taken rest s)
        (Requested s number .lineHold rest → exec .lineHold s = .next (withReply number .lineHold .ok (feedBytes held.line.feed) held))
          ∧ (Requested s number .lineResume rest → exec .lineResume s = .next (withReply number .lineResume .ok (feedBytes resumed.line.feed) resumed)))
    ∧ (∀ (c : BusCommand) (ahead behind : List BusCommand), c.forDrive = true → (∀ d ∈ ahead, d.forDrive = false) →
        (∀ d ∈ behind, d.forDrive = false) →
        putDriveCommand c (ahead ++ behind) = ahead ++ behind ++ [c]
          ∧ ∀ d, d.forDrive = true → putDriveCommand c (ahead ++ d :: behind) = ahead ++ c :: behind)

/-- FAULT_CLEAR returns a FAULTED line to IDLE when ESTOP is released, the drive stands, no guard is open and
the gate and the stacker are usable, keeping the fault cause; otherwise it changes nothing, and is refused at the
first condition of the table that is not met: STATE for ESTOP and for the drive, STATION with the lowest slot
whose guard is open, then with the gate and with the stacker, each with its status and health or none (R180).
The codes of ESTOP, a moving drive and a missing one, and the want of a condition beside the slots, are the model's
reading (log entry 14). -/
def Obligations.FaultCleared : Prop :=
  ∀ (s : State) (number : Byte) (rest : List RxEntry), Requested s number .faultClear rest →
    let clearable : Prop := s.line.state = .faulted ∧ s.estop = false
      ∧ (∃ n st, slotWith s .drive = some n ∧ stationAt s n = some st ∧ st.motion = some .stopped)
      ∧ (∀ n st, stationAt s n = some st → st.recorded ≠ .guardOpen)
      ∧ (∃ n st, slotWith s .gate = some n ∧ stationAt s n = some st ∧ st.usable = true)
      ∧ (∃ n st, slotWith s .stacker = some n ∧ stationAt s n = some st ∧ st.usable = true)
    let cleared : Line := { s.line with state := .idle, driveOrder := .none }
    let refused (result : ResultCode) (data : List Byte) : Prop :=
      exec .faultClear s = .next (withReply number .faultClear result data (taken rest s))
    let guardOpen (m : SlotNo) : Prop := ∃ st, stationAt s m = some st ∧ st.recorded = .guardOpen
    let serves (r : Role) : Prop := ∃ n st, slotWith s r = some n ∧ stationAt s n = some st ∧ st.usable = true
    let turnedAway (r : Role) : Prop := (slotWith s r = none → refused .station [0, 0, 0])
      ∧ ∀ n st, slotWith s r = some n → stationAt s n = some st →
        refused .station (nat1 (slotNumber n) ++ nat1 st.recorded.code ++ nat1 st.health.code)
    (s.line.state ≠ .faulted → exec .faultClear s = .next (withReply number .faultClear .state (nat1 s.line.state.code) (taken rest s)))
      ∧ (s.line.state = .faulted → s.estop = true → refused .state [1])
      ∧ (s.line.state = .faulted → s.estop = false →
        (slotWith s .drive = none → refused .state [3])
        ∧ (∀ n st, slotWith s .drive = some n → stationAt s n = some st → st.motion ≠ some .stopped → refused .state [2])
        ∧ ((∃ n st, slotWith s .drive = some n ∧ stationAt s n = some st ∧ st.motion = some .stopped) →
          (∀ m, guardOpen m → (∀ k, guardOpen k → m ≤ k) → refused .station (nat1 (slotNumber m)))
          ∧ ((∀ m, ¬ guardOpen m) →
            (¬ serves .gate → turnedAway .gate) ∧ (serves .gate → ¬ serves .stacker → turnedAway .stacker))))
      ∧ (¬ clearable → ∃ result data, result ≠ .ok ∧ exec .faultClear s = .next (withReply number .faultClear result data (taken rest s)))
      ∧ (clearable → exec .faultClear s = .next (withReply number .faultClear .ok []
          (raise (lineNotice .faulted cleared) { taken rest s with line := cleared })))

/-- JOB_RESET in IDLE with no report waiting: the job's records, cells, counts and bundles are gone, the
configuration, parameters and next tag stay, the suppression set holds what its monitors and stations say,
and the line stays IDLE. Otherwise it is refused with no change (R1, R36, R43, R45, R69, R112, R126, R152,
R181, R183); that the refusal STATE carries no data is the model's reading (log entry 14). -/
def Obligations.JobResets : Prop :=
  ∀ (s : State) (number : Byte) (rest : List RxEntry), Requested s number .jobReset rest →
    (s.line.state ≠ .idle → exec .jobReset s = .next (withReply number .jobReset .state [] (taken rest s)))
      ∧ (s.line.state = .idle → s.link.reports ≠ [] →
        exec .jobReset s = .next (withReply number .jobReset .busy (nat2 s.link.reports.length) (taken rest s)))
      ∧ (s.line.state = .idle → s.link.reports = [] → ∃ t,
        exec .jobReset s = .next (withReply number .jobReset .ok [] t)
        ∧ t = { taken rest s with
            bus := { s.bus with txQueue := s.bus.txQueue.filter (·.forDrive) }
            intake := { queue := [], lastSequence := 0, lastKeys := none }
            versions := s.versions.map fun v => { v with refCount := 0 }
            track := { cells := [], nextTag := s.track.nextTag, printJobs := 0, lateCount := 0 }
            binding := Binding.reset
            step := StepMonitor.cleared (if slotsWith s .reader = [] then .notMonitored else .proving)
            phase := PhaseMonitor.cleared (if s.params.chainLength = 0 then .off else .seeking)
            bundles := BundleBuilder.reset
            line := { s.line with fault := none, laterFaults := 0, lastLater := none, feed := t.line.feed }
            counters := {
              all := s.counters.all.map fun c => { c with value := 0, progress := 0, armed := c.setup.any (·.threshold != 0), started := false, hold := false }
              frozen := false
              source := none }
            link := { (taken rest s).link with notices := t.link.notices } }
        ∧ (∀ c, t.line.feed.has c = match c with
            | .phase => decide (s.params.chainLength ≠ 0)
            | .station n => (stationAt s n).any fun st => st.role.feeding && !st.usable
            | _ => false)
        ∧ ∀ i : Fin 33, i ≠ 1 → i ≠ 2 → i ≠ 4 → t.link.notices[i] = none)

/-! ### Parameters, binding, step monitor (Chapters 12, 4, 6) -/

/-- PARAM_SET sets a parameter to a value in its range and answers the value before and after; the other
parameters stay. STEP_WINDOW keeps the newest entries of the window, CHAIN_LENGTH starts the phase monitor
afresh, STEP_AUTO 1 makes the test for leaving OUT_OF_STEP, and no other parameter does anything at once (R118,
R122, R127, R198). Refused, and nothing changed, are, in this order: a number that is none of 1 to 20; a value
outside the range; an IDLE-only parameter while the line is not IDLE; REMAKE_LIMIT below the attempts of a remake
in the queue or the OFFERED cell, with the number of these (R37); STEP_WINDOW below STEP_THRESHOLD; and
BUNDLE_MAX_ITEMS and BUNDLE_MAX_WEIGHT below the open bundle's count and, with 2 items or more, its weight, the
item of a stack in flight counted in, with that count or weight (R166). That STEP_THRESHOLD above STEP_WINDOW is a
value out of range, and so FIELD ahead of STATE, is the model's reading (log entry 27), as is the 1 byte of the
number of remakes (log entry 13) and the window size in the STEP notice (log entry 13). -/
def Obligations.ParameterSet : Prop :=
  ∀ (s : State) (number : Byte) (k value : Nat) (rest : List RxEntry),
    let r : Request := .paramSet k value
    Requested s number r rest →
    let ranges : List (Nat × Nat) := [(0, 255), (0, 3), (0, 63), (4, 16), (1, s.params.stepWindow), (0, 1), (0, 1), (0, 1), (1, 8),
      (1, 999), (0, 1), (16, 1024), (1, 500), (100, 40000), (0, 50), (1, 64), (1000, 100000), (1, 30), (1, 60), (0, 1)]
    let refused (result : ResultCode) (data : List Byte) : Prop :=
      exec .paramSet s = .next (withReply number r result data (taken rest s))
    (k = 0 ∨ 20 < k → refused .field [0, 1])
      ∧ ∀ old low high, 1 ≤ k → (paramValues s.params)[k - 1]? = some old → ranges[k - 1]? = some (low, high) →
        let within : Prop := (low ≤ value ∧ value ≤ high) ∨ (k = 12 ∧ value = 0)
        let idleOnly : Prop := k ∈ [4, 5, 6, 7, 12]
        let bytes (v : Nat) : List Byte := if k = 17 then nat4 v else if k ∈ [10, 12, 13, 14] then nat2 v else nat1 v
        let above (x : Record) : Bool := x.kind == .remake && decide (value < x.attempts)
        let remakes : Nat := s.intake.queue.countP above + s.track.cells.countP fun c => c.content == .offered && c.record.any above
        let flying : Nat := if s.bundles.inFlight.isSome then 1 else 0
        let flyingWeight : Nat := match s.bundles.inFlight.bind fun f => (s.track.cells.find? (·.tag == f.tag)).bind (·.record) with
          | some x => (s.versions[x.version].definition.map (·.weight)).getD 0
          | none => 0
        let clash (result : ResultCode) (data : List Byte) : Prop :=
          (k = 2 ∧ 0 < remakes ∧ result = .inUse ∧ data = nat1 remakes)
            ∨ (k = 4 ∧ value < s.params.stepThreshold ∧ result = .field ∧ data = [0, 2])
            ∨ ∃ b, s.bundles.bundle = some b ∧ result = .inUse
              ∧ ((k = 13 ∧ value < b.items + flying ∧ data = nat2 (b.items + flying))
                ∨ (k = 14 ∧ 2 ≤ b.items + flying ∧ value < b.weight + flyingWeight ∧ data = nat4 (b.weight + flyingWeight)))
        ∃ after : Params, paramValues after = (paramValues s.params).set (k - 1) value ∧
          let set : State := { taken rest s with params := after }
          let ok (t : State) : Prop := exec .paramSet s = .next (withReply number r .ok (bytes old ++ bytes value) t)
          let proves : Prop := value = 1 ∧ s.step.state = .outOfStep ∧ s.step.lost = []
          (¬ within → refused .field [0, 2])
            ∧ (within → idleOnly → s.line.state ≠ .idle → refused .state [])
            ∧ (within → (idleOnly → s.line.state = .idle) →
              (∀ result data, clash result data → refused result data)
              ∧ ((∀ result data, ¬ clash result data) →
                (k ≠ 4 → k ≠ 12 → ¬ (k = 8 ∧ proves) → ok set)
                ∧ (k = 4 → ok { set with step := { s.step with window := s.step.window.drop (s.step.window.length - value) } })
                ∧ (k = 8 → proves → ∃ t, ok t ∧ LeftOutOfStep s.step t
                  ∧ t = { set with step := t.step, line := { s.line with feed := t.line.feed }, link := { (taken rest s).link with notices := t.link.notices } }
                  ∧ ∀ c, c ≠ .step → t.line.feed.has c = s.line.feed.has c)
                ∧ (k = 12 → ∃ t, ok t
                  ∧ t.phase = { PhaseMonitor.cleared (if value = 0 then .off else .seeking) with restarts := s.phase.restarts, lossCount := s.phase.lossCount }
                  ∧ t = { set with phase := t.phase, line := { s.line with feed := t.line.feed }, link := { (taken rest s).link with notices := t.link.notices } }
                  ∧ ∀ c, t.line.feed.has c = if c = .phase then decide (value ≠ 0) else s.line.feed.has c)))

/-- STOP_POINT_SET arms a stop point and STOP_POINT_CLEAR disarms it; each removes cause STOP_POINT and
answers the stop point as it stood; a target kind that is neither of the two, or sequence 0, is refused (R83,
R84); that such a target kind is the field named whatever the sequence is the model's reading (log entry 15).
PROOF makes proof pending, and is refused BUSY while one is pending (R85). -/
def Obligations.BindingRequests : Prop :=
  (∀ (s : State) (number : Byte) (rest : List RxEntry),
      let now (p : StopPoint) : State := removeCause .stopPoint { taken rest s with binding := { s.binding with stopPoint := p } }
      let before := stopPointBytes s.binding.stopPoint
      (∀ n, n ≠ 0 → Requested s number (.stopPointSet 1 n) rest →
          exec .stopPointSet s = .next (withReply number (.stopPointSet 1 n) .ok before (now (.armed (.sequence n)))))
        ∧ (∀ n, Requested s number (.stopPointSet 2 n) rest →
          exec .stopPointSet s = .next (withReply number (.stopPointSet 2 n) .ok before (now (.armed .versionChange))))
        ∧ (∀ k n, k = 0 ∨ 2 < k → Requested s number (.stopPointSet k n) rest →
          exec .stopPointSet s = .next (withReply number (.stopPointSet k n) .field [0, 1] (taken rest s)))
        ∧ (Requested s number (.stopPointSet 1 0) rest →
          exec .stopPointSet s = .next (withReply number (.stopPointSet 1 0) .field [0, 2] (taken rest s)))
        ∧ (Requested s number .stopPointClear rest →
          exec .stopPointClear s = .next (withReply number .stopPointClear .ok before (now .none))))
    ∧ (∀ (s : State) (number : Byte) (rest : List RxEntry), Requested s number .proof rest →
        (s.binding.proofPending = true → exec .proof s = .next (withReply number .proof .busy [] (taken rest s)))
          ∧ (s.binding.proofPending = false → exec .proof s = .next (withReply number .proof .ok []
              { taken rest s with binding := { s.binding with proofPending := true } })))

/-- Binding's decision for a new cell at position 0: a cause in the set, or an empty queue, leaves a gap; a
pending proof is offered next; else, with no remake of another key at the head, an armed stop point that the
head meets stops the offers, drains the line and leaves its gap, the key wait leaves its gap, and otherwise the head
is offered (R30, R70 to R76).
A head REMAKE of another bundle key is stranded: it leaves the queue finished, reported
OFFLINE(STRANDED), and the next record is examined at the same advance (R33, R42, R73). -/
def Obligations.BindingDecides : Prop :=
  (∀ (s : State) (new : Cell) (cells : List Cell), s.track.cells = new :: cells →
      let u := decideNewCell s
      let suppressed : Prop := ∃ c, s.line.feed.has c = true
      let placed (c : Cell) : Track := { s.track with cells := c :: cells }
      (suppressed → u = tally .gaps none s)
        ∧ (¬ suppressed → s.binding.proofPending = true →
          u = { s with track := placed { new with content := .offered, proofOffer := true } })
        ∧ (¬ suppressed → s.binding.proofPending = false → s.intake.queue = [] → u = tally .gaps none s)
        ∧ ∀ head behind, ¬ suppressed → s.binding.proofPending = false → s.intake.queue = head :: behind →
          (∀ key, head.kind = .remake → s.binding.lastKey = some key → head.bundleKey = key) →
          let met (target : StopTarget) : Prop := s.binding.stopPoint = .armed target
            ∧ (target = .sequence head.sequence ∨ (target = .versionChange ∧ ∃ v, s.binding.lastVersion = some v ∧ v ≠ head.version))
          let waits : Prop := s.binding.keyWaitCount < s.params.keyWait ∧ head.kind = .fresh
            ∧ ∃ key g, s.binding.lastKey = some key ∧ head.bundleKey ≠ key ∧ positionWith s .gate = some g
              ∧ ∃ p c r, p ≤ g ∧ s.track.cells[p]? = some c ∧ c.record = some r ∧ r.bundleKey = key
                ∧ (c.content = .offered ∨ c.content = .bound ∨ c.content = .condemned)
          (∀ target, met target → u = { s with
                binding := { s.binding with stopPoint := .met target head.sequence }
                counters := (tally .gaps none s).counters
                line := u.line
                link := { s.link with notices := u.link.notices } }
              ∧ u.line = { s.line with state := u.line.state, drain := u.line.drain, feed := u.line.feed }
              ∧ (∀ c, u.line.feed.has c = (c == .stopPoint || (tally .gaps none s).line.feed.has c))
              ∧ (s.line.state = .running → u.line.state = .draining ∧ u.line.drain = .noClose)
              ∧ Noticed u 7 (.stopPoint target head.sequence))
            ∧ ((∀ target, ¬ met target) → waits → u = tally .keyWaitGaps none (tally .gaps none
                { s with binding := { s.binding with keyWaitCount := s.binding.keyWaitCount + 1 } }))
            ∧ ((∀ target, ¬ met target) → ¬ waits → u = tally .offers none { s with
                intake := { s.intake with queue := behind }
                track := placed { new with content := .offered, record := some head }
                binding := { s.binding with keyWaitCount := 0 } }))
    ∧ (∀ (s : State) (head : Record) (behind : List Record) (key : Nat),
        s.intake.queue = head :: behind → head.kind = .remake → s.binding.lastKey = some key → head.bundleKey ≠ key →
        let u := strandHead s head
        u = { s with
            intake := { s.intake with queue := behind }
            versions := released head s
            counters := u.counters
            line := { s.line with feed := u.line.feed }
            link := { s.link with
              reports := s.link.reports ++ [.item { sequence := head.sequence, outcome := .offline, reason := some .stranded, cause := none, attempts := head.attempts, bundleSerial := none, unconfirmed := false }]
              notices := u.link.notices } }
          ∧ u.counters = (tally .offlineFinishes none (tally .strands none s)).counters
          ∧ strandHeads s = strandHeads u
          ∧ ((∀ c, s.line.feed.has c = false) → s.binding.proofPending = false →
              decideNewCell s = decideHead (strandHeads u)))

/-- RESTEP by the step state: refused when not monitored or while lost cells remain; from OUT_OF_STEP with an
empty lost list to PROVING; from IN_STEP or PROVING a step loss of condition RESTEP (R119). The reply carries
the state as it stood, a refusal's before its own data (log entry 14).
A step loss, up to the reader at r: BOUND cells are condemned STEP_LOST, OFFERED ones marked, and the
tags of those condemned or newly marked (log entry 11) make the lost list, downstream first; the window, slip
and proving counts are emptied, the loss is counted and STEP joins the set. With STEP_AUTO 1 and nothing lost
the monitor proves at once (R116, R118).
At an advance the lost list keeps the tags whose cells still stand at 0 to r; one that so becomes empty in
OUT_OF_STEP, with STEP_AUTO 1, lets the monitor prove (R117, R118). -/
def Obligations.RestepAndLoss : Prop :=
  (∀ (s : State) (number : Byte) (rest : List RxEntry), Requested s number .restep rest →
      let before := nat1 s.step.state.code
      let u := taken rest s
      (s.step.state = .notMonitored → exec .restep s = .next (withReply number .restep .state before u))
        ∧ (s.step.state = .outOfStep → s.step.lost ≠ [] →
          exec .restep s = .next (withReply number .restep .busy (before ++ nat1 s.step.lost.length) u))
        ∧ (s.step.state = .outOfStep → s.step.lost = [] → ∃ t,
          exec .restep s = .next (withReply number .restep .ok before t)
          ∧ t = { u with step := { s.step with state := .proving, provingCount := 0 }, line := { s.line with feed := t.line.feed }, link := { u.link with notices := t.link.notices } }
          ∧ ∀ c, t.line.feed.has c = if c = .step then false else s.line.feed.has c)
        ∧ (s.step.state = .inStep ∨ s.step.state = .proving →
          exec .restep s = .next (withReply number .restep .ok before (enterOutOfStep [.restep] none u))))
    ∧ (∀ (s : State) (r : Nat), readerPosition s = some r →
        let near := (s.track.cells.take (r + 1)).map (·.tag)
        let kept := s.step.lost.filter fun t => decide (t ∈ near)
        let through : Prop := s.params.stepAuto = 1 ∧ s.step.state = .outOfStep ∧ kept = []
        let t := lostListAdvance s
        (¬ through → t = { s with step := { s.step with lost := kept } })
          ∧ (through → t = { s with
                step := { s.step with state := .proving, provingCount := 0, lost := [] }
                line := { s.line with feed := t.line.feed }
                link := { s.link with notices := t.link.notices } }
            ∧ (∀ c, t.line.feed.has c = if c = .step then false else s.line.feed.has c)
            ∧ ∃ n, Noticed t 2 (.step n) ∧ n.state = .proving ∧ n.lostTags = 0))
    ∧ (∀ (s : State) (conditions : List StepCondition) (evidence : Option StepEvidence) (r : Nat), readerPosition s = some r →
        let t := enterOutOfStep conditions evidence s
        let k : Condemn := { kind := .stepLost, station := none }
        let near := s.track.cells.take (r + 1)
        let lost := (near.filter fun c => c.content == .bound || (c.content == .offered && c.offerMark == none)).reverse.map (·.tag)
        let through : Prop := s.params.stepAuto = 1 ∧ lost = []
        t = { s with track := t.track, step := t.step, line := { s.line with feed := t.line.feed }, link := { s.link with notices := t.link.notices } }
          ∧ t.track = { s.track with cells := t.track.cells } ∧ t.track.cells.length = s.track.cells.length
          ∧ (∀ p c, p ≤ r → s.track.cells[p]? = some c → c.content = .bound ∨ c.content = .offered → t.track.cells[p]? = some (c.condemn k))
          ∧ (∀ p c, s.track.cells[p]? = some c → r < p ∨ (c.content ≠ .bound ∧ c.content ≠ .offered) → t.track.cells[p]? = some c)
          ∧ t.step = { s.step with
              state := t.step.state
              window := []
              slipCount := 0
              provingCount := 0
              lost := lost
              lossCount := min 65535 (s.step.lossCount + 1)
              conditions := conditions }
          ∧ (¬ through → t.step.state = .outOfStep ∧ ∀ c, t.line.feed.has c = if c = .step then true else s.line.feed.has c)
          ∧ (through → t.step.state = .proving ∧ ∀ c, t.line.feed.has c = if c = .step then false else s.line.feed.has c))

/-- The step monitor's taking of a read: OUT_OF_STEP and NOT_MONITORED enter nothing, and a NO_READ that does
not count sets the slip count to 0 alone. Any other outcome is entered in window and block; a FAIL that brings
the block above EXCESS_LIMIT raises STEP_EXCESS once for the block. Then the monitor loses step for every
condition met: the threshold and two slips in IN_STEP and, with EXCESS_RESTEP 1, the excess, each with
STEP_LOCK 0, and any FAIL in PROVING. A PASS in PROVING counts until PROVING_RUN makes the monitor IN_STEP.
Last, a block of 1000 entered outcomes is completed (R113, R114, R115, R120, R121). -/
def Obligations.ReadEntered : Prop :=
  ∀ (s : State) (o : ReadOutcome) (e : StepEvidence),
    let t := takeReadOutcome o e s
    let m := s.step
    let p := s.params
    let slips : Nat := match o with
      | .mismatch (some _) => min 255 (m.slipCount + 1)
      | _ => 0
    let entry : StepEntry := if o = .matched then .pass else .fail
    let window := (m.window ++ [entry]).drop (m.window.length + 1 - p.stepWindow)
    let failures := m.blockFailures + if entry = .fail then 1 else 0
    let excess : Bool := entry == .fail && decide (p.excessLimit < failures) && !m.blockNoticeRaised
    let entered : State := { s with step := { m with
      window := window
      slipCount := slips
      blockEntered := m.blockEntered + 1
      blockFailures := failures
      blockNoticeRaised := m.blockNoticeRaised || excess } }
    let noted : State :=
      if excess then raise (.stepExcess { block := m.blocksCompleted + 1, failures := failures, limit := p.excessLimit }) entered
      else entered
    let when (met : Bool) (c : StepCondition) : List StepCondition := if met then [c] else []
    let free : Bool := p.stepLock == 0
    let loses : List StepCondition :=
      when (m.state == .inStep && free && p.stepThreshold ≤ window.countP (· == .fail)) .threshold
      ++ when (m.state == .inStep && free && 2 ≤ slips) .slips
      ++ when (excess && p.excessRestep == 1 && free) .excess
      ++ when (m.state == .proving && entry == .fail) .provingFailure
    let completed (u : State) : State :=
      if 1000 ≤ u.step.blockEntered then { u with step := { u.step with
        blocksCompleted := min 65535 (u.step.blocksCompleted + 1)
        blockEntered := 0
        blockFailures := 0
        blockNoticeRaised := false } }
      else u
    let enters : Prop := (m.state = .proving ∨ m.state = .inStep) ∧ (o = .noRead → p.stepNoreadCounts = 1)
    (m.state = .notMonitored ∨ m.state = .outOfStep → t = s)
      ∧ (m.state = .proving ∨ m.state = .inStep → o = .noRead → p.stepNoreadCounts ≠ 1 →
        t = { s with step := { m with slipCount := 0 } })
      ∧ (enters → loses ≠ [] →
        t = completed (enterOutOfStep loses (some e) noted)
          ∧ t.step.conditions = loses ∧ t.step.lossCount = min 65535 (m.lossCount + 1)
          ∧ t.step.window = [] ∧ t.step.slipCount = 0 ∧ t.step.provingCount = 0
          ∧ (t.step.state = .outOfStep ∨ (t.step.state = .proving ∧ t.step.lost = [])))
      ∧ (enters → loses = [] → m.state = .inStep → t = completed noted)
      ∧ (m.state = .proving → o = .matched → m.provingCount + 1 < p.provingRun →
        t = completed { noted with step := { noted.step with provingCount := m.provingCount + 1 } })
      ∧ (m.state = .proving → o = .matched → p.provingRun ≤ m.provingCount + 1 → ∃ v,
        t = completed v
          ∧ v = { noted with
              step := { noted.step with state := .inStep, provingCount := 0 }
              link := { noted.link with notices := v.link.notices } }
          ∧ ∃ n, Noticed v 2 (.step n) ∧ n.state = .inStep)

/-! ### Bundles (Chapter 9) -/

/-- BUNDLE_CLOSE: refused FIELD for an option that is neither, BUSY from 64 reports on, and BUSY while a close
is pending; with a stack in flight it is deferred until that exchange ends; otherwise the open bundle closes,
and with the option the open tray after it, for reason HOST, never residual, leaving their split keys (R154,
R162, R163, R165). That every OK reply carries both serials and a byte that says whether the close is deferred
is the model's reading (log entry 14). -/
def Obligations.BundleCloses : Prop :=
  ∀ (s : State) (number : Byte) (option : Nat) (rest : List RxEntry),
    let r : Request := .bundleClose option
    Requested s number r rest →
    let waiting := s.link.reports.length
    let free : Prop := waiting < 64 ∧ s.bundles.closePending = .none
    (1 < option → exec .bundleClose s = .next (withReply number r .field [0, 1] (taken rest s)))
      ∧ (option ≤ 1 → 64 ≤ waiting → exec .bundleClose s = .next (withReply number r .busy (nat2 waiting) (taken rest s)))
      ∧ (option ≤ 1 → waiting < 64 → s.bundles.closePending ≠ .none →
        exec .bundleClose s = .next (withReply number r .busy (nat1 s.bundles.closePending.code) (taken rest s)))
      ∧ (∀ f, option ≤ 1 → free → s.bundles.inFlight = some f →
        exec .bundleClose s = .next (withReply number r .ok (nat2 f.bundleSerial ++ nat2 f.traySerial ++ [1])
          { taken rest s with bundles := { s.bundles with closePending := if option = 1 then .bundleAndTray else .bundle } }))
      ∧ (option ≤ 1 → free → s.bundles.inFlight = none →
        let bundle := s.bundles.bundle
        let tray := if option = 1 then s.bundles.tray else none
        let reports := (bundle.toList.map fun b => Report.bundle { bundle := b, residual := false, reason := .host })
          ++ tray.toList.map fun t => Report.tray { tray := t, reason := .host }
        ∃ t, exec .bundleClose s = .next (withReply number r .ok
            (opt2 (bundle.map (·.serial)) ++ opt2 (tray.map (·.serial)) ++ [0]) t)
          ∧ t = { taken rest s with
              bundles := { s.bundles with
                bundle := none
                bundleSplitKey := (bundle.map (·.key)).or s.bundles.bundleSplitKey
                tray := if option = 1 then none else s.bundles.tray
                traySplitKey := (tray.map (·.key)).or s.bundles.traySplitKey }
              counters := if bundle.isSome then (tally .bundlesClosed none s).counters else s.counters
              line := { s.line with feed := t.line.feed }
              link := { (taken rest s).link with reports := s.link.reports ++ reports, notices := t.link.notices } })

/-- The break decision for an item at the stacker, with a bundle and a tray open. It joins the open bundle with mark NONE, or opens
a new bundle in the open tray, or a new tray and a new bundle in it. What was open is closed and reported with
the first reason that holds, and what is opened takes the next serials and is SPLIT when its key is the split
key (R153, R154, R155).
With no bundle open it opens one, in the open tray where that takes it, else in a new one. -/
def Obligations.BreakDecided : Prop :=
  (∀ (s : State) (r : Record) (v : VersionDef) (b : OpenBundle) (t : OpenTray),
    s.versions[r.version].definition = some v → s.bundles.bundle = some b → s.bundles.tray = some t →
    let p := s.params
    let trayHeavy : Prop := 1 ≤ t.items ∧ p.trayMaxWeight < t.weight + v.weight
    let bundleHeavy : Prop := 1 ≤ b.items ∧ p.bundleMaxWeight < b.weight + v.weight
    let wantsBundle : Prop := b.key ≠ r.bundleKey ∨ p.bundleMaxItems ≤ b.items ∨ bundleHeavy
    let wantsTray : Prop := t.key ≠ r.trayKey ∨ trayHeavy ∨ (wantsBundle ∧ p.trayMaxBundles ≤ t.bundles)
    let d := decideBreak r s
    let next (n : Nat) : Nat := if n = 65535 then 1 else n + 1
    let opened (traySerial : Nat) : OpenBundle := { serial := s.bundles.nextBundleSerial, traySerial := traySerial, key := r.bundleKey, items := 0, weight := 0, first := none, last := none, split := b.key == r.bundleKey, unconfirmed := 0 }
    let closed (reason : ClosureReason) : Report := .bundle { bundle := b, residual := (reason == .bundleKey || reason == .trayKey) && b.items < p.bundleMinItems, reason := reason }
    let only (u : State) (reports : List Report) (bundles : BundleBuilder) : Prop := u = { s with
      bundles := bundles
      counters := (tally .bundlesClosed none s).counters
      line := { s.line with feed := u.line.feed }
      link := { s.link with reports := s.link.reports ++ reports, notices := u.link.notices } }
    (¬ wantsTray → ¬ wantsBundle → d = (.none, s))
      ∧ (¬ wantsTray → wantsBundle → d.1 = .newBundle ∧ ∃ reason,
        (b.key ≠ r.bundleKey → reason = .bundleKey)
        ∧ (b.key = r.bundleKey → p.bundleMaxItems ≤ b.items → reason = .itemLimit)
        ∧ (b.key = r.bundleKey → b.items < p.bundleMaxItems → reason = .bundleWeight)
        ∧ only d.2 [closed reason] { s.bundles with
            bundle := some (opened t.serial)
            nextBundleSerial := next s.bundles.nextBundleSerial
            bundleSplitKey := some b.key
            tray := some { t with bundles := t.bundles + 1 } })
      ∧ (wantsTray → d.1 = .newTray ∧ ∃ reason trayReason,
        (b.key ≠ r.bundleKey → reason = .bundleKey)
        ∧ (b.key = r.bundleKey → t.key ≠ r.trayKey → reason = .trayKey)
        ∧ (b.key = r.bundleKey → t.key = r.trayKey → p.bundleMaxItems ≤ b.items → reason = .itemLimit)
        ∧ (b.key = r.bundleKey → t.key = r.trayKey → b.items < p.bundleMaxItems → bundleHeavy → reason = .bundleWeight)
        ∧ (b.key = r.bundleKey → t.key = r.trayKey → b.items < p.bundleMaxItems → ¬ bundleHeavy → reason = .trayWeight)
        ∧ (t.key ≠ r.trayKey → trayReason = .trayKey)
        ∧ (t.key = r.trayKey → wantsBundle → p.trayMaxBundles ≤ t.bundles → trayReason = .trayBundles)
        ∧ (t.key = r.trayKey → ¬ (wantsBundle ∧ p.trayMaxBundles ≤ t.bundles) → trayReason = .trayWeight)
        ∧ only d.2 [closed reason, .tray { tray := t, reason := trayReason }] { s.bundles with
            bundle := some (opened s.bundles.nextTraySerial)
            nextBundleSerial := next s.bundles.nextBundleSerial
            bundleSplitKey := some b.key
            tray := some { serial := s.bundles.nextTraySerial, key := r.trayKey, bundles := 1, items := 0, weight := 0, split := t.key == r.trayKey }
            nextTraySerial := next s.bundles.nextTraySerial
            traySplitKey := some t.key }))
    ∧ ∀ (s : State) (r : Record) (v : VersionDef),
      s.versions[r.version].definition = some v → s.bundles.bundle = none →
      let p := s.params
      let d := decideBreak r s
      let next (n : Nat) : Nat := if n = 65535 then 1 else n + 1
      let opened (traySerial : Nat) : OpenBundle := { serial := s.bundles.nextBundleSerial, traySerial := traySerial, key := r.bundleKey, items := 0, weight := 0, first := none, last := none, split := s.bundles.bundleSplitKey == some r.bundleKey, unconfirmed := 0 }
      let fresh (split : Bool) : OpenTray := { serial := s.bundles.nextTraySerial, key := r.trayKey, bundles := 1, items := 0, weight := 0, split := split }
      let inNewTray (split : Bool) (splitKey : Option Nat) : BundleBuilder := { s.bundles with
        bundle := some (opened s.bundles.nextTraySerial)
        nextBundleSerial := next s.bundles.nextBundleSerial
        tray := some (fresh split)
        nextTraySerial := next s.bundles.nextTraySerial
        traySplitKey := splitKey }
      (s.bundles.tray = none →
          d = (.newTray, { s with bundles := inNewTray (s.bundles.traySplitKey == some r.trayKey) s.bundles.traySplitKey }))
        ∧ ∀ t, s.bundles.tray = some t →
          let heavy : Prop := 1 ≤ t.items ∧ p.trayMaxWeight < t.weight + v.weight
          let full : Prop := t.key ≠ r.trayKey ∨ heavy ∨ p.trayMaxBundles ≤ t.bundles
          (¬ full → d = (.newBundle, { s with bundles := { s.bundles with
              bundle := some (opened t.serial)
              nextBundleSerial := next s.bundles.nextBundleSerial
              tray := some { t with bundles := t.bundles + 1 } } }))
            ∧ (full → d.1 = .newTray ∧ ∃ reason,
              (t.key ≠ r.trayKey → reason = .trayKey)
              ∧ (t.key = r.trayKey → p.trayMaxBundles ≤ t.bundles → reason = .trayBundles)
              ∧ (t.key = r.trayKey → t.bundles < p.trayMaxBundles → reason = .trayWeight)
              ∧ d.2 = { s with
                  bundles := inNewTray (t.key == r.trayKey) (some t.key)
                  line := { s.line with feed := d.2.line.feed }
                  link := { s.link with reports := s.link.reports ++ [.tray { tray := t, reason := reason }], notices := d.2.link.notices } })

/-! ### Tally counters (Chapter 11) -/

/-- COUNTER_SET gives a counter a setup and begins it afresh, event 0 unconfigures it, a hold is given up, and
the reply carries the setup and value before; the ranges of its fields are refused in their order, and of the
two refusals that lie between two fields one of the two is named, which one being the model's choice (log entry
15) (R184). That the reply gives the setup as one optional record, one presence byte before all its fields, is
the model's reading (log entry 13). -/
def Obligations.CounterRequests : Prop :=
  ∀ (s : State) (number : Byte) (rest : List RxEntry),
    (∀ (i : Fin 8) (event qualifier window threshold action start : Nat),
      let r : Request := .counterSet (i.val + 1) event qualifier window threshold action start
      Requested s number r rest →
      let old := s.counters.all[i]
      let fresh (u : Option CounterSetup) : Counter := { setup := u, value := 0, progress := 0, armed := u.any (·.threshold != 0), started := false, hold := false }
      let set (u : Option CounterSetup) : State := { taken rest s with counters := { s.counters with all := s.counters.all.set i.val (fresh u) i.isLt } }
      let begins (u : Option CounterSetup) : Prop := exec .counterSet s = .next (withReply number r .ok
        (optional setupBytes old.setup ++ word4 old.value) (if old.hold then removeCause (.counter i) (set u) else set u))
      let refused (field : Byte) : Prop := exec .counterSet s = .next (withReply number r .field [0, field] (taken rest s))
      let stationless : Prop := event ∈ [1, 2, 4, 21, 23, 27]
      (27 < event → refused 2)
        ∧ (event ≤ 27 → 16 < qualifier → refused 3)
        ∧ (event ≤ 27 → qualifier ≤ 16 → 1 ≤ qualifier → stationless → ∃ f ∈ ([2, 3] : List Byte), refused f)
        ∧ (event ≤ 27 → qualifier ≤ 16 → qualifier = 0 ∨ ¬ stationless →
          (65535 < window → refused 4)
          ∧ (window ≤ 65535 → action ≠ 1 → action ≠ 2 → refused 6)
          ∧ (window ≤ 65535 → action = 1 ∨ action = 2 → start ≠ 1 → start ≠ 2 → refused 7)
          ∧ (window ≤ 65535 → action = 1 ∨ action = 2 → start = 2 → i = 0 → ∃ f ∈ ([1, 7] : List Byte), refused f)
          ∧ (window ≤ 65535 → action = 1 ∨ action = 2 → start = 1 ∨ (start = 2 ∧ i ≠ 0) →
            (event = 0 → begins none)
            ∧ ∀ e, eventOf event = some e → begins (some {
                event := e
                qualifier := slotOf qualifier
                window := window
                threshold := BitVec.ofNat 32 threshold
                action := if action = 1 then .notice else .noticeHold
                start := if start = 1 then .free else .afterFirst }))))
      ∧ ∀ k event qualifier window threshold action start, k = 0 ∨ 8 < k →
        Requested s number (.counterSet k event qualifier window threshold action start) rest →
        exec .counterSet s = .next (withReply number (.counterSet k event qualifier window threshold action start) .field [0, 1] (taken rest s))

/-- COUNTER_CLEAR sets value and window progress to 0, arms a threshold above 0 and gives up a hold with its
cause; it keeps setup, started and the freeze, and answers the value, progress and hold as they stood; an
unconfigured counter is answered OK and left alone; a counter outside 1 to 8 is refused FIELD (R190). -/
def Obligations.CounterCleared : Prop :=
  ∀ (s : State) (number : Byte) (rest : List RxEntry),
    (∀ k, k = 0 ∨ 8 < k → Requested s number (.counterClear k) rest →
        exec .counterClear s = .next (withReply number (.counterClear k) .field [0, 1] (taken rest s)))
      ∧ ∀ i : Fin 8, Requested s number (.counterClear (i.val + 1)) rest →
        let c := s.counters.all[i]
        let reply := word4 c.value ++ nat2 c.progress ++ [if c.hold then 1 else 0]
        let cleared : Counter := { c with value := 0, progress := 0, armed := c.setup.any (·.threshold != 0), hold := false }
        let t : State := { taken rest s with counters := { s.counters with all := s.counters.all.set i.val cleared i.isLt } }
        (c.setup = none → ∃ data, exec .counterClear s = .next (withReply number (.counterClear (i.val + 1)) .ok data (taken rest s)))
          ∧ (c.setup.isSome → c.hold = false →
            exec .counterClear s = .next (withReply number (.counterClear (i.val + 1)) .ok reply t))
          ∧ (c.setup.isSome → c.hold = true →
            exec .counterClear s = .next (withReply number (.counterClear (i.val + 1)) .ok reply (removeCause (.counter i) t)))

/-- An event handed to the counters: each that counts it adds one; one whose armed threshold its value meets
reaches it, raises its notice and may hold the feed; counter 1's starts the AFTER_FIRST counters; with
COUNTER_FREEZE 1 the block freezes, its source the lowest that reached. An event handed while frozen is lost.
An advance is counted as an event, and then the windows move: the window of a counter that counted already
before it takes one advance more or, with its last advance, ends, which returns the counter to 0 and arms it
again, keeping the hold; a counter that this event itself started begins its window at the next advance, which is
the model's reading (log entry 10), and one that an earlier event of the same advance started moves its window
at this one, which is the model's choice (log entry 36). While the block is frozen no window moves (R185 to R189, R191; WINDOW_END
as a command is log entry 7).
COUNTER_UNFREEZE ends the freeze and answers its source (R189), 0 when the block is not frozen (log entry
20). -/
def Obligations.EventsCounted : Prop :=
  (∀ (e : TallyEvent) (slot : Option SlotNo) (s : State), s.counters.frozen = true → tally e slot s = s)
    ∧ (∀ (e : TallyEvent) (slot : Option SlotNo) (s : State), s.counters.frozen = false →
      let t := tally e slot s
      let counts (i : Fin 8) : Prop := ∃ u, (s.counters.all[i]).setup = some u ∧ u.event = e
        ∧ (u.qualifier = none ∨ u.qualifier = slot) ∧ (u.start = .free ∨ (s.counters.all[i]).started = true)
      let reaches (i : Fin 8) : Prop := counts i ∧ (s.counters.all[i]).armed = true
        ∧ ∃ u, (s.counters.all[i]).setup = some u ∧ u.threshold ≠ 0 ∧ (s.counters.all[i]).value + 1 = u.threshold
      let held (i : Fin 8) : Prop := reaches i ∧ ∃ u, (s.counters.all[i]).setup = some u ∧ u.action = .noticeHold
      let freezes : Prop := s.params.counterFreeze = 1 ∧ ∃ i, reaches i
      t = { s with counters := t.counters, line := { s.line with feed := t.line.feed }, link := { s.link with notices := t.link.notices } }
        ∧ (∀ i : Fin 8,
          let c := s.counters.all[i]
          let c' := t.counters.all[i]
          c'.setup = c.setup ∧ c'.progress = c.progress
            ∧ (counts i → c'.value = c.value + 1) ∧ (¬ counts i → c'.value = c.value)
            ∧ (reaches i → c'.armed = false) ∧ (¬ reaches i → c'.armed = c.armed)
            ∧ (c'.hold = true ↔ c.hold = true ∨ held i)
            ∧ (c'.started = true ↔ c.started = true ∨ (reaches 0 ∧ ∃ u, c.setup = some u ∧ u.start = .afterFirst))
            ∧ (reaches i → ∃ n, Noticed t ⟨25 + i.val, by omega⟩ (.counter i n) ∧ n.value = c'.value
                ∧ n.frozen = t.counters.frozen ∧ n.source = t.counters.source ∧ (n.added = true ↔ held i ∧ c.hold = false))
            ∧ (¬ reaches i → t.link.notices[25 + i.val] = s.link.notices[25 + i.val])
            ∧ (t.line.feed.has (.counter i) = true ↔ s.line.feed.has (.counter i) = true ∨ (held i ∧ c.hold = false)))
        ∧ (∀ c, (∀ i, c ≠ .counter i) → t.line.feed.has c = s.line.feed.has c)
        ∧ (t.counters.frozen = true ↔ freezes)
        ∧ (freezes → ∃ i, t.counters.source = some i ∧ reaches i ∧ ∀ j, j < i → ¬ reaches j))
    ∧ (∀ s : State,
      let u := tally .pitchAdvances none s
      let t := tallyAdvance s
      t = { u with counters := t.counters } ∧ t.counters.frozen = u.counters.frozen ∧ t.counters.source = u.counters.source
        ∧ (u.counters.frozen = true → t = u)
        ∧ (u.counters.frozen = false → ∀ i : Fin 8,
          let c := u.counters.all[i]
          let moves (v : CounterSetup) : Prop := c.setup = some v ∧ v.window ≠ 0
            ∧ (v.start = .free ∨ (s.counters.all[i]).started = true)
          ((∀ v, ¬ moves v) → t.counters.all[i] = c)
            ∧ (∀ v, moves v → c.progress + 1 < v.window → t.counters.all[i] = { c with progress := c.progress + 1 })
            ∧ (∀ v, moves v → v.window ≤ c.progress + 1 →
              t.counters.all[i] = { c with value := 0, progress := 0, armed := v.threshold != 0 })))
    ∧ (∀ (s : State) (number : Byte) (rest : List RxEntry), Requested s number .counterUnfreeze rest →
      exec .counterUnfreeze s = .next (withReply number .counterUnfreeze .ok
        [match s.counters.source with
          | some i => BitVec.ofNat 8 (i.val + 1)
          | none => 0]
        { taken rest s with counters := { s.counters with frozen := false, source := none } }))
    ∧ ∀ (i : Fin 8) (s : State),
      let c := s.counters.all[i]
      let due : Prop := s.counters.frozen = false ∧ ∃ u, c.setup = some u ∧ u.window ≠ 0
        ∧ (u.start = .free ∨ c.started = true) ∧ u.window ≤ c.progress + 1
      let ended : Counter := { c with value := 0, progress := 0, armed := c.setup.any (·.threshold != 0) }
      (due → exec (.windowEnd i) s = .next { s with counters := { s.counters with all := s.counters.all.set i.val ended i.isLt } })
        ∧ (¬ due → exec (.windowEnd i) s = .next s)

/-! ### The advance and the chain (Chapters 3 and 7) -/

/-- An advance, in whatever order the blocks take it (log entry 5): every cell moves one position up in its
order, the one at S leaves, and a cell with the next tag stands at position 0, EMPTY unless the line is
RUNNING; after a jog no cell is BOUND. Configuration, parameters, inputs, definitions, setups and the last
accepted values stay (R46, R48, R52, R53, R58).
Its four steps, whose parts the next two statements and that of binding state: the exchanges close cell by
cell from position 0 up, those of one cell in the order they were opened (log entry 8); the cells shift, a jog
condemns the BOUND ones, and the lost list follows; binding is asked, at an advance that is no jog and only in
RUNNING; and the stations are commanded from position 0 up, at a jog the gate and the stacker alone. Then the
counters take the advance, before the test for the end of a drain (log entry 34). The phase monitor's part with
its fault comes before or after the track, and before or after that test, as the order says, R135 and R175
leaving it open (log entry 5). -/
def Obligations.PitchAdvances : Prop :=
  ∀ (order : AdvanceOrder) (s : State), ∃ t, exec (.pitchAdvance order) s = .next t
    ∧ t.track.nextTag = s.track.nextTag + 1
    ∧ t.track.cells.map (·.tag) = s.track.nextTag :: (s.track.cells.take (stackerPosition s)).map (·.tag)
    ∧ (s.line.state ≠ .running → ∀ c, t.track.cells.head? = some c → c.content = .empty)
    ∧ (s.line.state = .idle ∨ s.line.state = .faulted → ∀ c ∈ t.track.cells, c.content ≠ .bound)
    ∧ (∀ n, (stationAt t n).map (fun st => (st.role, st.address, st.position, st.debounce, st.faultLimit))
        = (stationAt s n).map fun st => (st.role, st.address, st.position, st.debounce, st.faultLimit))
    ∧ (∀ v : Fin 32, t.versions[v].definition = s.versions[v].definition)
    ∧ (∀ i : Fin 8, (t.counters.all[i]).setup = (s.counters.all[i]).setup)
    ∧ t.intake.lastSequence = s.intake.lastSequence ∧ t.intake.lastKeys = s.intake.lastKeys
    ∧ t.params = s.params ∧ t.estop = s.estop ∧ t.home = s.home ∧ t.freeIndex = s.freeIndex
    ∧ t.bus.inProgress = s.bus.inProgress ∧ t.bus.pollPointer = s.bus.pollPointer
    ∧ t.link = { s.link with reports := t.link.reports, notices := t.link.notices }
    ∧
    let close (u : State) (p : Nat) : State := match u.track.cells[p]? with
      | some c => (c.exchanges.filter (·.closing == p)).foldl (fun v x => closeExchange p c.tag x.slot v) u
      | none => u
    let command (jog : Bool) (u : State) (p : Nat) : State := match u.track.cells[p]?, slotAtPosition u p with
      | some c, some n => match stationAt u n with
        | some st => if jog = false ∨ st.role = .gate ∨ st.role = .stacker then deriveFor n st.role p c u else u
        | none => u
      | _, _ => u
    let track (u : State) : State :=
      let jog := u.line.state == .idle || u.line.state == .faulted
      let closed := (List.range u.track.cells.length).foldl close u
      let moved := (Cell.new closed.track.nextTag :: closed.track.cells.take (stackerPosition closed)).map fun c =>
        if jog = true ∧ c.content = .bound then c.condemn { kind := .movedWhileHalted, station := none } else c
      let shifted := lostListAdvance { closed with track := { closed.track with
        cells := moved
        nextTag := closed.track.nextTag + 1 } }
      let decided := if jog = false ∧ shifted.line.state = .running then decideNewCell shifted else shifted
      tallyAdvance ((List.range decided.track.cells.length).foldl (command jog) decided)
    let faulted (lost : Bool) (u : State) : State := if lost then handFault .phase u else u
    let phase (u : State) : State := faulted (takePulse u).2 (takePulse u).1
    let drain (v u : State) : State := drainTest (v.line.state == .draining) u
    let u : State := { s with moment := s.moment + 1 }
    t = match order with
      | .phaseThenTrack => drain (phase u) (track (phase u))
      | .phaseFaultAfterTrack => drain u (faulted (takePulse u).2 (track (takePulse u).1))
      | .trackThenPhase => drain u (phase (track u))
      | .trackThenLine => phase (drain u (track u))

/-- An exchange that closes without a result hands NO_REPORT when its frame was sent, and BUS_LATE, with the
command withdrawn, when it was still queued. A feeder's, reader's or sealer's cell is condemned; the printer's
fails its print and returns a credit; the main feeder's becomes VOID, its record returns to the front and its tag
leaves the lost list, which ends OUT_OF_STEP when the tag was the last and STEP_AUTO is 1 (that the proof-offer
flag falls and the later faults stay is log entry 25, and the window size in the STEP notice, the number of
entries held, is log entry 13). The gate's is taken as PASSED: a BOUND cell passes, and a CONDEMNED, VOID or PROOF one escapes, with its fault, and for a proof
with the PROOF notice of the failed check. The stacker's counts the item as stacked but unconfirmed, finishes its
record, faults the line and carries out a pending close; after a SET_ASIDE it faults the line and no more. Only a
NO_REPORT is counted against the station, and one that makes it unusable faults the line (R8, R15, R49, R50, R51,
R67, R80, R118, R139, R144 to R147, R159, R160, R165); that the cell is dealt with before the station is log entry 17. -/
def Obligations.ExchangesClose : Prop :=
  ∀ (s : State) (n : SlotNo) (st : Station) (p : Nat) (c : Cell), stationAt s n = some st → s.track.cells[p]? = some c →
    let u := closeExchange p c.tag n s
    let late : Prop := ∃ o, { slot := n, order := .cell c.tag o } ∈ s.bus.txQueue
    let closes (k : CondemnKind) (event : TallyEvent) (counted : Station) : Prop :=
      let shared (d : Cell) (jobs : Nat) : Prop :=
        u.track = { s.track with cells := s.track.cells.set p d, printJobs := jobs }
          ∧ stationAt u n = some counted ∧ (∀ m, m ≠ n → stationAt u m = stationAt s m)
          ∧ u.bus = { s.bus with txQueue := unsent n c.tag s }
          ∧ u.counters = (tally event (some n) s).counters
          ∧ u.versions = s.versions ∧ u.phase = s.phase ∧ u.bundles = s.bundles ∧ u.params = s.params
          ∧ u.link = { s.link with notices := u.link.notices } ∧ u.line = { s.line with feed := u.line.feed }
      let cause : Condemn := { kind := k, station := some n }
      (st.role = .insertFeeder ∨ st.role = .carrierFeeder ∨ st.role = .reader ∨ st.role = .sealer →
          shared ((ended n c).condemn cause) s.track.printJobs ∧ u.intake = s.intake ∧ u.binding = s.binding ∧ u.step = s.step)
        ∧ (st.role = .printer →
          shared (Cell.condemn cause { ended n c with print := .failed }) (s.track.printJobs - 1)
            ∧ u.intake = s.intake ∧ u.binding = s.binding ∧ u.step = s.step)
        ∧ (st.role = .mainFeeder → c.content = .offered → OfferEnded c.tag s u
          ∧ (∀ r, c.record = some r → c.proofOffer = false →
            shared { vacated r (ended n c) with content := .void, proofOffer := false, offerMark := none } s.track.printJobs
              ∧ u.intake = { s.intake with queue := r :: s.intake.queue } ∧ u.binding = s.binding)
          ∧ (c.record = none → c.proofOffer = true →
            shared { ended n c with content := .void, proofOffer := false, offerMark := none } s.track.printJobs
              ∧ u.intake = s.intake ∧ u.binding = { s.binding with proofPending := false }))
    let disposes (outcome : GateOutcome) (event : TallyEvent) (counted : Station) : Prop :=
      let shared (d : Cell) (versions : Vector VersionEntry 32) (counters : Counters) : Prop :=
        u.track = { s.track with cells := s.track.cells.set p d }
          ∧ stationAt u n = some counted ∧ (∀ m, m ≠ n → stationAt u m = stationAt s m)
          ∧ u.bus = { s.bus with txQueue := u.bus.txQueue } ∧ (u.line.state = s.line.state → u.bus.txQueue = unsent n c.tag s)
          ∧ u.counters = counters ∧ u.versions = versions ∧ u.intake = s.intake ∧ u.binding = s.binding
          ∧ u.step = s.step ∧ u.phase = s.phase ∧ u.params = s.params
          ∧ u.link = { s.link with notices := u.link.notices, reports := u.link.reports }
      let faults (k : FaultCause) : Prop := u.line.state = .faulted
        ∧ (s.line.state ≠ .faulted → u.line.fault = some k) ∧ (s.line.state = .faulted → u.line.fault = s.line.fault)
      let fails : Prop := st.usable = true ∧ counted.usable = false
      let tallied (v : State) : Counters := (tally event (some n) v).counters
      let escapes : Counters := tallied (tally .escapes (some n) s)
      let escaped (d : Cell) : Cell := { d with content := .passed, escaped := true }
      (st.role = .gate →
          (c.content = .bound → shared { ended n c with content := .passed } s.versions (tallied s)
            ∧ u.link.reports = s.link.reports ∧ u.bundles = s.bundles
            ∧ (fails → faults (.station n)) ∧ (¬ fails → u.line = { s.line with feed := u.line.feed }))
          ∧ (∀ r, c.content = .condemned → c.record = some r →
            shared (escaped (vacated r (ended n c))) (released r s) escapes ∧ faults (.escape c.tag) ∧ u.bundles = s.bundles
            ∧ u.link.reports = s.link.reports ++ [.item { sequence := r.sequence, outcome := .escaped, reason := none, cause := c.fault, attempts := r.attempts, bundleSerial := none, unconfirmed := false }])
          ∧ (c.content = .void → shared (escaped (ended n c)) s.versions escapes ∧ faults (.unaddressedEscape c.tag)
            ∧ u.link.reports = s.link.reports ∧ u.bundles = s.bundles)
          ∧ (c.content = .proof → shared (escaped (ended n c)) s.versions escapes ∧ faults (.proofEscape c.tag)
            ∧ u.link.reports = s.link.reports ∧ u.bundles = s.bundles
            ∧ Noticed u 8 (.proof { passed := false, tag := c.tag, outcome := outcome, fault := c.fault, gateHealth := some st.health, gateStatus := some st.recorded })))
        ∧ (st.role = .stacker → c.content = .passed →
          (c.escaped = true → shared (ended n c) s.versions (tallied s) ∧ faults (.stackSilent c.tag)
            ∧ u.link.reports = s.link.reports ∧ u.bundles = s.bundles)
          ∧ ∀ (r : Record) (b : OpenBundle) (tray : OpenTray) (v : VersionDef), c.escaped = false → c.record = some r →
            s.bundles.bundle = some b → s.bundles.tray = some tray → s.versions[r.version].definition = some v →
            let stacked : OpenBundle := { b with
              items := b.items + 1
              weight := b.weight + v.weight
              first := if b.first = none then some r.sequence else b.first
              last := some r.sequence
              unconfirmed := b.unconfirmed + 1 }
            let trayStacked : OpenTray := { tray with items := tray.items + 1, weight := tray.weight + v.weight }
            let item : Report := .item { sequence := r.sequence, outcome := .stacked, reason := none, cause := none, attempts := r.attempts, bundleSerial := some b.serial, unconfirmed := true }
            let bundleClosed : Report := .bundle { bundle := stacked, residual := false, reason := .host }
            let counters (v : State) : Counters := tallied (if s.bundles.closePending = .none then v else tally .bundlesClosed none v)
            shared (vacated r (ended n c)) (released r s) (counters (tally .stacked (some n) s)) ∧ faults (.stackSilent c.tag)
              ∧ (s.bundles.closePending = .none → u.link.reports = s.link.reports ++ [item]
                ∧ u.bundles = { s.bundles with bundle := some stacked, tray := some trayStacked, inFlight := none })
              ∧ (s.bundles.closePending = .bundle → u.link.reports = s.link.reports ++ [item, bundleClosed]
                ∧ u.bundles = { s.bundles with bundle := none, tray := some trayStacked, inFlight := none, closePending := .none, bundleSplitKey := some b.key })
              ∧ (s.bundles.closePending = .bundleAndTray →
                u.link.reports = s.link.reports ++ [item, bundleClosed, .tray { tray := trayStacked, reason := .host }]
                ∧ u.bundles = { s.bundles with bundle := none, tray := none, inFlight := none, closePending := .none, bundleSplitKey := some b.key, traySplitKey := some tray.key }))
    (late → closes .busLate .busLates st ∧ disposes .busLate .busLates st)
      ∧ (¬ late → closes .noReport .noReports st.afterNoReport ∧ disposes .noReport .noReports st.afterNoReport)

/-- The command a station's cell gives it at step 4 of a running advance: an order with an exchange opened for
it, a condemnation, or nothing, by role, content, usability, print state, carrier state and printer credits.
The gate and the stacker are commanded whatever their usability, and they alone at a jog; a STACK carries the
break mark and, as they stand after the break decision, the serial of the open bundle and that of the tray it was
opened in, which is the open tray (R54 to R58, R67, R93, R97, R138, R153, R156, R160). -/
def Obligations.CommandsDerived : Prop :=
  ∀ (s : State) (n : SlotNo) (st : Station) (p : Nat) (c : Cell), stationAt s n = some st → s.track.cells[p]? = some c →
    let gives (o : CellOrder) (closing : Nat) (d : Cell) (jobs : Nat) : State := { s with
      track := { s.track with
        cells := s.track.cells.set p { d with exchanges := d.exchanges ++ [{ slot := n, closing := closing }] }
        printJobs := jobs }
      bus := { s.bus with txQueue := s.bus.txQueue ++ [{ slot := n, order := .cell c.tag o }] } }
    let condemns (k : CondemnKind) (d : Cell) : State := { s with track := { s.track with cells := s.track.cells.set p (d.condemn { kind := k, station := some n }) } }
    let jobs := s.track.printJobs
    let u := deriveFor n st.role p c s
    let seals : Prop := c.content = .condemned ∨ c.content = .void ∨ c.content = .proof
    (st.role = .mainFeeder → c.content = .offered → u = gives .feed p c jobs)
      ∧ (st.role = .insertFeeder → c.content = .bound → (∃ d ∈ c.demands, d.slot = n ∧ d.fed = false) →
        u = if st.usable then gives .feed p c jobs else condemns .stationUnavailable c)
      ∧ (st.role = .insertFeeder → (∀ d ∈ c.demands, d.slot = n → d.fed = true) → u = s)
      ∧ (∀ r lead, st.role = .printer → c.content = .bound → c.record = some r → positionWith s .carrierFeeder = some (lead + 1) →
        (st.usable = false → u = condemns .stationUnavailable c)
        ∧ (st.usable = true → jobs < 2 → u = gives (.print r.sequence r.lines r.keyline) lead { c with print := .sent } (jobs + 1))
        ∧ (st.usable = true → 2 ≤ jobs → u = condemns .printNoCredit { c with print := .refused }))
      ∧ (∀ r, st.role = .carrierFeeder → c.content = .bound → c.record = some r →
        (c.print ≠ .printed → u = condemns .carrierNotPrinted c)
        ∧ (c.print = .printed → u = if st.usable then gives (.feedCarrier r.sequence) p c jobs else condemns .stationUnavailable c))
      ∧ (st.role = .reader → c.content = .bound →
        (st.usable = false → u = condemns .stationUnavailable c)
        ∧ (st.usable = true → c.carrier = .fed → u = gives .read p c jobs))
      ∧ (st.role = .sealer → c.content = .bound → u = if st.usable then gives .seal p c jobs else condemns .stationUnavailable c)
      ∧ (st.role = .sealer → seals → u = if st.usable then gives .seal p c jobs else s)
      ∧ (st.role = .gate → c.content = .bound → u = gives .pass p c jobs)
      ∧ (st.role = .gate → seals → u = gives .divert p c jobs)
      ∧ (st.role = .stacker → c.content = .passed → c.escaped = true → u = gives .setAside p c jobs)
      ∧ (∀ r, st.role = .stacker → c.content = .passed → c.escaped = false → c.record = some r →
        let d := decideBreak r s
        ∃ b, d.2.bundles.bundle = some b
          ∧ (BundleInTray s → ∃ tray, d.2.bundles.tray = some tray ∧ tray.serial = b.traySerial)
          ∧ let stacked := gives (.stack d.1 b.serial b.traySerial) p c jobs
            u = { d.2 with
              track := stacked.track
              bus := stacked.bus
              bundles := { d.2.bundles with inFlight := some { tag := c.tag, mark := d.1, bundleSerial := b.serial, traySerial := b.traySerial } } })
      ∧ (c.content = .empty ∨ c.content = .diverted → u = s)
      ∧ (c.content ≠ .bound → c.content ≠ .offered → st.role.feeding = true → st.role ≠ .sealer → u = s)
      ∧ ∀ r : Role, r.commanded true = true ↔ r = .gate ∨ r = .stacker

/-- The chain count and the marks. An advance counts, and at C it wraps, in LOCKED opening a revolution; no
mark at count 0 is an error. A mark starts acquiring in SEEKING, locks or restarts in ACQUIRING, is good at
count 0 in LOCKED and an error elsewhere; a repeat is disregarded; HOME asserted gives one mark and its
release none. Two errors within the window lose the phase: every BOUND cell is condemned PHASE_LOST, every
offer marked, PHASE stands, the PHASE notice counts the cells condemned and the offers newly marked (log entry 11),
and the line faults: for a mark at once, for an advance as PitchAdvances says. No change of the phase state changes
another cause. A mark in LOST is good or misplaced, too, but no error. A
misplaced mark, in LOCKED or LOST, at the count of the misplaced one before raises PHASE_SHIFT with that count, C
and the state (R128 to R137; CHAIN_WRAP as a command is log entry 7). -/
def Obligations.ChainCountAndMarks : Prop :=
  ∀ s : State,
    let m := s.phase
    let C := s.params.chainLength
    let wrapped : PhaseMonitor := { m with
      sinceMark := min 2048 (m.sinceMark + 1)
      chainCount := 0
      zeroMark := false
      window := if m.state = .locked then (m.window ++ [0]).drop (m.window.length + 1 - 4) else m.window }
    let u : State := { s with home := true, moment := s.moment + 1 }
    let marked (l : PhaseMonitor) : State := { u with phase := { l with sinceMark := 0 } }
    let judged (state : PhaseState) (d : Nat) (l : PhaseMonitor) : Prop :=
      (m.lastMisplaced ≠ some d → exec .homeMark s = .next (marked l))
        ∧ (m.lastMisplaced = some d → ∃ t, exec .homeMark s = .next t
          ∧ t = { marked l with link := { s.link with notices := t.link.notices } }
          ∧ Noticed t 5 (.phaseShift { d := d, chainLength := C, state := state })
          ∧ ∀ i : Fin 33, i ≠ 5 → t.link.notices[i] = s.link.notices[i])
    let pulse := takePulse s
    let struck : List Cell := s.track.cells.map fun c =>
      if c.content = .bound ∨ c.content = .offered then c.condemn { kind := .phaseLost, station := none } else c
    let bound : Nat := s.track.cells.countP fun c => c.content = .bound
    let offers : Nat := s.track.cells.countP fun c => c.content = .offered ∧ c.offerMark = none
    let feeds (t : State) (stands : Bool) : Prop :=
      ∀ c, t.line.feed.has c = if c = .phase then stands else s.line.feed.has c
    let told (t : State) (l : PhaseMonitor) (condemned marked : Option Nat) : Prop :=
      Noticed t 4 (.phase { state := l.state, chainLength := C, chainCount := l.chainCount, window := l.window, lossCount := l.lossCount, lossCause := l.lossCause, lastMisplaced := l.lastMisplaced, restarts := l.restarts, condemned := condemned, marked := marked })
    let loses (before : State) (l : PhaseMonitor) (t : State) : Prop :=
      t = { before with
          phase := l
          track := { s.track with cells := struck }
          line := { s.line with feed := t.line.feed }
          link := { s.link with notices := t.link.notices } }
        ∧ feeds t true ∧ told t l (some bound) (some offers)
        ∧ ∀ i : Fin 33, i ≠ 1 → i ≠ 4 → i ≠ 5 → t.link.notices[i] = s.link.notices[i]
    (m.state = .off → exec .chainWrap s = .next s ∧ pulse = (s, false))
      ∧ (m.state ≠ .off → C ≤ m.chainCount + 1 →
        exec .chainWrap s = .next { s with phase := wrapped } ∧ pulse = ({ s with phase := wrapped }, false))
      ∧ (m.state ≠ .off → m.chainCount + 1 < C → exec .chainWrap s = .next s)
      ∧ (m.state ≠ .off → m.chainCount + 1 < C → ¬ (m.state = .locked ∧ m.chainCount = 0 ∧ m.zeroMark = false) →
        pulse = ({ s with phase := { m with sinceMark := min 2048 (m.sinceMark + 1), chainCount := m.chainCount + 1 } }, false))
      ∧ (∀ earlier newest, m.state = .locked → m.chainCount = 0 → m.zeroMark = false → 1 < C → m.window = earlier ++ [newest] →
        let errors := earlier ++ [min 255 (newest + 1)]
        let missed : PhaseMonitor := { m with sinceMark := min 2048 (m.sinceMark + 1), chainCount := 1 }
        (errors.sum < 2 → pulse = ({ s with phase := { missed with window := errors } }, false))
        ∧ (2 ≤ errors.sum →
          let lost : PhaseMonitor := { missed with
            state := .lost
            lossCount := min 65535 (m.lossCount + 1)
            lossCause := some .missing
            window := [] }
          pulse.2 = true ∧ loses s lost pulse.1 ∧ pulse.1.link.notices[(5 : Fin 33)] = s.link.notices[(5 : Fin 33)]))
      ∧ exec .homeRelease s = .next { s with home := false }
      ∧ (s.home = true → exec .homeMark s = .next s)
      ∧ (s.home = false →
        (m.state = .off → exec .homeMark s = .next u)
        ∧ (m.state = .acquiring ∨ m.state = .locked ∨ m.state = .lost → m.sinceMark = 0 → exec .homeMark s = .next u)
        ∧ (m.state = .seeking → ∃ t, exec .homeMark s = .next t
            ∧ t = { u with phase := { m with state := .acquiring, chainCount := 0, sinceMark := 0 }, line := { s.line with feed := t.line.feed }, link := { s.link with notices := t.link.notices } }
            ∧ feeds t true ∧ told t { m with state := .acquiring, chainCount := 0 } none none)
        ∧ (m.state = .acquiring → m.sinceMark ≠ 0 → m.chainCount = 0 → m.sinceMark = C → ∃ t, exec .homeMark s = .next t
            ∧ t = { u with phase := { m with state := .locked, window := [0], zeroMark := true, lastMisplaced := none, sinceMark := 0 }, line := { s.line with feed := t.line.feed }, link := { s.link with notices := t.link.notices } }
            ∧ feeds t false ∧ told t { m with state := .locked, window := [0], lastMisplaced := none } none none)
        ∧ (m.state = .acquiring → m.sinceMark ≠ 0 → ¬ (m.chainCount = 0 ∧ m.sinceMark = C) →
          exec .homeMark s = .next (marked { m with chainCount := 0, restarts := min 65535 (m.restarts + 1) }))
        ∧ (m.state = .locked → m.sinceMark ≠ 0 → m.chainCount = 0 →
          exec .homeMark s = .next (marked { m with zeroMark := true, lastMisplaced := none }))
        ∧ (∀ d earlier newest, m.state = .locked → m.sinceMark ≠ 0 → m.chainCount = d → d ≠ 0 → m.window = earlier ++ [newest] →
          let errors := earlier ++ [min 255 (newest + 1)]
          let lost : PhaseMonitor := { m with
            state := .lost
            lossCount := min 65535 (m.lossCount + 1)
            lossCause := some (.misplaced d)
            window := []
            zeroMark := false
            lastMisplaced := some d
            sinceMark := 0 }
          (errors.sum < 2 → judged .locked d { m with window := errors, lastMisplaced := some d })
          ∧ (2 ≤ errors.sum → ∃ t, exec .homeMark s = .next (handFault .phase t) ∧ loses u lost t
            ∧ FaultTaken .phase s (handFault .phase t)
            ∧ (m.lastMisplaced ≠ some d → t.link.notices[(5 : Fin 33)] = s.link.notices[(5 : Fin 33)])
            ∧ (m.lastMisplaced = some d → Noticed t 5 (.phaseShift { d := d, chainLength := C, state := .locked }))))
        ∧ (m.state = .lost → m.sinceMark ≠ 0 → m.chainCount = 0 →
          exec .homeMark s = .next (marked { m with lastMisplaced := none }))
        ∧ (∀ d, m.state = .lost → m.sinceMark ≠ 0 → m.chainCount = d → d ≠ 0 → judged .lost d { m with lastMisplaced := some d }))

/-! ### Invariants -/

/-- Every step keeps the line consistent: with ESTOP asserted it is FAULTED, the start timer runs in STARTING
alone, the stop timer in STOPPING alone, and a drain option stands in DRAINING alone (R172 to R179). -/
def Obligations.LineStaysConsistent : Prop := Kept fun s => EstopHalts s ∧ TimersFollow s

/-- Every step keeps STEP in the suppression set exactly in OUT_OF_STEP and PHASE exactly in SEEKING, ACQUIRING
and LOST (R116, R118, R128); STATION(n) exactly for the unusable feeding stations (R14); and COUNTER(n) exactly
while counter n holds (R184, R186, R190). -/
def Obligations.CausesStand : Prop :=
  (Kept fun s => StepCause s ∧ PhaseCause s) ∧ Kept StationCauses ∧ Kept CounterCauses

/-- Every step keeps the records of cells as their content says (R47), the fresh count at 256 at most (R28), the
printer's jobs at 2 at most (R67), and an open bundle in the open tray, whose serial it carries (R155). -/
def Obligations.RecordsStayInPlace : Prop :=
  Kept RecordByContent ∧ (Kept fun s => freshCount s ≤ 256) ∧ (Kept fun s => s.track.printJobs ≤ 2) ∧ Kept BundleInTray

/-- Every step keeps stations, cells, intake queue, versions and reports as `Settled` says: no two slots at one
position (R2); records in cells by their content, on the way from the main feeder to the stacker (R47, R49,
R57); remakes ahead of fresh records, and these in order (R29, R31); at most 256 fresh records, 64 remakes and
records in cells, 2 print jobs (R27, R28, R67); every reference count the number of records held (R42). So at
most one cell is OFFERED (R76), the queue holds at most 320 records, and the report queue at most 320 reports,
those to come counted in (R197). -/
def Obligations.LineStaysSettled : Prop :=
  Kept Settled
    ∧ ∀ s, Settled s →
      s.intake.queue.length ≤ 320 ∧ s.link.reports.length ≤ 320
        ∧ ∀ (p q : Nat) (c d : Cell), s.track.cells[p]? = some c → s.track.cells[q]? = some d →
          c.content = .offered → d.content = .offered → p = q

/-- Every step keeps the receive queue at 4 entries, the overflow list at 16 and the reply queue at 2 at most,
and BACKLOG present at 64 reports or more and absent at 32 or fewer (R194, R197). -/
def Obligations.HostLinkStaysBounded : Prop := Kept fun s => LinkBounds s ∧ BacklogCause s

/-- Every step keeps the track at 64 cells at most, at positions 0 to 63, their tags the tags given last in
their order, so that no two cells carry one tag (R44, R46). -/
def Obligations.TrackTagsInOrder : Prop := Kept TrackTags
end

