-- ==== Sys2Proof/Laws/State.lean ====
section
/-! SUPPORT. What the plain updates of the state leave alone: one lemma for each field that an update does
not touch. No later proof unfolds a record update. -/

namespace Sys2Proof.Machine

/-! ### `raise`: a notice changes the notice set alone -/

@[simp] theorem raise_stations (n : Notice) (s : State) : (raise n s).stations = s.stations := rfl

@[simp] theorem raise_bus (n : Notice) (s : State) : (raise n s).bus = s.bus := rfl

@[simp] theorem raise_intake (n : Notice) (s : State) : (raise n s).intake = s.intake := rfl

@[simp] theorem raise_versions (n : Notice) (s : State) : (raise n s).versions = s.versions := rfl

@[simp] theorem raise_track (n : Notice) (s : State) : (raise n s).track = s.track := rfl

@[simp] theorem raise_binding (n : Notice) (s : State) : (raise n s).binding = s.binding := rfl

@[simp] theorem raise_step (n : Notice) (s : State) : (raise n s).step = s.step := rfl

@[simp] theorem raise_phase (n : Notice) (s : State) : (raise n s).phase = s.phase := rfl

@[simp] theorem raise_bundles (n : Notice) (s : State) : (raise n s).bundles = s.bundles := rfl

@[simp] theorem raise_line (n : Notice) (s : State) : (raise n s).line = s.line := rfl

@[simp] theorem raise_counters (n : Notice) (s : State) : (raise n s).counters = s.counters := rfl

@[simp] theorem raise_link_receiver (n : Notice) (s : State) : (raise n s).link.receiver = s.link.receiver := rfl

@[simp] theorem raise_link_rx (n : Notice) (s : State) : (raise n s).link.rx = s.link.rx := rfl

@[simp] theorem raise_link_overflow (n : Notice) (s : State) : (raise n s).link.overflow = s.link.overflow := rfl

@[simp] theorem raise_link_discarded (n : Notice) (s : State) : (raise n s).link.discarded = s.link.discarded := rfl

@[simp] theorem raise_link_replies (n : Notice) (s : State) : (raise n s).link.replies = s.link.replies := rfl

@[simp] theorem raise_link_reports (n : Notice) (s : State) : (raise n s).link.reports = s.link.reports := rfl

@[simp] theorem raise_link_tx (n : Notice) (s : State) : (raise n s).link.tx = s.link.tx := rfl

@[simp] theorem raise_params (n : Notice) (s : State) : (raise n s).params = s.params := rfl

@[simp] theorem raise_estop (n : Notice) (s : State) : (raise n s).estop = s.estop := rfl

@[simp] theorem raise_home (n : Notice) (s : State) : (raise n s).home = s.home := rfl

@[simp] theorem raise_moment (n : Notice) (s : State) : (raise n s).moment = s.moment := rfl

@[simp] theorem raise_freeIndex (n : Notice) (s : State) : (raise n s).freeIndex = s.freeIndex := rfl

@[simp] theorem raise_pending (n : Notice) (s : State) : (raise n s).pending = s.pending := rfl

/-! ### `setFeed`: a changed suppression set changes the set and the notice set -/

@[simp] theorem setFeed_stations (f : FeedSet) (s : State) : (setFeed f s).stations = s.stations := rfl

@[simp] theorem setFeed_bus (f : FeedSet) (s : State) : (setFeed f s).bus = s.bus := rfl

@[simp] theorem setFeed_intake (f : FeedSet) (s : State) : (setFeed f s).intake = s.intake := rfl

@[simp] theorem setFeed_versions (f : FeedSet) (s : State) : (setFeed f s).versions = s.versions := rfl

@[simp] theorem setFeed_track (f : FeedSet) (s : State) : (setFeed f s).track = s.track := rfl

@[simp] theorem setFeed_binding (f : FeedSet) (s : State) : (setFeed f s).binding = s.binding := rfl

@[simp] theorem setFeed_step (f : FeedSet) (s : State) : (setFeed f s).step = s.step := rfl

@[simp] theorem setFeed_phase (f : FeedSet) (s : State) : (setFeed f s).phase = s.phase := rfl

@[simp] theorem setFeed_bundles (f : FeedSet) (s : State) : (setFeed f s).bundles = s.bundles := rfl

@[simp] theorem setFeed_line_state (f : FeedSet) (s : State) : (setFeed f s).line.state = s.line.state := rfl

@[simp] theorem setFeed_line_fault (f : FeedSet) (s : State) : (setFeed f s).line.fault = s.line.fault := rfl

@[simp] theorem setFeed_line_laterFaults (f : FeedSet) (s : State) : (setFeed f s).line.laterFaults = s.line.laterFaults := rfl

@[simp] theorem setFeed_line_lastLater (f : FeedSet) (s : State) : (setFeed f s).line.lastLater = s.line.lastLater := rfl

@[simp] theorem setFeed_line_drain (f : FeedSet) (s : State) : (setFeed f s).line.drain = s.line.drain := rfl

@[simp] theorem setFeed_line_driveOrder (f : FeedSet) (s : State) : (setFeed f s).line.driveOrder = s.line.driveOrder := rfl

@[simp] theorem setFeed_line_startTimer (f : FeedSet) (s : State) : (setFeed f s).line.startTimer = s.line.startTimer := rfl

@[simp] theorem setFeed_line_stopTimer (f : FeedSet) (s : State) : (setFeed f s).line.stopTimer = s.line.stopTimer := rfl

@[simp] theorem setFeed_line_restarted (f : FeedSet) (s : State) : (setFeed f s).line.restarted = s.line.restarted := rfl

@[simp] theorem setFeed_counters (f : FeedSet) (s : State) : (setFeed f s).counters = s.counters := rfl

@[simp] theorem setFeed_link_receiver (f : FeedSet) (s : State) : (setFeed f s).link.receiver = s.link.receiver := rfl

@[simp] theorem setFeed_link_rx (f : FeedSet) (s : State) : (setFeed f s).link.rx = s.link.rx := rfl

@[simp] theorem setFeed_link_overflow (f : FeedSet) (s : State) : (setFeed f s).link.overflow = s.link.overflow := rfl

@[simp] theorem setFeed_link_discarded (f : FeedSet) (s : State) : (setFeed f s).link.discarded = s.link.discarded := rfl

@[simp] theorem setFeed_link_replies (f : FeedSet) (s : State) : (setFeed f s).link.replies = s.link.replies := rfl

@[simp] theorem setFeed_link_reports (f : FeedSet) (s : State) : (setFeed f s).link.reports = s.link.reports := rfl

@[simp] theorem setFeed_link_tx (f : FeedSet) (s : State) : (setFeed f s).link.tx = s.link.tx := rfl

@[simp] theorem setFeed_params (f : FeedSet) (s : State) : (setFeed f s).params = s.params := rfl

@[simp] theorem setFeed_estop (f : FeedSet) (s : State) : (setFeed f s).estop = s.estop := rfl

@[simp] theorem setFeed_home (f : FeedSet) (s : State) : (setFeed f s).home = s.home := rfl

@[simp] theorem setFeed_moment (f : FeedSet) (s : State) : (setFeed f s).moment = s.moment := rfl

@[simp] theorem setFeed_freeIndex (f : FeedSet) (s : State) : (setFeed f s).freeIndex = s.freeIndex := rfl

@[simp] theorem setFeed_pending (f : FeedSet) (s : State) : (setFeed f s).pending = s.pending := rfl

/-! ### `newMoment`: a new moment changes the moment alone -/

@[simp] theorem newMoment_stations (s : State) : (newMoment s).stations = s.stations := rfl

@[simp] theorem newMoment_bus (s : State) : (newMoment s).bus = s.bus := rfl

@[simp] theorem newMoment_intake (s : State) : (newMoment s).intake = s.intake := rfl

@[simp] theorem newMoment_versions (s : State) : (newMoment s).versions = s.versions := rfl

@[simp] theorem newMoment_track (s : State) : (newMoment s).track = s.track := rfl

@[simp] theorem newMoment_binding (s : State) : (newMoment s).binding = s.binding := rfl

@[simp] theorem newMoment_step (s : State) : (newMoment s).step = s.step := rfl

@[simp] theorem newMoment_phase (s : State) : (newMoment s).phase = s.phase := rfl

@[simp] theorem newMoment_bundles (s : State) : (newMoment s).bundles = s.bundles := rfl

@[simp] theorem newMoment_line (s : State) : (newMoment s).line = s.line := rfl

@[simp] theorem newMoment_counters (s : State) : (newMoment s).counters = s.counters := rfl

@[simp] theorem newMoment_link (s : State) : (newMoment s).link = s.link := rfl

@[simp] theorem newMoment_params (s : State) : (newMoment s).params = s.params := rfl

@[simp] theorem newMoment_estop (s : State) : (newMoment s).estop = s.estop := rfl

@[simp] theorem newMoment_home (s : State) : (newMoment s).home = s.home := rfl

@[simp] theorem newMoment_freeIndex (s : State) : (newMoment s).freeIndex = s.freeIndex := rfl

@[simp] theorem newMoment_pending (s : State) : (newMoment s).pending = s.pending := rfl

/-! ### `putStation`: a slot's new entry changes the station table alone -/

@[simp] theorem putStation_bus (n : SlotNo) (st : Option Station) (s : State) : (putStation n st s).bus = s.bus := rfl

@[simp] theorem putStation_intake (n : SlotNo) (st : Option Station) (s : State) : (putStation n st s).intake = s.intake := rfl

@[simp] theorem putStation_versions (n : SlotNo) (st : Option Station) (s : State) : (putStation n st s).versions = s.versions := rfl

@[simp] theorem putStation_track (n : SlotNo) (st : Option Station) (s : State) : (putStation n st s).track = s.track := rfl

@[simp] theorem putStation_binding (n : SlotNo) (st : Option Station) (s : State) : (putStation n st s).binding = s.binding := rfl

@[simp] theorem putStation_step (n : SlotNo) (st : Option Station) (s : State) : (putStation n st s).step = s.step := rfl

@[simp] theorem putStation_phase (n : SlotNo) (st : Option Station) (s : State) : (putStation n st s).phase = s.phase := rfl

@[simp] theorem putStation_bundles (n : SlotNo) (st : Option Station) (s : State) : (putStation n st s).bundles = s.bundles := rfl

@[simp] theorem putStation_line (n : SlotNo) (st : Option Station) (s : State) : (putStation n st s).line = s.line := rfl

@[simp] theorem putStation_counters (n : SlotNo) (st : Option Station) (s : State) : (putStation n st s).counters = s.counters := rfl

@[simp] theorem putStation_link (n : SlotNo) (st : Option Station) (s : State) : (putStation n st s).link = s.link := rfl

@[simp] theorem putStation_params (n : SlotNo) (st : Option Station) (s : State) : (putStation n st s).params = s.params := rfl

@[simp] theorem putStation_estop (n : SlotNo) (st : Option Station) (s : State) : (putStation n st s).estop = s.estop := rfl

@[simp] theorem putStation_home (n : SlotNo) (st : Option Station) (s : State) : (putStation n st s).home = s.home := rfl

@[simp] theorem putStation_moment (n : SlotNo) (st : Option Station) (s : State) : (putStation n st s).moment = s.moment := rfl

@[simp] theorem putStation_freeIndex (n : SlotNo) (st : Option Station) (s : State) : (putStation n st s).freeIndex = s.freeIndex := rfl

@[simp] theorem putStation_pending (n : SlotNo) (st : Option Station) (s : State) : (putStation n st s).pending = s.pending := rfl

/-! ### `modifyCell`: a changed cell changes the cells of the track alone -/

@[simp] theorem modifyCell_stations (p : Nat) (f : Cell → Cell) (s : State) : (modifyCell p f s).stations = s.stations := rfl

@[simp] theorem modifyCell_bus (p : Nat) (f : Cell → Cell) (s : State) : (modifyCell p f s).bus = s.bus := rfl

@[simp] theorem modifyCell_intake (p : Nat) (f : Cell → Cell) (s : State) : (modifyCell p f s).intake = s.intake := rfl

@[simp] theorem modifyCell_versions (p : Nat) (f : Cell → Cell) (s : State) : (modifyCell p f s).versions = s.versions := rfl

@[simp] theorem modifyCell_track_nextTag (p : Nat) (f : Cell → Cell) (s : State) : (modifyCell p f s).track.nextTag = s.track.nextTag := rfl

@[simp] theorem modifyCell_track_printJobs (p : Nat) (f : Cell → Cell) (s : State) : (modifyCell p f s).track.printJobs = s.track.printJobs := rfl

@[simp] theorem modifyCell_track_lateCount (p : Nat) (f : Cell → Cell) (s : State) : (modifyCell p f s).track.lateCount = s.track.lateCount := rfl

@[simp] theorem modifyCell_binding (p : Nat) (f : Cell → Cell) (s : State) : (modifyCell p f s).binding = s.binding := rfl

@[simp] theorem modifyCell_step (p : Nat) (f : Cell → Cell) (s : State) : (modifyCell p f s).step = s.step := rfl

@[simp] theorem modifyCell_phase (p : Nat) (f : Cell → Cell) (s : State) : (modifyCell p f s).phase = s.phase := rfl

@[simp] theorem modifyCell_bundles (p : Nat) (f : Cell → Cell) (s : State) : (modifyCell p f s).bundles = s.bundles := rfl

@[simp] theorem modifyCell_line (p : Nat) (f : Cell → Cell) (s : State) : (modifyCell p f s).line = s.line := rfl

@[simp] theorem modifyCell_counters (p : Nat) (f : Cell → Cell) (s : State) : (modifyCell p f s).counters = s.counters := rfl

@[simp] theorem modifyCell_link (p : Nat) (f : Cell → Cell) (s : State) : (modifyCell p f s).link = s.link := rfl

@[simp] theorem modifyCell_params (p : Nat) (f : Cell → Cell) (s : State) : (modifyCell p f s).params = s.params := rfl

@[simp] theorem modifyCell_estop (p : Nat) (f : Cell → Cell) (s : State) : (modifyCell p f s).estop = s.estop := rfl

@[simp] theorem modifyCell_home (p : Nat) (f : Cell → Cell) (s : State) : (modifyCell p f s).home = s.home := rfl

@[simp] theorem modifyCell_moment (p : Nat) (f : Cell → Cell) (s : State) : (modifyCell p f s).moment = s.moment := rfl

@[simp] theorem modifyCell_freeIndex (p : Nat) (f : Cell → Cell) (s : State) : (modifyCell p f s).freeIndex = s.freeIndex := rfl

@[simp] theorem modifyCell_pending (p : Nat) (f : Cell → Cell) (s : State) : (modifyCell p f s).pending = s.pending := rfl

/-! ### `returnCredit`: a returned credit changes the printer's jobs alone -/

@[simp] theorem returnCredit_stations (s : State) : (returnCredit s).stations = s.stations := rfl

@[simp] theorem returnCredit_bus (s : State) : (returnCredit s).bus = s.bus := rfl

@[simp] theorem returnCredit_intake (s : State) : (returnCredit s).intake = s.intake := rfl

@[simp] theorem returnCredit_versions (s : State) : (returnCredit s).versions = s.versions := rfl

@[simp] theorem returnCredit_track_cells (s : State) : (returnCredit s).track.cells = s.track.cells := rfl

@[simp] theorem returnCredit_track_nextTag (s : State) : (returnCredit s).track.nextTag = s.track.nextTag := rfl

@[simp] theorem returnCredit_track_lateCount (s : State) : (returnCredit s).track.lateCount = s.track.lateCount := rfl

@[simp] theorem returnCredit_binding (s : State) : (returnCredit s).binding = s.binding := rfl

@[simp] theorem returnCredit_step (s : State) : (returnCredit s).step = s.step := rfl

@[simp] theorem returnCredit_phase (s : State) : (returnCredit s).phase = s.phase := rfl

@[simp] theorem returnCredit_bundles (s : State) : (returnCredit s).bundles = s.bundles := rfl

@[simp] theorem returnCredit_line (s : State) : (returnCredit s).line = s.line := rfl

@[simp] theorem returnCredit_counters (s : State) : (returnCredit s).counters = s.counters := rfl

@[simp] theorem returnCredit_link (s : State) : (returnCredit s).link = s.link := rfl

@[simp] theorem returnCredit_params (s : State) : (returnCredit s).params = s.params := rfl

@[simp] theorem returnCredit_estop (s : State) : (returnCredit s).estop = s.estop := rfl

@[simp] theorem returnCredit_home (s : State) : (returnCredit s).home = s.home := rfl

@[simp] theorem returnCredit_moment (s : State) : (returnCredit s).moment = s.moment := rfl

@[simp] theorem returnCredit_freeIndex (s : State) : (returnCredit s).freeIndex = s.freeIndex := rfl

@[simp] theorem returnCredit_pending (s : State) : (returnCredit s).pending = s.pending := rfl

/-! ### `setQueue`: a changed queue changes the intake queue alone -/

@[simp] theorem setQueue_stations (q : List Record) (s : State) : (setQueue q s).stations = s.stations := rfl

@[simp] theorem setQueue_bus (q : List Record) (s : State) : (setQueue q s).bus = s.bus := rfl

@[simp] theorem setQueue_versions (q : List Record) (s : State) : (setQueue q s).versions = s.versions := rfl

@[simp] theorem setQueue_track (q : List Record) (s : State) : (setQueue q s).track = s.track := rfl

@[simp] theorem setQueue_binding (q : List Record) (s : State) : (setQueue q s).binding = s.binding := rfl

@[simp] theorem setQueue_step (q : List Record) (s : State) : (setQueue q s).step = s.step := rfl

@[simp] theorem setQueue_phase (q : List Record) (s : State) : (setQueue q s).phase = s.phase := rfl

@[simp] theorem setQueue_bundles (q : List Record) (s : State) : (setQueue q s).bundles = s.bundles := rfl

@[simp] theorem setQueue_line (q : List Record) (s : State) : (setQueue q s).line = s.line := rfl

@[simp] theorem setQueue_counters (q : List Record) (s : State) : (setQueue q s).counters = s.counters := rfl

@[simp] theorem setQueue_link (q : List Record) (s : State) : (setQueue q s).link = s.link := rfl

@[simp] theorem setQueue_params (q : List Record) (s : State) : (setQueue q s).params = s.params := rfl

@[simp] theorem setQueue_estop (q : List Record) (s : State) : (setQueue q s).estop = s.estop := rfl

@[simp] theorem setQueue_home (q : List Record) (s : State) : (setQueue q s).home = s.home := rfl

@[simp] theorem setQueue_moment (q : List Record) (s : State) : (setQueue q s).moment = s.moment := rfl

@[simp] theorem setQueue_freeIndex (q : List Record) (s : State) : (setQueue q s).freeIndex = s.freeIndex := rfl

@[simp] theorem setQueue_pending (q : List Record) (s : State) : (setQueue q s).pending = s.pending := rfl

/-! ### `setRefCount`: a changed reference count changes the version table alone -/

@[simp] theorem setRefCount_stations (v : Fin 32) (f : Nat → Nat) (s : State) : (setRefCount v f s).stations = s.stations := rfl

@[simp] theorem setRefCount_bus (v : Fin 32) (f : Nat → Nat) (s : State) : (setRefCount v f s).bus = s.bus := rfl

@[simp] theorem setRefCount_intake (v : Fin 32) (f : Nat → Nat) (s : State) : (setRefCount v f s).intake = s.intake := rfl

@[simp] theorem setRefCount_track (v : Fin 32) (f : Nat → Nat) (s : State) : (setRefCount v f s).track = s.track := rfl

@[simp] theorem setRefCount_binding (v : Fin 32) (f : Nat → Nat) (s : State) : (setRefCount v f s).binding = s.binding := rfl

@[simp] theorem setRefCount_step (v : Fin 32) (f : Nat → Nat) (s : State) : (setRefCount v f s).step = s.step := rfl

@[simp] theorem setRefCount_phase (v : Fin 32) (f : Nat → Nat) (s : State) : (setRefCount v f s).phase = s.phase := rfl

@[simp] theorem setRefCount_bundles (v : Fin 32) (f : Nat → Nat) (s : State) : (setRefCount v f s).bundles = s.bundles := rfl

@[simp] theorem setRefCount_line (v : Fin 32) (f : Nat → Nat) (s : State) : (setRefCount v f s).line = s.line := rfl

@[simp] theorem setRefCount_counters (v : Fin 32) (f : Nat → Nat) (s : State) : (setRefCount v f s).counters = s.counters := rfl

@[simp] theorem setRefCount_link (v : Fin 32) (f : Nat → Nat) (s : State) : (setRefCount v f s).link = s.link := rfl

@[simp] theorem setRefCount_params (v : Fin 32) (f : Nat → Nat) (s : State) : (setRefCount v f s).params = s.params := rfl

@[simp] theorem setRefCount_estop (v : Fin 32) (f : Nat → Nat) (s : State) : (setRefCount v f s).estop = s.estop := rfl

@[simp] theorem setRefCount_home (v : Fin 32) (f : Nat → Nat) (s : State) : (setRefCount v f s).home = s.home := rfl

@[simp] theorem setRefCount_moment (v : Fin 32) (f : Nat → Nat) (s : State) : (setRefCount v f s).moment = s.moment := rfl

@[simp] theorem setRefCount_freeIndex (v : Fin 32) (f : Nat → Nat) (s : State) : (setRefCount v f s).freeIndex = s.freeIndex := rfl

@[simp] theorem setRefCount_pending (v : Fin 32) (f : Nat → Nat) (s : State) : (setRefCount v f s).pending = s.pending := rfl

/-! ### `withdraw`: a withdrawn command changes the transmit queue alone -/

@[simp] theorem withdraw_stations (n : SlotNo) (t : Tag) (s : State) : (withdraw n t s).stations = s.stations := rfl

@[simp] theorem withdraw_bus_pollPointer (n : SlotNo) (t : Tag) (s : State) : (withdraw n t s).bus.pollPointer = s.bus.pollPointer := rfl

@[simp] theorem withdraw_bus_inProgress (n : SlotNo) (t : Tag) (s : State) : (withdraw n t s).bus.inProgress = s.bus.inProgress := rfl

@[simp] theorem withdraw_intake (n : SlotNo) (t : Tag) (s : State) : (withdraw n t s).intake = s.intake := rfl

@[simp] theorem withdraw_versions (n : SlotNo) (t : Tag) (s : State) : (withdraw n t s).versions = s.versions := rfl

@[simp] theorem withdraw_track (n : SlotNo) (t : Tag) (s : State) : (withdraw n t s).track = s.track := rfl

@[simp] theorem withdraw_binding (n : SlotNo) (t : Tag) (s : State) : (withdraw n t s).binding = s.binding := rfl

@[simp] theorem withdraw_step (n : SlotNo) (t : Tag) (s : State) : (withdraw n t s).step = s.step := rfl

@[simp] theorem withdraw_phase (n : SlotNo) (t : Tag) (s : State) : (withdraw n t s).phase = s.phase := rfl

@[simp] theorem withdraw_bundles (n : SlotNo) (t : Tag) (s : State) : (withdraw n t s).bundles = s.bundles := rfl

@[simp] theorem withdraw_line (n : SlotNo) (t : Tag) (s : State) : (withdraw n t s).line = s.line := rfl

@[simp] theorem withdraw_counters (n : SlotNo) (t : Tag) (s : State) : (withdraw n t s).counters = s.counters := rfl

@[simp] theorem withdraw_link (n : SlotNo) (t : Tag) (s : State) : (withdraw n t s).link = s.link := rfl

@[simp] theorem withdraw_params (n : SlotNo) (t : Tag) (s : State) : (withdraw n t s).params = s.params := rfl

@[simp] theorem withdraw_estop (n : SlotNo) (t : Tag) (s : State) : (withdraw n t s).estop = s.estop := rfl

@[simp] theorem withdraw_home (n : SlotNo) (t : Tag) (s : State) : (withdraw n t s).home = s.home := rfl

@[simp] theorem withdraw_moment (n : SlotNo) (t : Tag) (s : State) : (withdraw n t s).moment = s.moment := rfl

@[simp] theorem withdraw_freeIndex (n : SlotNo) (t : Tag) (s : State) : (withdraw n t s).freeIndex = s.freeIndex := rfl

@[simp] theorem withdraw_pending (n : SlotNo) (t : Tag) (s : State) : (withdraw n t s).pending = s.pending := rfl

/-! ### `freeBus`: a frame's end changes the frame in progress alone -/

@[simp] theorem freeBus_stations (s : State) : (freeBus s).stations = s.stations := rfl

@[simp] theorem freeBus_bus_txQueue (s : State) : (freeBus s).bus.txQueue = s.bus.txQueue := rfl

@[simp] theorem freeBus_bus_pollPointer (s : State) : (freeBus s).bus.pollPointer = s.bus.pollPointer := rfl

@[simp] theorem freeBus_intake (s : State) : (freeBus s).intake = s.intake := rfl

@[simp] theorem freeBus_versions (s : State) : (freeBus s).versions = s.versions := rfl

@[simp] theorem freeBus_track (s : State) : (freeBus s).track = s.track := rfl

@[simp] theorem freeBus_binding (s : State) : (freeBus s).binding = s.binding := rfl

@[simp] theorem freeBus_step (s : State) : (freeBus s).step = s.step := rfl

@[simp] theorem freeBus_phase (s : State) : (freeBus s).phase = s.phase := rfl

@[simp] theorem freeBus_bundles (s : State) : (freeBus s).bundles = s.bundles := rfl

@[simp] theorem freeBus_line (s : State) : (freeBus s).line = s.line := rfl

@[simp] theorem freeBus_counters (s : State) : (freeBus s).counters = s.counters := rfl

@[simp] theorem freeBus_link (s : State) : (freeBus s).link = s.link := rfl

@[simp] theorem freeBus_params (s : State) : (freeBus s).params = s.params := rfl

@[simp] theorem freeBus_estop (s : State) : (freeBus s).estop = s.estop := rfl

@[simp] theorem freeBus_home (s : State) : (freeBus s).home = s.home := rfl

@[simp] theorem freeBus_moment (s : State) : (freeBus s).moment = s.moment := rfl

@[simp] theorem freeBus_freeIndex (s : State) : (freeBus s).freeIndex = s.freeIndex := rfl

@[simp] theorem freeBus_pending (s : State) : (freeBus s).pending = s.pending := rfl

/-! ### `dropHead`: a taken entry changes the receive queue alone -/

@[simp] theorem dropHead_stations (s : State) : (dropHead s).stations = s.stations := rfl

@[simp] theorem dropHead_bus (s : State) : (dropHead s).bus = s.bus := rfl

@[simp] theorem dropHead_intake (s : State) : (dropHead s).intake = s.intake := rfl

@[simp] theorem dropHead_versions (s : State) : (dropHead s).versions = s.versions := rfl

@[simp] theorem dropHead_track (s : State) : (dropHead s).track = s.track := rfl

@[simp] theorem dropHead_binding (s : State) : (dropHead s).binding = s.binding := rfl

@[simp] theorem dropHead_step (s : State) : (dropHead s).step = s.step := rfl

@[simp] theorem dropHead_phase (s : State) : (dropHead s).phase = s.phase := rfl

@[simp] theorem dropHead_bundles (s : State) : (dropHead s).bundles = s.bundles := rfl

@[simp] theorem dropHead_line (s : State) : (dropHead s).line = s.line := rfl

@[simp] theorem dropHead_counters (s : State) : (dropHead s).counters = s.counters := rfl

@[simp] theorem dropHead_link_receiver (s : State) : (dropHead s).link.receiver = s.link.receiver := rfl

@[simp] theorem dropHead_link_overflow (s : State) : (dropHead s).link.overflow = s.link.overflow := rfl

@[simp] theorem dropHead_link_discarded (s : State) : (dropHead s).link.discarded = s.link.discarded := rfl

@[simp] theorem dropHead_link_replies (s : State) : (dropHead s).link.replies = s.link.replies := rfl

@[simp] theorem dropHead_link_reports (s : State) : (dropHead s).link.reports = s.link.reports := rfl

@[simp] theorem dropHead_link_notices (s : State) : (dropHead s).link.notices = s.link.notices := rfl

@[simp] theorem dropHead_link_tx (s : State) : (dropHead s).link.tx = s.link.tx := rfl

@[simp] theorem dropHead_params (s : State) : (dropHead s).params = s.params := rfl

@[simp] theorem dropHead_estop (s : State) : (dropHead s).estop = s.estop := rfl

@[simp] theorem dropHead_home (s : State) : (dropHead s).home = s.home := rfl

@[simp] theorem dropHead_moment (s : State) : (dropHead s).moment = s.moment := rfl

@[simp] theorem dropHead_freeIndex (s : State) : (dropHead s).freeIndex = s.freeIndex := rfl

@[simp] theorem dropHead_pending (s : State) : (dropHead s).pending = s.pending := rfl

/-! ### `queueReply`: a reply changes the reply queue alone -/

@[simp] theorem queueReply_stations (r : Reply) (s : State) : (queueReply r s).stations = s.stations := rfl

@[simp] theorem queueReply_bus (r : Reply) (s : State) : (queueReply r s).bus = s.bus := rfl

@[simp] theorem queueReply_intake (r : Reply) (s : State) : (queueReply r s).intake = s.intake := rfl

@[simp] theorem queueReply_versions (r : Reply) (s : State) : (queueReply r s).versions = s.versions := rfl

@[simp] theorem queueReply_track (r : Reply) (s : State) : (queueReply r s).track = s.track := rfl

@[simp] theorem queueReply_binding (r : Reply) (s : State) : (queueReply r s).binding = s.binding := rfl

@[simp] theorem queueReply_step (r : Reply) (s : State) : (queueReply r s).step = s.step := rfl

@[simp] theorem queueReply_phase (r : Reply) (s : State) : (queueReply r s).phase = s.phase := rfl

@[simp] theorem queueReply_bundles (r : Reply) (s : State) : (queueReply r s).bundles = s.bundles := rfl

@[simp] theorem queueReply_line (r : Reply) (s : State) : (queueReply r s).line = s.line := rfl

@[simp] theorem queueReply_counters (r : Reply) (s : State) : (queueReply r s).counters = s.counters := rfl

@[simp] theorem queueReply_link_receiver (r : Reply) (s : State) : (queueReply r s).link.receiver = s.link.receiver := rfl

@[simp] theorem queueReply_link_rx (r : Reply) (s : State) : (queueReply r s).link.rx = s.link.rx := rfl

@[simp] theorem queueReply_link_overflow (r : Reply) (s : State) : (queueReply r s).link.overflow = s.link.overflow := rfl

@[simp] theorem queueReply_link_discarded (r : Reply) (s : State) : (queueReply r s).link.discarded = s.link.discarded := rfl

@[simp] theorem queueReply_link_reports (r : Reply) (s : State) : (queueReply r s).link.reports = s.link.reports := rfl

@[simp] theorem queueReply_link_notices (r : Reply) (s : State) : (queueReply r s).link.notices = s.link.notices := rfl

@[simp] theorem queueReply_link_tx (r : Reply) (s : State) : (queueReply r s).link.tx = s.link.tx := rfl

@[simp] theorem queueReply_params (r : Reply) (s : State) : (queueReply r s).params = s.params := rfl

@[simp] theorem queueReply_estop (r : Reply) (s : State) : (queueReply r s).estop = s.estop := rfl

@[simp] theorem queueReply_home (r : Reply) (s : State) : (queueReply r s).home = s.home := rfl

@[simp] theorem queueReply_moment (r : Reply) (s : State) : (queueReply r s).moment = s.moment := rfl

@[simp] theorem queueReply_freeIndex (r : Reply) (s : State) : (queueReply r s).freeIndex = s.freeIndex := rfl

@[simp] theorem queueReply_pending (r : Reply) (s : State) : (queueReply r s).pending = s.pending := rfl

/-! ### `transmit`: a frame sent changes the transmitter alone -/

@[simp] theorem transmit_stations (frame : List Byte) (s : State) : (transmit frame s).stations = s.stations := rfl

@[simp] theorem transmit_bus (frame : List Byte) (s : State) : (transmit frame s).bus = s.bus := rfl

@[simp] theorem transmit_intake (frame : List Byte) (s : State) : (transmit frame s).intake = s.intake := rfl

@[simp] theorem transmit_versions (frame : List Byte) (s : State) : (transmit frame s).versions = s.versions := rfl

@[simp] theorem transmit_track (frame : List Byte) (s : State) : (transmit frame s).track = s.track := rfl

@[simp] theorem transmit_binding (frame : List Byte) (s : State) : (transmit frame s).binding = s.binding := rfl

@[simp] theorem transmit_step (frame : List Byte) (s : State) : (transmit frame s).step = s.step := rfl

@[simp] theorem transmit_phase (frame : List Byte) (s : State) : (transmit frame s).phase = s.phase := rfl

@[simp] theorem transmit_bundles (frame : List Byte) (s : State) : (transmit frame s).bundles = s.bundles := rfl

@[simp] theorem transmit_line (frame : List Byte) (s : State) : (transmit frame s).line = s.line := rfl

@[simp] theorem transmit_counters (frame : List Byte) (s : State) : (transmit frame s).counters = s.counters := rfl

@[simp] theorem transmit_link_receiver (frame : List Byte) (s : State) : (transmit frame s).link.receiver = s.link.receiver := rfl

@[simp] theorem transmit_link_rx (frame : List Byte) (s : State) : (transmit frame s).link.rx = s.link.rx := rfl

@[simp] theorem transmit_link_overflow (frame : List Byte) (s : State) : (transmit frame s).link.overflow = s.link.overflow := rfl

@[simp] theorem transmit_link_discarded (frame : List Byte) (s : State) : (transmit frame s).link.discarded = s.link.discarded := rfl

@[simp] theorem transmit_link_replies (frame : List Byte) (s : State) : (transmit frame s).link.replies = s.link.replies := rfl

@[simp] theorem transmit_link_reports (frame : List Byte) (s : State) : (transmit frame s).link.reports = s.link.reports := rfl

@[simp] theorem transmit_link_notices (frame : List Byte) (s : State) : (transmit frame s).link.notices = s.link.notices := rfl

@[simp] theorem transmit_params (frame : List Byte) (s : State) : (transmit frame s).params = s.params := rfl

@[simp] theorem transmit_estop (frame : List Byte) (s : State) : (transmit frame s).estop = s.estop := rfl

@[simp] theorem transmit_home (frame : List Byte) (s : State) : (transmit frame s).home = s.home := rfl

@[simp] theorem transmit_moment (frame : List Byte) (s : State) : (transmit frame s).moment = s.moment := rfl

@[simp] theorem transmit_freeIndex (frame : List Byte) (s : State) : (transmit frame s).freeIndex = s.freeIndex := rfl

@[simp] theorem transmit_pending (frame : List Byte) (s : State) : (transmit frame s).pending = s.pending := rfl

end Sys2Proof.Machine
end

