-- ==== Sys2Proof/Laws/Announce.lean ====
section
/-! SUPPORT. What raising a notice, and adding or removing a cause of the suppression set, can do: they
change the notice set, and the set, alone. -/

namespace Sys2Proof.Machine

/-- From s to t nothing has changed but the suppression set and the notice set. -/
def Announces (s t : State) : Prop :=
  t = { s with line := { s.line with feed := t.line.feed }, link := { s.link with notices := t.link.notices } }

theorem Announces.refl (s : State) : Announces s s := rfl

theorem Announces.trans {s t u : State} (h : Announces s t) (k : Announces t u) : Announces s u := by
  unfold Announces at *
  rw [k, h]

theorem announces_raise (n : Notice) (s : State) : Announces s (raise n s) := rfl

theorem announces_setFeed (f : FeedSet) (s : State) : Announces s (setFeed f s) := rfl

/-! ### The suppression set -/

/-- The number of a cause's bit (R200). -/
theorem FeedCause.bit_val (c : FeedCause) : c.bit.val = match c with
    | .hostHold => 0
    | .stopPoint => 1
    | .step => 2
    | .phase => 3
    | .backlog => 4
    | .station n => 5 + n.val
    | .counter n => 21 + n.val := by
  cases c <;> rfl

theorem FeedCause.bit_injective {c d : FeedCause} (h : c.bit = d.bit) : c = d := by
  have hv : c.bit.val = d.bit.val := congrArg Fin.val h
  rw [FeedCause.bit_val, FeedCause.bit_val] at hv
  cases c <;> cases d <;> simp only [reduceCtorEq, FeedCause.station.injEq, FeedCause.counter.injEq, Fin.ext_iff] at hv ⊢ <;> omega

/-- Putting a cause in or out of the set is seen in that cause alone. -/
theorem FeedSet.has_put (f : FeedSet) (c d : FeedCause) (b : Bool) :
    (f.put c b).has d = if d = c then b else f.has d := by
  by_cases h : d = c
  · subst h
    simp [FeedSet.put, FeedSet.has]
  · have hne : c.bit.val ≠ d.bit.val := fun e => h (FeedCause.bit_injective (Fin.ext e.symm))
    simp [FeedSet.put, FeedSet.has, h, Vector.getElem_set_ne _ _ hne]

/-- Putting a cause as it stands changes nothing. -/
theorem FeedSet.put_same (f : FeedSet) (c : FeedCause) : f.put c (f.has c) = f := by
  simp [FeedSet.put, FeedSet.has]

theorem FeedSet.has_empty (c : FeedCause) : FeedSet.empty.has c = false := by
  simp [FeedSet.empty, FeedSet.has]

/-- No cause stands in the set exactly when it is empty (R70). -/
theorem FeedSet.isEmpty_iff (f : FeedSet) : f.isEmpty = true ↔ ∀ c : FeedCause, f.has c = false := by
  have reached : ∀ i : Fin 29, ∃ c : FeedCause, c.bit = i := by
    intro i
    by_cases h4 : i.val ≤ 4
    · have : i = 0 ∨ i = 1 ∨ i = 2 ∨ i = 3 ∨ i = 4 := by omega
      rcases this with rfl | rfl | rfl | rfl | rfl
      exacts [⟨.hostHold, rfl⟩, ⟨.stopPoint, rfl⟩, ⟨.step, rfl⟩, ⟨.phase, rfl⟩, ⟨.backlog, rfl⟩]
    · by_cases h20 : i.val ≤ 20
      · exact ⟨.station ⟨i.val - 5, by omega⟩, Fin.ext (by simp [FeedCause.bit]; omega)⟩
      · exact ⟨.counter ⟨i.val - 21, by omega⟩, Fin.ext (by simp [FeedCause.bit]; omega)⟩
  constructor
  · intro h c
    simpa [FeedSet.isEmpty, FeedSet.has] using (List.all_eq_true.mp h) c.bit (List.mem_finRange _)
  · intro h
    refine List.all_eq_true.mpr fun i _ => ?_
    obtain ⟨c, rfl⟩ := reached i
    simpa [FeedSet.has] using h c

/-! ### Causes -/

theorem announces_addCause (c : FeedCause) (s : State) : Announces s (addCause c s) := by
  unfold addCause
  split
  · exact Announces.refl s
  · exact announces_setFeed _ _

theorem announces_removeCause (c : FeedCause) (s : State) : Announces s (removeCause c s) := by
  unfold removeCause
  split
  · exact announces_setFeed _ _
  · exact Announces.refl s

theorem announces_putCause (c : FeedCause) (b : Bool) (s : State) : Announces s (putCause c b s) := by
  cases b
  · exact announces_removeCause c s
  · exact announces_addCause c s

/-- The whole set after a cause is handed (R169). -/
theorem putCause_feed (c : FeedCause) (b : Bool) (s : State) :
    (putCause c b s).line.feed = s.line.feed.put c b := by
  by_cases h : s.line.feed.has c = b
  · subst h
    rw [FeedSet.put_same]
    cases h : s.line.feed.has c <;> simp [putCause, addCause, removeCause, h]
  · cases b <;> simp_all [putCause, addCause, removeCause, setFeed]

theorem addCause_feed (c : FeedCause) (s : State) : (addCause c s).line.feed = s.line.feed.put c true :=
  putCause_feed c true s

theorem removeCause_feed (c : FeedCause) (s : State) : (removeCause c s).line.feed = s.line.feed.put c false :=
  putCause_feed c false s

theorem putCause_has (c d : FeedCause) (b : Bool) (s : State) :
    (putCause c b s).line.feed.has d = if d = c then b else s.line.feed.has d := by
  rw [putCause_feed, FeedSet.has_put]

theorem addCause_has (c d : FeedCause) (s : State) :
    (addCause c s).line.feed.has d = if d = c then true else s.line.feed.has d := putCause_has c d true s

theorem removeCause_has (c d : FeedCause) (s : State) :
    (removeCause c s).line.feed.has d = if d = c then false else s.line.feed.has d := putCause_has c d false s

/-! ### The notice set (R196) -/

theorem raise_notice (n : Notice) (s : State) :
    (raise n s).link.notices[n.slot] = some (PendingNotice.renew s.link.notices[n.slot] n s.moment) := by
  simp [raise]

theorem raise_notice_other (n : Notice) (s : State) (i : Fin 33) (h : i ≠ n.slot) :
    (raise n s).link.notices[i] = s.link.notices[i] := by
  have hne : n.slot.val ≠ i.val := fun e => h (Fin.ext e.symm)
  simp [raise, Vector.getElem_set_ne _ _ hne]

theorem noticed_raise (n : Notice) (s : State) : Noticed (raise n s) n.slot n := by
  unfold Noticed
  rw [raise_notice]
  rfl

/-- A notice of another slot leaves what stands in a slot. -/
theorem noticed_raise_other {n m : Notice} {s : State} {i : Fin 33} (h : i ≠ m.slot) (k : Noticed s i n) :
    Noticed (raise m s) i n := by
  unfold Noticed at *
  rw [raise_notice_other m s i h]
  exact k

/-- A cause handed leaves every notice but the FEED notice. -/
theorem putCause_notice_other (c : FeedCause) (b : Bool) (s : State) (i : Fin 33) (h : i ≠ 1) :
    (putCause c b s).link.notices[i] = s.link.notices[i] := by
  cases b <;> simp only [putCause, addCause, removeCause, setFeed, Bool.false_eq_true, if_true, if_false]
  all_goals split
  all_goals first
    | rfl
    | exact raise_notice_other (.feed _) _ i h

end Sys2Proof.Machine
end

