-- ==== Sys2Proof/Laws/Tally.lean ====
section
/-! SUPPORT. What handing an event to the tally counters, and queueing a report, can do. -/

namespace Sys2Proof.Machine

/-- From s to t nothing has changed but the counter block, the suppression set and the notice set. -/
def Tallies (s t : State) : Prop :=
  t = { s with
    counters := t.counters
    line := { s.line with feed := t.line.feed }
    link := { s.link with notices := t.link.notices } }

theorem Tallies.refl (s : State) : Tallies s s := rfl

theorem Tallies.trans {s t u : State} (h : Tallies s t) (k : Tallies t u) : Tallies s u := by
  unfold Tallies at *
  rw [k, h]

theorem Announces.tallies {s t : State} (h : Announces s t) : Tallies s t := by
  unfold Announces at h
  unfold Tallies
  rw [h]

theorem Announces.counters_eq {s t : State} (h : Announces s t) : t.counters = s.counters := by
  unfold Announces at h
  rw [h]

/-- Announcing a counter leaves the counter block. -/
theorem announces_announceCounter (before : Vector Counter 8) (s : State) (i : Fin 8) :
    Announces s (announceCounter before s i) := by
  unfold announceCounter
  dsimp only
  split
  · split
    · exact (announces_raise _ _).trans (announces_addCause _ _)
    · exact announces_raise _ _
  · exact Announces.refl s

theorem announces_announceCounters (before : Vector Counter 8) (l : List (Fin 8)) (s : State) :
    Announces s (l.foldl (announceCounter before) s) := by
  induction l generalizing s with
  | nil => exact Announces.refl s
  | cons i l ih => exact (announces_announceCounter before s i).trans (ih _)

/-- The counter block after an event handed with a slot or none (R185 to R189), which the block before it
and COUNTER_FREEZE decide. -/
def blockAfter (e : TallyEvent) (slot : Option SlotNo) (freeze : Nat) (c : Counters) : Counters :=
  if c.frozen then c
  else
    let hits := reached e slot c.all
    let freezes := freeze == 1 && !hits.isEmpty
    { all := countersAfter e slot c.all, frozen := freezes, source := if freezes then hits.head? else c.source }

theorem tally_counters (e : TallyEvent) (slot : Option SlotNo) (s : State) :
    (tally e slot s).counters = blockAfter e slot s.params.counterFreeze s.counters := by
  unfold tally blockAfter
  split
  · rfl
  · exact (announces_announceCounters _ _ _).counters_eq

/-- The counters after an event are those of any state with the same block and parameters. -/
theorem tally_counters_congr {s t : State} (e : TallyEvent) (slot : Option SlotNo) (h : s.counters = t.counters)
    (k : s.params = t.params) : (tally e slot s).counters = (tally e slot t).counters := by
  rw [tally_counters, tally_counters, h, k]

theorem tallies_tally (e : TallyEvent) (slot : Option SlotNo) (s : State) : Tallies s (tally e slot s) := by
  unfold tally
  split
  · exact Tallies.refl s
  · refine Tallies.trans ?_ (announces_announceCounters _ _ _).tallies
    rfl

/-- An event changes no cause but those of the counters. -/
theorem announceCounter_has (before : Vector Counter 8) (s : State) (i : Fin 8) (c : FeedCause)
    (h : ∀ j, c ≠ .counter j) : (announceCounter before s i).line.feed.has c = s.line.feed.has c := by
  unfold announceCounter
  dsimp only
  split
  · split
    · rw [addCause_has, if_neg (h i)]
      rfl
    · rfl
  · rfl

theorem tally_has (e : TallyEvent) (slot : Option SlotNo) (s : State) (c : FeedCause) (h : ∀ j, c ≠ .counter j) :
    (tally e slot s).line.feed.has c = s.line.feed.has c := by
  have folded : ∀ (before : Vector Counter 8) (l : List (Fin 8)) (u : State),
      (l.foldl (announceCounter before) u).line.feed.has c = u.line.feed.has c := by
    intro before l
    induction l with
    | nil => exact fun u => rfl
    | cons i l ih => exact fun u => (ih _).trans (announceCounter_has before u i c h)
  unfold tally
  split
  · rfl
  · exact folded _ _ _

/-- A counter that has started stays so at an event (R188). -/
theorem tally_started (e : TallyEvent) (slot : Option SlotNo) (s : State) (i : Fin 8)
    (h : (s.counters.all[i]).started = true) : ((tally e slot s).counters.all[i]).started = true := by
  have taking : ∀ c : Counter, c.started = true → (c.taking e slot).started = true := by
    intro c hc
    unfold Counter.taking
    split <;> exact hc
  have starting : ∀ c : Counter, c.started = true → c.starting.started = true := by
    intro c hc
    unfold Counter.starting
    split
    · rfl
    · exact hc
  rw [tally_counters]
  unfold blockAfter
  split
  · exact h
  · simp only [countersAfter, Fin.getElem_fin, Vector.getElem_ofFn]
    split
    · exact starting _ (taking _ h)
    · exact taking _ h

/-- The move of the windows changes the eight counters alone (R187). -/
theorem tallyAdvance_eq (s : State) :
    tallyAdvance s = { tally .pitchAdvances none s with
      counters := { (tally .pitchAdvances none s).counters with all := (tallyAdvance s).counters.all } } := by
  unfold tallyAdvance moveWindows
  split <;> rfl

/-! ### Reports (R197) -/

/-- A report changes the report queue, and with BACKLOG the suppression set and the notice set, alone. -/
theorem queueReport_eq (r : Report) (s : State) :
    queueReport r s = { s with
      line := { s.line with feed := (queueReport r s).line.feed }
      link := { s.link with reports := s.link.reports ++ [r], notices := (queueReport r s).link.notices } } := by
  unfold queueReport
  dsimp only
  split
  · exact announces_addCause .backlog { s with link := { s.link with reports := s.link.reports ++ [r] } }
  · rfl

theorem queueReport_has (r : Report) (s : State) (c : FeedCause) :
    (queueReport r s).line.feed.has c
      = if c = .backlog ∧ s.link.reports.length = 63 then true else s.line.feed.has c := by
  unfold queueReport
  dsimp only
  by_cases h : s.link.reports.length = 63
  · simp [h, addCause_has]
  · simp [h]

end Sys2Proof.Machine
end

