-- ==== Sys2Proof/Laws/Stations.lean ====
section
/-! SUPPORT. What a change of a station can do: the counts that a result moves change no usability of a
disposing station, so that no result hands a fault by itself (R7, R8, R15). -/

namespace Sys2Proof.Machine

theorem stationAt_putStation (n : SlotNo) (st : Option Station) (s : State) : stationAt (putStation n st s) n = st := by
  simp [stationAt, putStation]

theorem stationAt_putStation_other {n m : SlotNo} (h : m ≠ n) (st : Option Station) (s : State) :
    stationAt (putStation n st s) m = stationAt s m := by
  have hne : n.val ≠ m.val := fun e => h (Fin.ext e.symm)
  simp [stationAt, putStation, Vector.getElem_set_ne _ _ hne]

theorem updateStation_of {n : SlotNo} {st : Station} {s : State} (h : stationAt s n = some st) (f : Station → Station) :
    updateStation n f s = stationChanged n st (f st) s := by
  unfold updateStation
  rw [h]

/-- A change that hands no fault changes the slot's entry, the suppression set and the notice set alone. -/
theorem stationChanged_quiet {n : SlotNo} {old new : Station} {s : State} (h : faultingChange old new = false) :
    Announces (putStation n (some new) s) (stationChanged n old new s) := by
  unfold stationChanged
  dsimp only
  split
  · exact Announces.refl _
  · rw [if_neg (by simp [h])]
    split
    · exact (announces_raise _ _).trans (announces_putCause _ _ _)
    · exact announces_raise _ _

/-- A result moves counts and health alone. -/
theorem afterResult_fixed (o : StationOutcome) (st : Station) :
    (st.afterResult o).role = st.role ∧ (st.afterResult o).recorded = st.recorded ∧ (st.afterResult o).address = st.address
      ∧ (st.afterResult o).position = st.position ∧ (st.afterResult o).lastReported = st.lastReported := by
  unfold Station.afterResult
  split
  · exact ⟨rfl, rfl, rfl, rfl, rfl⟩
  · split
    · exact ⟨rfl, rfl, rfl, rfl, rfl⟩
    · split <;> exact ⟨rfl, rfl, rfl, rfl, rfl⟩

/-- A disposing station has no fault outcomes, so that a result leaves its health (R7). -/
theorem afterResult_health_disposing (o : StationOutcome) (st : Station) (h : st.role.feeding = false) :
    (st.afterResult o).health = st.health := by
  have hf : st.role.faultOutcome o = false := by
    cases hr : st.role <;> simp_all [Role.feeding, Role.faultOutcome]
  unfold Station.afterResult
  split
  · rfl
  · rw [hf]
    simp only [Bool.false_eq_true, if_false]
    split <;> rfl

theorem afterResult_quiet (o : StationOutcome) (st : Station) : faultingChange st (st.afterResult o) = false := by
  obtain ⟨hrole, hrec, -⟩ := afterResult_fixed o st
  unfold faultingChange Station.usable
  rw [hrole, hrec]
  cases hf : st.role.feeding
  · rw [afterResult_health_disposing o st hf]
    cases st.health <;> cases st.recorded <;> simp
  · simp [Role.disposing, hf]

/-- The station table takes a result: the entry of its slot, the suppression set and the notice set change
alone. -/
theorem countResult_quiet {n : SlotNo} {st : Station} {s : State} (h : stationAt s n = some st) (o : StationOutcome) :
    Announces (putStation n (some (st.afterResult o)) s) (countResult n o s) := by
  unfold countResult
  rw [updateStation_of h]
  exact stationChanged_quiet (afterResult_quiet o st)

end Sys2Proof.Machine
end

