-- ==== Sys2Proof/Laws/Line.lean ====
section
/-! SUPPORT. What taking a fault and changing the line state can do (R178, R179, R182). -/

namespace Sys2Proof.Machine

theorem changeLine_eq (l : Line) (s : State) :
    changeLine l s = { s with line := l, link := { s.link with notices := (changeLine l s).link.notices } } := rfl

theorem noticed_changeLine (l : Line) (s : State) : Noticed (changeLine l s) 0 (lineNotice s.line.state l) :=
  noticed_raise (lineNotice s.line.state l) { s with line := l }

theorem issueDrive_eq (o : BusOrder) (s : State) :
    issueDrive o s = { s with bus := { s.bus with txQueue := (issueDrive o s).bus.txQueue } } := by
  unfold issueDrive
  split <;> rfl

/-- A fault changes the line, the transmit queue and the notice set alone. -/
theorem handFault_eq (k : FaultCause) (s : State) :
    handFault k s = { s with
      line := (handFault k s).line
      bus := { s.bus with txQueue := (handFault k s).bus.txQueue }
      link := { s.link with notices := (handFault k s).link.notices } } := by
  unfold handFault
  split
  · rfl
  · unfold enterFaulted
    dsimp only
    split
    · rw [changeLine_eq, issueDrive_eq]
    · rfl

/-- A fault leaves the suppression set. -/
theorem handFault_feed (k : FaultCause) (s : State) : (handFault k s).line.feed = s.line.feed := by
  unfold handFault
  split
  · rfl
  · unfold enterFaulted
    dsimp only
    split
    · rw [changeLine_eq, issueDrive_eq]
    · rfl

/-- A fault ends in FAULTED, with its cause if the line was not FAULTED before, and is counted if it was
(R179). -/
theorem faultTaken_handFault (k : FaultCause) (s : State) : FaultTaken k s (handFault k s) := by
  unfold FaultTaken handFault
  by_cases h : s.line.state = .faulted
  · simp [h, bump]
  · simp only [h, if_false]
    exact ⟨rfl, fun _ => rfl, fun k => absurd k (by simp)⟩

/-- In FAULTED the line's own state stays but for the later faults. -/
theorem handFault_faulted {k : FaultCause} {s : State} (h : s.line.state = .faulted) :
    handFault k s = { s with line := { s.line with laterFaults := min 255 (s.line.laterFaults + 1), lastLater := some k } } := by
  unfold handFault
  rw [if_pos h]
  rfl

end Sys2Proof.Machine
end

