-- ==== Sys2Proof/Laws/Requests.lean ====
section
/-! SUPPORT. What taking a request can do: the reply to the answer of its rule, on the state without the
request (R194). And what the end of a frame can do. -/

namespace Sys2Proof.Machine

/-- A request at the head of the receive queue, with room for its reply, is taken by its own rule. -/
theorem serve_requested {s : State} {number : Byte} {r : Request} {rest : List RxEntry}
    {kind : Request → Option Taking} {take : Taking} (h : Requested s number r rest) (hk : kind r = some take) :
    serve kind s = .next (withReply number r (take (taken rest s)).1.result (take (taken rest s)).1.data (take (taken rest s)).2) := by
  obtain ⟨hr, hlen⟩ := h
  have hroom : replyRoom s = true := by simpa [replyRoom] using hlen
  have htaken : newMoment (dropHead s) = taken rest s := by simp [newMoment, dropHead, taken, hr]
  simp only [serve, hr, hk, hroom, if_true, htaken, queueReply, Answer.reply, withReply]

/-- The same for a request whose rule's answer is known. -/
theorem serve_answered {s t : State} {number : Byte} {r : Request} {rest : List RxEntry}
    {kind : Request → Option Taking} {take : Taking} {result : ResultCode} {data : List Byte}
    (h : Requested s number r rest) (hk : kind r = some take)
    (ht : take (taken rest s) = (Answer.refuse result data, t)) :
    serve kind s = .next (withReply number r result data t) := by
  rw [serve_requested h hk, ht]
  rfl

/-- A read request is answered and changes nothing but the two queues (12.6). -/
theorem serveRead_requested {s : State} {number : Byte} {r : Request} {rest : List RxEntry}
    {kind : Request → Option (State → Answer)} {answer : State → Answer} (h : Requested s number r rest)
    (hk : kind r = some answer) :
    serveRead kind s = .next (withReply number r (answer s).result (answer s).data (readFrom rest s)) := by
  obtain ⟨hr, hlen⟩ := h
  have hroom : replyRoom s = true := by simpa [replyRoom] using hlen
  simp only [serveRead, hr, hk, hroom, if_true, queueReply, dropHead, List.tail_cons, Answer.reply, withReply, readFrom]

/-- Serving a request always answers a next state. -/
theorem serve_next (kind : Request → Option Taking) (s : State) : ∃ t, serve kind s = .next t := by
  unfold serve
  repeat' split
  all_goals exact ⟨_, rfl⟩

theorem serveRead_next (kind : Request → Option (State → Answer)) (s : State) : ∃ t, serveRead kind s = .next t := by
  unfold serveRead
  repeat' split
  all_goals exact ⟨_, rfl⟩

/-- Every request kind's slot number is read back. -/
theorem slotOf_slotNumber (n : SlotNo) : slotOf (slotNumber n) = some n := by
  revert n
  decide

theorem slotOf_eq_none {k : Nat} (h : k = 0 ∨ 16 < k) : slotOf k = none := by
  unfold slotOf
  rw [dif_neg (by omega)]

theorem counterOf_number (i : Fin 8) : counterOf (i.val + 1) = some i := by
  revert i
  decide

theorem versionOf_val (v : Fin 32) : versionOf v.val = some v := by simp [versionOf]

/-- The end of a frame offers its entry and the receiver hunts (R192, R194). -/
theorem endFrame_eq (e : RxEntry) (s : State) : endFrame e s = offered e s := by
  unfold endFrame offerEntry offered
  by_cases h1 : s.link.overflow = [] <;> by_cases h2 : s.link.rx.length < 4 <;> by_cases h3 : s.link.overflow.length < 16 <;>
    simp [h1, h2, h3, bump]

/-! ### The oldest notice (R195) -/

/-- A notice once found is not lost: the search ends with one. -/
theorem olderOf_isSome {s : State} {best : Option (Fin 33 × PendingNotice)} {i : Fin 33}
    (h : best.isSome = true ∨ (s.link.notices[i]).isSome = true) : (olderOf s best i).isSome = true := by
  unfold olderOf
  cases best <;> cases hn : s.link.notices[i] <;> simp_all
  split <;> rfl

theorem oldestNotice_isSome {s : State} (h : ∃ i : Fin 33, s.link.notices[i] ≠ none) : (oldestNotice s).isSome = true := by
  obtain ⟨i, hi⟩ := h
  have kept : ∀ (l : List (Fin 33)) (best : Option (Fin 33 × PendingNotice)), best.isSome = true →
      (l.foldl (olderOf s) best).isSome = true := by
    intro l
    induction l with
    | nil => exact fun _ h => h
    | cons j l ih => exact fun best h => ih _ (olderOf_isSome (.inl h))
  have found : ∀ (l : List (Fin 33)) (best : Option (Fin 33 × PendingNotice)), i ∈ l →
      (l.foldl (olderOf s) best).isSome = true := by
    intro l
    induction l with
    | nil => exact fun _ h => absurd h (by simp)
    | cons j l ih =>
      intro best h
      rcases List.mem_cons.mp h with rfl | h
      · exact kept l _ (olderOf_isSome (.inr (Option.isSome_iff_ne_none.mpr hi)))
      · exact ih _ h
  exact found _ none (List.mem_finRange i)

theorem oldestNotice_eq_none {s : State} (h : ∀ i : Fin 33, s.link.notices[i] = none) : oldestNotice s = none := by
  have none_of : ∀ l : List (Fin 33), l.foldl (olderOf s) none = none := by
    intro l
    induction l with
    | nil => rfl
    | cons i l ih =>
      have hi : olderOf s none i = none := by
        unfold olderOf
        simp [h i]
      rw [List.foldl_cons, hi, ih]
  exact none_of _

end Sys2Proof.Machine
end

