-- ==== Sys2Proof/Laws/Track.lean ====
section
/-! SUPPORT. What the track's small operations can do: a changed cell, a withdrawn command, an ended
exchange, and the cell that a result is for (R49, R54, R59, R63). -/

namespace Sys2Proof.Machine

/-- The tags of the cells and the number of cells stay where a cell is changed and its tag kept. -/
theorem modifyCell_cells_length (p : Nat) (f : Cell → Cell) (s : State) :
    (modifyCell p f s).track.cells.length = s.track.cells.length := by
  simp [modifyCell]

/-- A cell that stands at a position is replaced by its change. -/
theorem modifyCell_of {s : State} {p : Nat} {c : Cell} (h : s.track.cells[p]? = some c) (f : Cell → Cell) :
    modifyCell p f s = { s with track := { s.track with cells := s.track.cells.set p (f c) } } := by
  have hlt : p < s.track.cells.length := (List.getElem?_eq_some_iff.mp h).1
  have hcells : s.track.cells.modify p f = s.track.cells.set p (f c) := by
    refine List.ext_getElem? fun i => ?_
    rw [List.getElem?_modify, List.getElem?_set]
    by_cases hi : p = i
    · subst hi
      simp [hlt, (List.getElem?_eq_some_iff.mp h).2]
    · simp [hi]
  unfold modifyCell
  rw [hcells]

theorem cellAt_modifyCell {s : State} {p : Nat} {c : Cell} (h : s.track.cells[p]? = some c) (f : Cell → Cell) :
    cellAt (modifyCell p f s) p = some (f c) := by
  have hlt : p < s.track.cells.length := (List.getElem?_eq_some_iff.mp h).1
  rw [modifyCell_of h]
  simp [cellAt, hlt]

/-- Two changes of one cell are one. -/
theorem modifyCell_modifyCell (p : Nat) (f g : Cell → Cell) (s : State) :
    modifyCell p f (modifyCell p g s) = modifyCell p (fun c => f (g c)) s := by
  simp [modifyCell, List.modify_modify_eq, Function.comp_def]

/-- A withdrawn command is the only one missing (R20, R61). -/
theorem withdraw_eq (n : SlotNo) (t : Tag) (s : State) :
    withdraw n t s = { s with bus := { s.bus with txQueue := unsent n t s } } := by
  have htest : (fun c : BusCommand => !c.isFor n t)
      = fun c => match c.order with
        | .cell tag _ => !(c.slot == n && tag == t)
        | .run | .stop => true := by
    funext c
    unfold BusCommand.isFor
    split <;> simp_all
  exact congrArg (fun test : BusCommand → Bool => { s with bus := { s.bus with txQueue := s.bus.txQueue.filter test } }) htest

theorem endExchange_eq (n : SlotNo) (c : Cell) : Cell.endExchange n c = ended n c := rfl

/-- Condemning changes neither tag, record nor exchanges (R63). -/
theorem condemn_fixed (k : Condemn) (c : Cell) :
    (c.condemn k).tag = c.tag ∧ (c.condemn k).record = c.record ∧ (c.condemn k).exchanges = c.exchanges
      ∧ (c.condemn k).demands = c.demands ∧ (c.condemn k).print = c.print := by
  unfold Cell.condemn Cell.addFault Cell.laterFault
  split <;> try exact ⟨rfl, rfl, rfl, rfl, rfl⟩
  all_goals split <;> exact ⟨rfl, rfl, rfl, rfl, rfl⟩

/-- The cell that awaits a result is the one that takes it (R59). -/
theorem exchangePosition_of {s : State} {n : SlotNo} {t : Tag} {p : Nat} {c : Cell} (h : Awaits s n t p c) :
    exchangePosition s n t = some p := by
  obtain ⟨hc, htag, ⟨e, he, hslot⟩, hnear⟩ := h
  obtain ⟨hlt, hget⟩ := List.getElem?_eq_some_iff.mp hc
  unfold exchangePosition
  rw [List.findIdx?_eq_some_iff_getElem]
  refine ⟨hlt, ?_, ?_⟩
  · rw [hget]
    simp only [htag, beq_self_eq_true, Bool.true_and, Cell.hasExchange, List.any_eq_true]
    exact ⟨e, he, by simp [hslot]⟩
  · intro q hq
    have hd : s.track.cells[q]? = some s.track.cells[q] := List.getElem?_eq_getElem (by omega)
    have := hnear q _ hq hd
    simp [this]

/-- A result that is awaited is taken by the rule of its station's role, its exchange ended and its command
withdrawn (R59 to R61). -/
theorem takeResult_of {s : State} {n : SlotNo} {st : Station} {t : Tag} {p : Nat} {c : Cell}
    (hst : stationAt s n = some st) (h : Awaits s n t p c) (o : StationOutcome) :
    takeResult n t o s = applyOutcome n st.role p o { s with
      bus := { s.bus with txQueue := unsent n t s }
      track := { s.track with cells := s.track.cells.set p (ended n c) } } := by
  unfold takeResult
  rw [exchangePosition_of h, hst]
  dsimp only
  rw [withdraw_eq, modifyCell_of h.1]
  rfl

/-- Condemning keeps what a cell holds in its place: no content arises but CONDEMNED from BOUND, and the
proof-offer flag and the escaped mark stay (R63). -/
theorem condemn_content (k : Condemn) (c : Cell) :
    (c.condemn k).content = (if c.content = .bound then .condemned else c.content)
      ∧ (c.condemn k).proofOffer = c.proofOffer ∧ (c.condemn k).escaped = c.escaped := by
  unfold Cell.condemn Cell.addFault Cell.laterFault
  cases hc : c.content <;> dsimp only
  case bound => exact ⟨rfl, rfl, rfl⟩
  case offered | condemned | void | proof => split <;> simp
  all_goals simp [hc]

/-- No outcome of the stacker changes a cell that is not PASSED, or anything else (log entry 28). -/
theorem stackerEnded_of_not_passed {s : State} {n : SlotNo} {p : Nat} {c : Cell} {e : StackerEnd}
    (h : cellAt s p = some c) (hc : c.content ≠ .passed) : stackerEnded n p e s = s := by
  unfold stackerEnded
  rw [h]
  exact if_pos hc

end Sys2Proof.Machine
end

