-- ==== Sys2Proof/Tests/Slice0.lean ====
section
/-! SUPPORT. Tests: an ill-formed term for each check of WellFormed, one small step for each command at the
boundary values of its clauses, and for each statement with hypotheses a state and operands that meet them. -/

namespace Sys2Proof.Machine.Tests

set_option Elab.async false

/-! ### Small states -/

/-- The next state of a command. -/
def after (c : Instr) (s : State) : State :=
  match exec c s with
  | .next t => t
  | _ => s

/-- A usable station. -/
def station (role : Role) (address : Nat) (position : Option Nat) : Station where
  role := role
  address := address
  position := position
  debounce := true
  faultLimit := 3
  recorded := .ready
  lastReported := some .ready
  health := .ok
  faultCount := 0
  noReportCount := 0
  identityPending := false
  unanswered := 0
  lateCount := 0
  motion := if role = .drive then some .stopped else none

/-- A line that may start: slots 1 to 9 hold one station of each role. -/
def stations : Vector (Option Station) 16 := Vector.ofFn fun n => match n.val with
  | 0 => some (station .mainFeeder 1 (some 0))
  | 1 => some (station .insertFeeder 2 (some 1))
  | 2 => some (station .printer 3 (some 2))
  | 3 => some (station .carrierFeeder 4 (some 3))
  | 4 => some (station .reader 5 (some 4))
  | 5 => some (station .sealer 6 (some 5))
  | 6 => some (station .gate 7 (some 6))
  | 7 => some (station .stacker 8 (some 7))
  | 8 => some (station .drive 9 none)
  | _ => none

/-- The reset state with that line, its step monitor proving. -/
def lined : State := { State.reset with stations := stations, step := StepMonitor.cleared .proving }

/-- The state with a request alone at the head of the receive queue. -/
def asked (r : Request) (s : State) : State := { s with link := { s.link with rx := [.request 7 r], replies := [] } }

theorem test_asked_isRequested (r : Request) (s : State) : Requested (asked r s) 7 r [] := by
  exact ⟨rfl, Nat.zero_lt_two⟩

/-- The result and the data of the reply to a request. -/
def answerOf (c : Instr) (r : Request) (s : State) : Option (ResultCode × List Byte) :=
  (after c (asked r s)).link.replies.head?.map fun reply => (reply.result, reply.data)

/-- The state in a line state. -/
def inState (l : LineState) (s : State) : State := { s with line := { s.line with state := l } }

/-- A fresh record of version 0. -/
def record (sequence bundleKey : Nat) : Record where
  sequence := sequence
  version := 0
  bundleKey := bundleKey
  trayKey := 1
  lines := [[65]]
  keyline := none
  attempts := 0
  kind := .fresh

/-- A record as a LOAD carries it. -/
def loaded (sequence bundleKey : Nat) : LoadRecord where
  sequence := sequence
  version := 0
  bundleKey := bundleKey
  trayKey := 1
  lines := [[65]]
  keyline := []

/-- Version 0 defined without inserts, 100 g, one line; with a count of records. -/
def withVersion (count : Nat) (s : State) : State :=
  { s with versions := s.versions.set 0 { definition := some { inserts := [], weight := 100, lineCount := 1 }, refCount := count } }

/-- A cell with a content that awaits a station's result, holding a record. -/
def cell (tag : Tag) (content : Content) (r : Option Record) (exchanges : List Exchange) : Cell :=
  { Cell.new tag with content := content, record := r, exchanges := exchanges }

/-- A running line whose only cells stand from position 0 on. -/
def running (cells : List Cell) : State :=
  { inState .running (withVersion 1 lined) with track := { State.reset.track with cells := cells, nextTag := 100 } }

/-- A track with an empty cell at each position but one. -/
def oneCell (p : Nat) (c : Cell) : State :=
  running ((List.range 8).map fun q => if q = p then c else Cell.new (BitVec.ofNat 8 (50 + q)))

/-- The state with a frame in progress to a slot. -/
def awaiting (n : SlotNo) (kind : FrameKind) (s : State) : State :=
  { s with bus := { s.bus with inProgress := some { slot := some n, kind := kind, address := n.val + 1, chars := [] } } }

/-- The state after a poll answer of a slot with a result. -/
def result (n : SlotNo) (t : Tag) (o : StationOutcome) (s : State) : State :=
  let f : BusFrame := { slot := some n, kind := .poll, address := n.val + 1, chars := [] }
  after (.goodAnswer (encodeAnswer f { status := .ready, motion := .running, roleCode := none, result := some (t, o) }))
    (awaiting n .poll s)

/-- The content of the cell at a position. -/
def contentAt (s : State) (p : Nat) : Option Content := (cellAt s p).map (·.content)

/-! ### WellFormed refuses what the event cannot bring -/

theorem test_wellFormed_frameComplete_short : (Instr.frameComplete [0, 0, 9, 1, 0]).wellFormed = false := by decide

theorem test_wellFormed_frameComplete_long : (Instr.frameComplete ([0x09, 0x61] ++ List.replicate 2405 0)).wellFormed = false := by
  decide +kernel

theorem test_wellFormed_frameTruncated_whole : (Instr.frameTruncated [0, 0, 9, 1, 0, 0]).wellFormed = false := by decide

theorem test_wellFormed_frameTruncated_tooLong : (Instr.frameTruncated [0x09, 0x61, 1, 1]).wellFormed = false := by decide

theorem test_wellFormed_frameLengthError_within : (Instr.frameLengthError 2400 1 1).wellFormed = false := by decide

theorem test_wellFormed_goodAnswer_unmarked : (Instr.goodAnswer [{ mark := false, data := 1 }]).wellFormed = false := by decide

theorem test_wellFormed_goodAnswer_empty : (Instr.goodAnswer []).wellFormed = false := by decide

theorem test_wellFormed_accepts :
    (Instr.frameComplete [0, 0, 9, 1, 0, 0]).wellFormed ∧ (Instr.frameTruncated [0, 0, 9]).wellFormed
      ∧ (Instr.frameLengthError 2401 1 1).wellFormed ∧ (Instr.goodAnswer [{ mark := true, data := 1 }]).wellFormed := by
  decide

/-! ### The step, the resets, the receiver -/

theorem test_step_takesFront : step { State.reset with pending := [.frameStart, .estop] }
    = .next { State.reset with pending := [.estop], link := { HostLink.reset with receiver := .inFrame } } := by
  rfl

theorem test_partReset_estop :
    (after .partReset { lined with estop := true }).line.fault = some .estop
      ∧ (after .partReset lined).stations = State.reset.stations := by
  decide +kernel

/-- The check value of the CRC: the digits 1 to 9 give 0x29B1. -/
theorem test_crc16_check : crc16 [0x31, 0x32, 0x33, 0x34, 0x35, 0x36, 0x37, 0x38, 0x39] = 0x29B1 := by decide +kernel

/-- The part while it receives a frame. -/
def receiving : State := after .frameStart State.reset

theorem test_frameEndings :
    (after .frameCheckError receiving).link.rx = [.rejected .check 0 0]
      ∧ (after (.frameLengthError 2401 1 9) receiving).link.rx = [.rejected .length 1 9]
      ∧ (after (.frameTruncated [0, 0, 9, 5]) receiving).link.rx = [.rejected .truncated 9 5]
      ∧ (after (.frameTruncated [0, 0, 9]) receiving).link.rx = [.rejected .truncated 0 0]
      ∧ (after .frameCheckError State.reset).link.rx = [] := by
  decide +kernel

/-- LINE_START with request number 7, its CRC spelled out by the part's own CRC. -/
theorem test_frameComplete_lineStart :
    (after (.frameComplete ([0, 0, 0x09, 7] ++ crcBytes [0, 0, 0x09, 7])) receiving).link.rx = [.request 7 .lineStart]
      ∧ (after (.frameComplete [0, 0, 0x09, 7, 0, 0]) receiving).link.rx = [.rejected .check 0 0]
      ∧ (after (.frameComplete ([0, 0, 0x80, 7] ++ crcBytes [0, 0, 0x80, 7])) receiving).link.rx = [.rejected .kind 0x80 7]
      ∧ (after (.frameComplete ([0, 0, 0x02, 7] ++ crcBytes [0, 0, 0x02, 7])) receiving).link.rx = [.rejected .length 2 7] := by
  decide +kernel

theorem test_overflow_fifthEntry :
    let full : State := { receiving with link := { receiving.link with rx := List.replicate 4 (.request 1 .lineStart) } }
    (after (.frameTruncated [0, 0, 9, 5]) full).link.overflow = [5] := by
  decide +kernel

theorem test_requestFrame_fits :
    (Request.load [loaded 1 1]).fits ∧ (Request.load [loaded 1 1]).body.length ≤ 2400 := by
  refine ⟨⟨by decide, ?_⟩, by decide⟩
  intro r hr
  simp only [List.mem_singleton] at hr
  subst hr
  decide

theorem test_requestFrame_load :
    let body := (Request.load [loaded 1 1]).body
    checkFrame (hostFrame 1 3 body).tail = .request 3 (.load [loaded 1 1]) := by
  decide +kernel

theorem test_reject_answered :
    (after .reject { State.reset with link := { HostLink.reset with rx := [.rejected .kind 0x80 7] } }).link.replies
        = [{ kind := 0x80, number := 7, result := .reject, cause := some .kind, data := [] }]
      ∧ (after .overflow { State.reset with link := { HostLink.reset with overflow := [7] } }).link.replies
        = [{ kind := 0, number := 7, result := .reject, cause := some .overflow, data := [] }] := by
  decide +kernel

theorem test_reject_waits :
    let reply : Reply := rejectReply .kind 1 1
    let s : State := { State.reset with link := { HostLink.reset with rx := [.rejected .kind 0x80 7], replies := [reply, reply] } }
    after .reject s = s := by
  rfl

/-! ### The transmitter -/

/-- A report. -/
def report : Report := .tray { tray := { serial := 1, key := 1, bundles := 1, items := 1, weight := 1, split := false }, reason := .drain }

/-- A free transmitter without notices, with some reports. -/
def reporting (n : Nat) : State :=
  { State.reset with link := { HostLink.reset with notices := Vector.replicate 33 none, reports := List.replicate n report } }

theorem test_transmit_order :
    (after .transmitNotice State.reset).link.tx = some (Notice.frame (.line LineNotice.reset))
      ∧ (after .transmitNotice State.reset).line.restarted = false
      ∧ (after .transmitReport (reporting 1)).link.tx = some report.frame
      ∧ (after .transmitReport State.reset).link.tx = none
      ∧ (after .frameSent (after .transmitNotice State.reset)).link.tx = none := by
  decide +kernel

theorem test_transmit_waits :
    let replying (s : State) : State := { s with link := { s.link with replies := [rejectReply .kind 1 1] } }
    let noticing : State := raise (.line LineNotice.reset) (reporting 1)
    after .transmitNotice (replying noticing) = replying noticing ∧ after .transmitReport (replying (reporting 1)) = replying (reporting 1)
      ∧ after .transmitReport noticing = noticing
      ∧ after .transmitReply lined = lined ∧ after .transmitNotice (reporting 1) = reporting 1
      ∧ after .transmitReport (reporting 0) = reporting 0 := by
  decide +kernel

theorem test_transmitNotice_oldest :
    let s : State := { reporting 0 with link := { (reporting 0).link with notices :=
      ((reporting 0).link.notices.set 0 (some { notice := .line LineNotice.reset, age := 5 })).set 8 (some { notice := .feed FeedSet.empty, age := 4 }) } }
    (after .transmitNotice s).link.tx = some (Notice.frame (.feed FeedSet.empty)) := by
  decide +kernel

theorem test_transmitReport_backlog :
    let s : State := { reporting 33 with line := { Line.reset with feed := FeedSet.empty.put .backlog true } }
    (after .transmitReport s).line.feed.has .backlog = false
      ∧ (after .transmitReport { s with link := { s.link with reports := List.replicate 34 report } }).line.feed.has .backlog = true := by
  decide +kernel

theorem test_transmitReply :
    let reply : Reply := rejectReply .kind 1 1
    (after .transmitReply { State.reset with link := { HostLink.reset with replies := [reply] } }).link.tx = some reply.frame := by
  decide +kernel

theorem test_backlog_at64 :
    (queueReport report (reporting 63)).line.feed.has .backlog = true
      ∧ (queueReport report (reporting 62)).line.feed.has .backlog = false := by
  decide +kernel

theorem test_raise_keepsAge :
    let s := raise (.feed FeedSet.empty) { State.reset with moment := 4 }
    (raise (.feed FeedSet.empty) { s with moment := 9 }).link.notices[1] = some { notice := .feed FeedSet.empty, age := 4 } := by
  decide +kernel

/-! ### Records and versions -/

/-- The last reply's result. -/
def resultOfRequest (c : Instr) (r : Request) (s : State) : Option ResultCode := (answerOf c r s).map (·.1)

theorem test_load_allowed : LoadAllowed (withVersion 0 lined) [loaded 1 1, loaded 2 1] := by
  refine ⟨by unfold CountAllowed; decide, by unfold SequencesAllowed; decide, ?_, ?_, ?_, by decide +kernel⟩
  · intro r hr
    refine ⟨0, ?_, by decide +kernel⟩
    revert r
    decide
  · intro r hr
    have h : r = loaded 1 1 ∨ r = loaded 2 1 := by simpa using hr
    rcases h with rfl | rfl <;>
      exact ⟨by decide, by decide, by decide, by decide, ⟨0, _, rfl, rfl, by decide⟩, by decide, by decide, by decide⟩
  · intro k a b ha hb h
    match k with
    | 0 =>
      obtain rfl : (1, 1) = a := by simpa [loaded, withVersion, lined, State.reset, Intake.reset] using ha
      obtain rfl : (1, 1) = b := by simpa [loaded, withVersion, lined, State.reset, Intake.reset] using hb
      rfl
    | k + 1 => simp [loaded, withVersion, lined, State.reset, Intake.reset] at hb

theorem test_load_answers :
    answerOf .load (.load [loaded 1 1, loaded 2 1]) (withVersion 0 lined) = some (.ok, [2, 0, 2, 0, 254, 0, 0, 0, 2])
      ∧ answerOf .load (.load []) (withVersion 0 lined) = some (.field, [0, 1])
      ∧ answerOf .load (.load (List.replicate 9 (loaded 1 1))) (withVersion 0 lined) = some (.field, [0, 1])
      ∧ answerOf .load (.load [loaded 2 1, loaded 2 1]) (withVersion 0 lined) = some (.order, [0, 0, 0, 0])
      ∧ answerOf .load (.load [loaded 1 1]) lined = some (.version, [1])
      ∧ answerOf .load (.load [loaded 1 1, loaded 2 0]) (withVersion 0 lined) = some (.field, [2, 3])
      ∧ answerOf .load (.load [loaded 1 1, { loaded 2 1 with trayKey := 2 }]) (withVersion 0 lined) = some (.keys, [2]) := by
  decide +kernel

theorem test_load_clashes :
    let s : State := { withVersion 0 lined with intake := { Intake.reset with lastKeys := some (1, 2) } }
    let clash (n : Nat) : LoadRecord := { loaded n 1 with trayKey := 2 }
    answerOf .load (.load [loaded 1 1]) s = some (.keys, [1]) ∧ answerOf .load (.load [clash 1, loaded 2 1, clash 3]) s = some (.keys, [2])
      ∧ answerOf .load (.load [clash 1, loaded 2 2, loaded 3 1]) s = some (.ok, [3, 0, 3, 0, 253, 0, 0, 0, 3]) := by
  decide +kernel

theorem test_load_fields :
    let answer (r : LoadRecord) := answerOf .load (.load [loaded 1 1, r]) (withVersion 0 lined)
    answer { loaded 2 1 with trayKey := 0, lines := [] } = some (.field, [2, 4])
      ∧ answer { loaded 2 1 with lines := [] } = some (.field, [2, 5])
      ∧ answer { loaded 2 1 with lines := [[65], [31]] } = some (.field, [2, 5])
      ∧ answer { loaded 2 1 with lines := [[127]], keyline := [31] } = some (.field, [2, 6])
      ∧ answer { loaded 2 1 with keyline := [31] } = some (.field, [2, 7])
      ∧ (loaded 2 1).accepted.keyline = none ∧ ({ loaded 2 1 with keyline := [65] }).accepted.keyline = some [65] := by
  decide +kernel

theorem test_load_full :
    answerOf .load (.load [loaded 500 1]) { withVersion 256 lined with intake := { Intake.reset with queue := List.replicate 256 (record 1 1) } }
      = some (.full, [0, 0]) := by
  decide +kernel

/-- Two fresh records and a remake behind them in the queue. -/
def queued : State :=
  { withVersion 3 lined with intake := { Intake.reset with queue := [record 5 1, record 6 1, { record 7 1 with kind := .remake, attempts := 1 }], lastSequence := 7 } }

theorem test_purge :
    answerOf .purge (.purge 6) queued = some (.ok, [0, 1, 0, 0, 0, 6])
      ∧ (after .purge (asked (.purge 6) queued)).intake.queue.map (·.sequence) = [5, 7]
      ∧ (after .purge (asked (.purge 6) queued)).versions[0].refCount = 2
      ∧ answerOf .purge (.purge 0) queued = some (.field, [0, 1])
      ∧ answerOf .purge (.purge 100) queued = some (.ok, [0, 0, 0, 0, 0, 0]) := by
  decide +kernel

theorem test_purge_queueLow :
    (after .purge (asked (.purge 6) { queued with params := { Params.reset with queueLowMark := 2 } })).link.notices[6].isSome = true := by
  decide +kernel

theorem test_versionSet :
    resultOfRequest .versionSet (.versionSet 31 [2] 2000 6) lined = some .ok
      ∧ answerOf .versionSet (.versionSet 0 [2] 1 1) (withVersion 3 lined) = some (.inUse, [0, 3])
      ∧ answerOf .versionSet (.versionSet 0 [2, 3] 1 1) lined = some (.station, [3])
      ∧ answerOf .versionSet (.versionSet 32 [] 1 1) lined = some (.field, [0, 1])
      ∧ answerOf .versionSet (.versionSet 0 [] 2001 1) lined = some (.field, [0, 4]) := by
  decide +kernel

theorem test_versionSet_fields :
    let answer (inserts : List Nat) (weight lineCount : Nat) := answerOf .versionSet (.versionSet 0 inserts weight lineCount) lined
    answer (List.range' 1 9) 1 1 = some (.field, [0, 2]) ∧ answer [2, 2] 1 1 = some (.field, [0, 3])
      ∧ answer [17] 1 1 = some (.field, [0, 3]) ∧ answer [] 0 1 = some (.field, [0, 4]) ∧ answer [] 1 7 = some (.field, [0, 5]) := by
  decide +kernel

theorem test_versionClear :
    resultOfRequest .versionClear (.versionClear 0) (withVersion 0 lined) = some .ok
      ∧ (after .versionClear (asked (.versionClear 0) (withVersion 0 lined))).versions[0].definition = none
      ∧ answerOf .versionClear (.versionClear 0) (withVersion 3 lined) = some (.inUse, [0, 3])
      ∧ answerOf .versionClear (.versionClear 32) lined = some (.field, [0, 1]) := by
  decide +kernel

/-! ### Reads -/

theorem test_reads_bounds :
    resultOfRequest .cellRead (.cellRead 63) lined = some .ok ∧ answerOf .cellRead (.cellRead 64) lined = some (.field, [0, 1])
      ∧ resultOfRequest .queueRead (.queueRead 319) lined = some .ok ∧ answerOf .queueRead (.queueRead 320) lined = some (.field, [0, 1])
      ∧ resultOfRequest .stationRead (.stationRead 16) lined = some .ok ∧ answerOf .stationRead (.stationRead 0) lined = some (.field, [0, 1])
      ∧ answerOf .stationRead (.stationRead 17) lined = some (.field, [0, 1])
      ∧ resultOfRequest .bundleRead .bundleRead lined = some .ok ∧ resultOfRequest .counterRead .counterRead lined = some .ok := by
  decide +kernel

theorem test_cellRead_empty : answerOf .cellRead (.cellRead 0) lined = some (.ok, [7, 0, 0, 0, 0, 0, 0]) := by decide +kernel

theorem test_statusRead_answers : (after .statusRead (asked .statusRead lined)).freeIndex = 1 := by decide +kernel

theorem test_statusRead_timer :
    (timeLeft { lined with line := { Line.reset with startTimer := .running 5000 } }).isSome = true := by
  simp [timeLeft, runningTimer]

/-! ### Stations -/

theorem test_configurable : Configurable lined := ⟨rfl, by decide⟩

theorem test_stationSet :
    resultOfRequest .stationSet (.stationSet 16 2 30 63 0 15) lined = some .ok
      ∧ (after .stationSet (asked (.stationSet 16 2 30 63 0 15) lined)).line.feed.has (.station 15) = true
      ∧ resultOfRequest .stationSet (.stationSet 9 9 1 99 1 1) { lined with stations := Vector.replicate 16 none } = some .ok
      ∧ answerOf .stationSet (.stationSet 16 2 1 63 0 0) lined = some (.field, [0, 3, 1])
      ∧ answerOf .stationSet (.stationSet 16 2 30 7 0 0) lined = some (.field, [0, 4, 8])
      ∧ answerOf .stationSet (.stationSet 16 8 30 9 0 0) lined = some (.field, [0, 2, 8])
      ∧ answerOf .stationSet (.stationSet 17 8 30 9 0 0) lined = some (.field, [0, 1])
      ∧ answerOf .stationSet (.stationSet 16 2 30 63 0 0) (inState .running lined) = some (.state, []) := by
  decide +kernel

theorem test_stationSet_refusals :
    let refused (slot role address position debounce limit : Nat) :=
      answerOf .stationSet (.stationSet slot role address position debounce limit) lined
    refused 16 0 30 63 0 0 = some (.field, [0, 2]) ∧ refused 16 10 30 63 0 0 = some (.field, [0, 2])
      ∧ refused 16 2 0 63 0 0 = some (.field, [0, 3]) ∧ refused 16 2 31 63 0 0 = some (.field, [0, 3])
      ∧ refused 16 2 30 64 0 0 = some (.field, [0, 4]) ∧ refused 16 2 30 63 3 0 = some (.field, [0, 5])
      ∧ refused 16 2 30 63 0 16 = some (.field, [0, 6]) ∧ refused 16 9 30 0 0 0 = some (.field, [0, 2, 9])
      ∧ answerOf .stationSet (.stationSet 2 6 2 1 0 0)
          { lined with versions := lined.versions.set 3 { definition := some { inserts := [1], weight := 1, lineCount := 1 }, refCount := 0 } }
        = some (.inUse, [3]) := by
  decide +kernel

theorem test_stationSet_otherSlots :
    ∀ m : SlotNo, ∀ st ∈ stationAt lined m, m ≠ 15 → st.address ≠ 30 ∧ st.position ≠ some 63 := by decide +kernel

theorem test_stationClear :
    resultOfRequest .stationClear (.stationClear 2) lined = some .ok
      ∧ resultOfRequest .stationClear (.stationClear 16) lined = some .ok
      ∧ (after .stationClear (asked (.stationClear 5) lined)).step.state = .notMonitored
      ∧ answerOf .stationClear (.stationClear 0) lined = some (.field, [0, 1])
      ∧ answerOf .stationClear (.stationClear 17) lined = some (.field, [0, 1])
      ∧ answerOf .stationClear (.stationClear 2) (inState .running lined) = some (.state, [])
      ∧ answerOf .stationClear (.stationClear 2)
          { lined with versions := lined.versions.set 3 { definition := some { inserts := [1], weight := 1, lineCount := 1 }, refCount := 0 } }
        = some (.inUse, [3]) := by
  decide +kernel

/-- The line with one station changed. -/
def withStation (n : SlotNo) (f : Station → Station) (s : State) : State := putStation n ((stationAt s n).map f) s

theorem test_stationRestore :
    (stationAt (after .stationRestore (asked (.stationRestore 2) (withStation 1 (fun st => { st with health := .mismatch }) lined))) 1).map (·.health) = some .ok
      ∧ resultOfRequest .stationRestore (.stationRestore 2) lined = some .ok
      ∧ answerOf .stationRestore (.stationRestore 16) lined = some (.field, [0, 1]) := by
  decide +kernel

/-! ### The station bus -/

/-- An answer with a status. -/
def saying (v : Reported) : StationAnswer := { status := v, motion := .stopped, roleCode := none, result := none }

/-- The state after slot 2 has answered a poll with a status. -/
def polled (v : Reported) (s : State) : State :=
  after (.goodAnswer (encodeAnswer { slot := some 1, kind := .poll, address := 2, chars := [] } (saying v))) (awaiting 1 .poll s)

theorem test_answer_roundTrip :
    decodeAnswer { slot := some 1, kind := .poll, address := 2, chars := [] } .insertFeeder
      (encodeAnswer { slot := some 1, kind := .poll, address := 2, chars := [] } { saying .jam with result := some (200, .double) })
      = some { saying .jam with result := some (200, .double) } := by
  decide +kernel

theorem test_debounce :
    (stationAt (polled .jam lined) 1).map (·.recorded) = some .ready
      ∧ (stationAt (polled .jam (polled .jam lined)) 1).map (·.recorded) = some .jam
      ∧ (polled .jam (polled .jam lined)).line.feed.has (.station 1) = true
      ∧ (stationAt (polled .jam (withStation 1 (fun st => { st with debounce := false }) lined)) 1).map (·.recorded) = some .jam
      ∧ (stationAt (polled .jam (withStation 1 (fun st => { st with recorded := .silent }) lined)) 1).map (·.identityPending) = some true := by
  decide +kernel

theorem test_guardOpen_faults : (polled .guardOpen (polled .guardOpen lined)).line.fault = some (.station 1) := by decide +kernel

theorem test_unanswered_silent :
    let twice := withStation 1 (fun st => { st with unanswered := 2 }) lined
    (stationAt (after .answerTimeout (awaiting 1 .poll twice)) 1).map (fun st => (st.recorded, st.lastReported)) = some (.silent, none)
      ∧ (stationAt (after .answerCheckFail (awaiting 1 .poll lined)) 1).map (fun st => (st.recorded, st.unanswered)) = some (.ready, 1)
      ∧ (stationAt (after (.goodAnswer [{ mark := true, data := 2 }]) (awaiting 1 .poll lined)) 1).map (·.unanswered) = some 1 := by
  decide +kernel

theorem test_answer_withoutStation :
    let f : BusFrame := { slot := none, kind := .poll, address := 2, chars := [] }
    (after .answerTimeout { lined with bus := { Bus.reset with inProgress := some f } }).stations = stations := by
  decide +kernel

/-- The state after slot 2 has answered an identity request with a role code. -/
def identified (code : Byte) : State :=
  after (.goodAnswer (encodeAnswer { slot := some 1, kind := .identity, address := 2, chars := [] } { saying .ready with roleCode := some code }))
    (awaiting 1 .identity lined)

theorem test_identity :
    (stationAt (identified 2) 1).map (·.health) = some .ok ∧ (stationAt (identified 3) 1).map (·.health) = some .mismatch
      ∧ (identified 3).line.feed.has (.station 1) = true := by
  decide +kernel

theorem test_identity_status :
    let jammed (code : Byte) : State :=
      let s := withStation 1 (fun st => { st with recorded := .jam, lastReported := some .jam, identityPending := true, unanswered := 2 }) lined
      after (.goodAnswer (encodeAnswer { slot := some 1, kind := .identity, address := 2, chars := [] } { saying .ready with roleCode := some code }))
        (awaiting 1 .identity s)
    let told (t : State) : Bool := (t.link.notices[10]).isSome
    (stationAt (jammed 2) 1).map (fun st => (st.recorded, st.lastReported, st.identityPending, st.unanswered)) = some (.jam, some .ready, false, 0)
      ∧ told (jammed 2) = false ∧ told (jammed 3) = true ∧ (stationAt (jammed 3) 1).map (·.health) = some .mismatch := by
  decide +kernel

theorem test_commandBytes :
    (BusOrder.cell 7 (.print 5 [[65], []] none)).bytes = [2, 7, 0, 9, 0, 0, 0, 5, 2, 1, 65, 0, 0]
      ∧ (BusOrder.cell 7 (.stack .newTray 258 3)).bytes = [7, 7, 0, 5, 2, 1, 2, 0, 3]
      ∧ (BusOrder.cell 7 (.feedCarrier 5)).bytes = [1, 7, 0, 4, 0, 0, 0, 5] ∧ BusOrder.stop.bytes = [10, 0, 0, 0]
      ∧ (BusOrder.cell 7 .setAside).bytes = [8, 7, 0, 0] := by
  decide

theorem test_healthCounts :
    ((station .reader 5 none).afterResult .noRead).faultCount = 1
      ∧ ({ station .reader 5 none with faultCount := 2 }.afterResult .noRead).health = .failedFaults
      ∧ ({ station .reader 5 none with faultCount := 2 }.afterResult (.read 7)).faultCount = 0
      ∧ ({ station .gate 5 none with noReportCount := 2 }.afterResult .passed).noReportCount = 0
      ∧ ({ station .gate 5 none with noReportCount := 2 }.afterNoReport).health = .failedNoReports
      ∧ ({ station .gate 5 none with health := .mismatch }.afterResult .passed) = { station .gate 5 none with health := .mismatch } := by
  decide

/-- The bus frame in progress, its kind and its slot. -/
def sending (s : State) : Option (FrameKind × Option SlotNo) := s.bus.inProgress.map fun f => (f.kind, f.slot)

theorem test_send_order :
    let queue : State := { lined with bus := { Bus.reset with txQueue := [{ slot := 8, order := .run }] }, line := { Line.reset with driveOrder := .run false } }
    sending (after .sendCommand queue) = some (.command, some 8)
      ∧ (after .sendCommand queue).line.driveOrder = .run true
      ∧ sending (after .sendIdentityRequest (withStation 4 (fun st => { st with identityPending := true }) lined)) = some (.identity, some 4)
      ∧ sending (after .sendPoll lined) = some (.poll, some 0) := by
  decide +kernel

theorem test_send_waits :
    let queue : State := { lined with bus := { Bus.reset with txQueue := [{ slot := 8, order := .run }] } }
    let asking : State := withStation 4 (fun st => { st with identityPending := true }) lined
    let busy : State := awaiting 0 .poll queue
    after .sendIdentityRequest queue = queue ∧ after .sendPoll queue = queue ∧ after .sendPoll asking = asking
      ∧ after .sendCommand busy = busy ∧ after .sendIdentityRequest busy = busy ∧ after .sendPoll busy = busy
      ∧ after .sendCommand lined = lined ∧ after .sendIdentityRequest lined = lined ∧ after .sendPoll State.reset = State.reset := by
  decide +kernel

theorem test_poll_wraps :
    sending (after .sendPoll { lined with bus := { Bus.reset with pollPointer := 3 } }) = some (.poll, some 3)
      ∧ sending (after .sendPoll { lined with bus := { Bus.reset with pollPointer := 9 } }) = some (.poll, some 0)
      ∧ sending (after .sendPoll { lined with bus := { Bus.reset with pollPointer := 16 } }) = some (.poll, some 0) := by
  decide +kernel

theorem test_poll_isNext :
    ∀ m : SlotNo, (stationAt lined m).isSome → pollDistance 9 0 ≤ pollDistance 9 m := by decide +kernel

/-- The characters of a poll of the station at address 2, its check left to the CRC. -/
theorem test_poll_characters : (busChars 2 [0x10]).take 2 = [{ mark := true, data := 2 }, { mark := false, data := 0x10 }] := by decide

/-! ### Results -/

theorem awaits_of {s : State} {n : SlotNo} {t : Tag} {p : Nat} {c : Cell}
    (h : s.track.cells[p]? = some c ∧ c.tag = t ∧ c.exchanges.any (·.slot == n) = true
      ∧ (s.track.cells.take p).all (·.tag != t) = true) : Awaits s n t p c := by
  obtain ⟨hc, ht, he, hq⟩ := h
  refine ⟨hc, ht, ?_, ?_⟩
  · simpa using he
  · intro q d hlt hd
    have hm : d ∈ s.track.cells.take p := List.mem_of_getElem? (by rw [List.getElem?_take_of_lt hlt]; exact hd)
    simpa using List.all_eq_true.mp hq d hm

/-- The cell with tag 7 that awaits the station of a slot at its own position, holding a record. -/
def pending (n : SlotNo) (content : Content) : Cell := cell 7 content (some (record 5 1)) [{ slot := n, closing := n.val }]

/-- The running line with that cell at the station. -/
def at_ (n : SlotNo) (content : Content) : State := oneCell n.val (pending n content)

theorem test_awaits :
    ∀ n : SlotNo, n.val < 8 → ∀ content ∈ [Content.offered, .bound, .condemned, .void, .proof, .passed],
      Awaits (at_ n content) n 7 n.val (pending n content) := by
  have h : ∀ n : SlotNo, n.val < 8 → ∀ content ∈ [Content.offered, .bound, .condemned, .void, .proof, .passed],
      (at_ n content).track.cells[n.val]? = some (pending n content) ∧ (pending n content).tag = 7
        ∧ (pending n content).exchanges.any (·.slot == n) = true
        ∧ ((at_ n content).track.cells.take n.val).all (·.tag != 7) = true := by decide +kernel
  exact fun n hn content hc => awaits_of (h n hn content hc)

/-- One field of the cell at a position. -/
def seen {α : Type} (f : Cell → α) (p : Nat) (s : State) : Option α := (cellAt s p).map f

theorem test_insertResults :
    let s := oneCell 1 { pending 1 .bound with demands := [{ slot := 1, fed := false }] }
    seen (·.demands) 1 (result 1 7 .fed s) = some [{ slot := 1, fed := true }]
      ∧ seen (·.fault) 1 (result 1 7 .miss s) = some (some { kind := .insertMiss, station := some 1 })
      ∧ contentAt (result 1 7 .double s) 1 = some .condemned
      ∧ seen (·.exchanges) 1 (result 1 7 .fed s) = some [] := by
  decide +kernel

theorem test_printerResults :
    let s : State := { at_ 2 .bound with track := { (at_ 2 .bound).track with printJobs := 2 } }
    seen (·.print) 2 (result 2 7 .printed s) = some .printed ∧ (result 2 7 .printed s).track.printJobs = 1
      ∧ seen (·.print) 2 (result 2 7 .printFault s) = some .failed ∧ contentAt (result 2 7 .printFault s) 2 = some .condemned := by
  decide +kernel

theorem test_carrierAndSealerResults :
    seen (·.carrier) 3 (result 3 7 .fed (at_ 3 .bound)) = some .fed
      ∧ seen (·.carrier) 3 (result 3 7 .miss (at_ 3 .bound)) = some .missed
      ∧ seen (·.sealed) 5 (result 5 7 .sealed (at_ 5 .void)) = some true
      ∧ contentAt (result 5 7 .sealFault (at_ 5 .bound)) 5 = some .condemned := by
  decide +kernel

theorem test_lateResult :
    let t := result 1 9 .fed (at_ 1 .bound)
    t.track.cells = (at_ 1 .bound).track.cells ∧ t.track.lateCount = 1
      ∧ (stationAt t 1).map (·.lateCount) = some 1 := by
  decide +kernel

theorem test_lateResult_noExchange :
    ∀ c ∈ (at_ 1 .bound).track.cells, c.tag = 9 → ∀ e ∈ c.exchanges, e.slot ≠ 1 := by
  decide +kernel

theorem test_mainFeedResults :
    contentAt (result 0 7 .fed (at_ 0 .offered)) 0 = some .bound
      ∧ contentAt (result 0 7 .double (at_ 0 .offered)) 0 = some .condemned
      ∧ (result 0 7 .fed (at_ 0 .offered)).binding.lastKey = some 1
      ∧ freshCount (at_ 0 .offered) = 1 ∧ freshCount (result 0 7 .fed (at_ 0 .offered)) = 0
      ∧ contentAt (result 0 7 .miss (at_ 0 .offered)) 0 = some .empty
      ∧ (result 0 7 .miss (at_ 0 .offered)).intake.queue = [record 5 1] := by
  decide +kernel

theorem test_mainFeedResults_marked :
    let s := oneCell 0 { pending 0 .offered with offerMark := some { kind := .stepLost, station := none } }
    contentAt (result 0 7 .fed s) 0 = some .condemned
      ∧ seen (·.laterFaults) 0 (result 0 7 .double s) = some 1 := by
  decide +kernel

theorem test_mainFeedResults_queueLow :
    let s : State := { at_ 0 .offered with params := { Params.reset with queueLowMark := 1 } }
    (result 0 7 .fed s).link.notices[6].isSome = true ∧ (result 0 7 .fed (at_ 0 .offered)).link.notices[6] = none := by
  decide +kernel

/-- A marked offer whose tag is in the lost list, out of step. -/
def lostOffer (stepAuto : Nat) (lost : List Tag) : State :=
  let s := oneCell 0 { pending 0 .offered with offerMark := some { kind := .stepLost, station := none } }
  { s with
    step := { StepMonitor.cleared .outOfStep with lost := lost }
    params := { Params.reset with stepAuto := stepAuto }
    line := { s.line with feed := FeedSet.empty.put .step true } }

/-- What a step monitor shows after an offer has ended: its state, its lost list, cause STEP, its notice. -/
def stepAfter (t : State) : StepState × List Tag × Bool × Bool :=
  (t.step.state, t.step.lost, t.line.feed.has .step, (t.link.notices[2]).isSome)

theorem test_offerEnded_miss :
    stepAfter (result 0 7 .miss (lostOffer 1 [7])) = (.proving, [], false, true)
      ∧ stepAfter (result 0 7 .miss (lostOffer 1 [7, 9])) = (.outOfStep, [9], true, false)
      ∧ stepAfter (result 0 7 .miss (lostOffer 0 [7])) = (.outOfStep, [], true, false)
      ∧ stepAfter (result 0 7 .miss (lostOffer 1 [])) = (.outOfStep, [], true, false) := by
  decide +kernel

theorem test_offerEnded_closed :
    stepAfter (closeExchange 0 7 0 (lostOffer 1 [7])) = (.proving, [], false, true)
      ∧ stepAfter (closeExchange 0 7 0 (lostOffer 0 [7])) = (.outOfStep, [], true, false) := by
  decide +kernel

/-- A proof offer that awaits the main feeder. -/
def proofOffer : State :=
  let s := oneCell 0 { cell 7 .offered none [{ slot := 0, closing := 0 }] with proofOffer := true }
  { s with binding := { Binding.reset with proofPending := true } }

theorem test_proofFeedResults :
    contentAt (result 0 7 .fed proofOffer) 0 = some .proof ∧ (result 0 7 .fed proofOffer).binding.proofPending = false
      ∧ contentAt (result 0 7 .miss proofOffer) 0 = some .empty ∧ (result 0 7 .miss proofOffer).binding.proofPending = true
      ∧ seen (·.fault) 0 (result 0 7 .double proofOffer) = some none := by
  decide +kernel

theorem test_proofFeed_awaits :
    Awaits proofOffer 0 7 0 { cell 7 .offered none [{ slot := 0, closing := 0 }] with proofOffer := true } :=
  awaits_of (by decide +kernel)

/-- A line whose reader's cell has a neighbour with sequence 9 upstream and one with 8 downstream. -/
def reading : State :=
  let s := running [Cell.new 99, Cell.new 98, Cell.new 97, cell 96 .bound (some (record 9 1)) [], pending 4 .bound,
    cell 94 .bound (some (record 8 1)) []]
  { s with step := { StepMonitor.cleared .inStep with window := [.pass] } }

theorem test_readResults :
    seen (·.verification) 4 (result 4 7 (.read 5) reading) = some .matched
      ∧ (result 4 7 (.read 5) reading).step.window = [.pass, .pass]
      ∧ (result 4 7 (.read 9) reading).step.slipCount = 1 ∧ (result 4 7 (.read 8) reading).step.slipCount = 1
      ∧ (result 4 7 (.read 1) reading).step.slipCount = 0
      ∧ seen (·.fault) 4 (result 4 7 (.read 1) reading) = some (some { kind := .verifyMismatch, station := some 4 })
      ∧ seen (·.fault) 4 (result 4 7 .noRead reading) = some (some { kind := .verifyNoRead, station := some 4 })
      ∧ (result 4 7 .noRead reading).step.window = [.pass] := by
  decide +kernel

theorem test_readResults_awaits : Awaits reading 4 7 4 (pending 4 .bound) := awaits_of (by decide +kernel)

theorem test_readOutcomes :
    readerPosition reading = some 4
      ∧ readOutcome reading (pending 4 .bound) 5 = .matched
      ∧ readOutcome reading (pending 4 .bound) 9 = .mismatch (some .upstream)
      ∧ readOutcome reading (pending 4 .bound) 8 = .mismatch (some .downstream)
      ∧ readOutcome reading (pending 4 .bound) 1 = .mismatch none := by
  decide +kernel

/-- What a gate result leaves: the content, the line state and the reports. -/
def gated (o : StationOutcome) (content : Content) : Option Content × LineState × Nat :=
  let t := result 6 7 o (at_ 6 content)
  (contentAt t 6, t.line.state, t.link.reports.length)

theorem test_gateResults_diverted :
    gated .diverted .condemned = (some .diverted, .running, 1) ∧ gated .diverted .bound = (some .diverted, .running, 1)
      ∧ gated .diverted .void = (some .diverted, .running, 0) ∧ gated .diverted .proof = (some .diverted, .running, 0)
      ∧ (result 6 7 .diverted (at_ 6 .condemned)).intake.queue = [{ record 5 1 with kind := .remake, attempts := 1 }] := by
  decide +kernel

theorem test_gateResults_passed :
    gated .passed .condemned = (some .passed, .faulted, 1) ∧ gated .passed .bound = (some .passed, .running, 0)
      ∧ gated .passed .void = (some .passed, .faulted, 0) ∧ gated .passed .proof = (some .passed, .faulted, 0)
      ∧ (result 6 7 .passed (at_ 6 .condemned)).line.fault = some (.escape 7) := by
  decide +kernel

theorem test_gateResults_attempts :
    let last := oneCell 6 { pending 6 .condemned with record := some { record 5 1 with attempts := 2, kind := .remake } }
    (result 6 7 .diverted last).intake.queue = [] ∧ (result 6 7 .diverted last).link.reports.length = 1
      ∧ (result 6 7 .diverted last).versions[0].refCount = 0 := by
  decide +kernel

theorem test_remakePlace :
    let remake (q : Nat) : Record := { record q 1 with kind := .remake }
    insertRemake (remake 9) [record 1 1, remake 2, record 3 1] = [record 1 1, remake 2, remake 9, record 3 1]
      ∧ insertRemake (remake 9) [record 1 1] = [remake 9, record 1 1] := by
  decide

/-- An open bundle with some items. -/
def openedBundle (items weight : Nat) : OpenBundle where
  serial := 3
  traySerial := 2
  key := 1
  items := items
  weight := weight
  first := none
  last := none
  split := false
  unconfirmed := 0

/-- An open tray with some bundles and items. -/
def openedTray (bundles items weight : Nat) : OpenTray where
  serial := 2
  key := 1
  bundles := bundles
  items := items
  weight := weight
  split := false

/-- A builder with a bundle and a tray, and with a stack in flight when it is told so. -/
def builder (flying : Bool) (pendingClose : ClosePending) : BundleBuilder := { BundleBuilder.reset with
  bundle := some (openedBundle 0 0)
  tray := some (openedTray 1 0 0)
  nextBundleSerial := 65535
  nextTraySerial := 3
  inFlight := if flying then some { tag := 7, mark := .none, bundleSerial := 3, traySerial := 2 } else none
  closePending := pendingClose }

/-- The line with a stack in flight, and a pending close. -/
def stacking (pendingClose : ClosePending) : State := { at_ 7 .passed with bundles := builder true pendingClose }

theorem test_stackerResults :
    let t := result 7 7 .stacked (stacking .none)
    (t.bundles.bundle.map fun b => (b.items, b.weight, b.first, b.last)) = some (1, 100, some 5, some 5)
      ∧ t.bundles.inFlight = none ∧ t.link.reports.length = 1
      ∧ (result 7 7 .stackFault (stacking .none)).line.fault = some (.stackFault 7)
      ∧ (result 7 7 .stacked (stacking .bundle)).bundles.bundle = none
      ∧ (result 7 7 .stacked (stacking .bundle)).link.reports.length = 2
      ∧ (result 7 7 .stacked (stacking .bundleAndTray)).link.reports.length = 3 := by
  decide +kernel

theorem test_setAsideResults :
    let aside := oneCell 7 { cell 7 .passed none [{ slot := 7, closing := 7 }] with escaped := true }
    (result 7 7 .stacked aside).line.state = .running ∧ (result 7 7 .stackFault aside).line.state = .faulted := by
  decide +kernel

/-! ### Fault, ESTOP, drive timers, the drive's answers -/

theorem test_faultHanded :
    let first := handFault .phase (running [])
    (first.line.state, first.line.fault, first.line.driveOrder) = (.faulted, some .phase, .stop false)
      ∧ first.bus.txQueue = [{ slot := 8, order := .stop }]
      ∧ (handFault .estop first).line.fault = some .phase ∧ (handFault .estop first).line.laterFaults = 1
      ∧ (handFault .phase (withStation 8 (fun st => { st with health := .mismatch }) (running []))).line.driveOrder = .none := by
  decide +kernel

theorem test_faultHanded_queue :
    let queue (order : BusOrder) : State :=
      { running [] with bus := { Bus.reset with txQueue := [{ slot := 8, order := order }, { slot := 5, order := .cell 7 .seal }] } }
    (handFault .phase (queue .run)).bus.txQueue = [{ slot := 5, order := .cell 7 .seal }, { slot := 8, order := .stop }]
      ∧ (handFault .phase (inState .stopping (queue .stop))).bus.txQueue = (queue .stop).bus.txQueue := by
  decide +kernel

theorem test_estop :
    (after .estop (running [])).line.fault = some .estop ∧ (after .estopRelease (after .estop (running []))).line.state = .faulted
      ∧ (after .estop { lined with estop := true }) = { lined with estop := true } := by
  decide +kernel

theorem test_drainTest :
    let draining (option : DrainOption) (c : Cell) : State :=
      { running [c] with line := { Line.reset with state := .draining, drain := option }, bundles := { builder false .none with bundleSplitKey := some 4 } }
    let closed := drainTest true (draining .close (Cell.new 99))
    let left := drainTest true (draining .noClose (cell 99 .diverted none []))
    (closed.line.state, closed.line.drain, closed.line.driveOrder, closed.line.stopTimer) = (.stopping, .none, .stop false, .running 10000)
      ∧ closed.bus.txQueue = [{ slot := 8, order := .stop }]
      ∧ closed.bundles.bundle = none ∧ closed.bundles.tray = none ∧ closed.bundles.bundleSplitKey = none
      ∧ closed.link.reports = [.bundle { bundle := openedBundle 0 0, residual := true, reason := .drain }, .tray { tray := openedTray 1 0 0, reason := .drain }]
      ∧ left.line.state = .stopping ∧ left.bundles.bundleSplitKey = some 4 ∧ left.link.reports = []
      ∧ drainTest true (draining .close (cell 99 .void none [])) = draining .close (cell 99 .void none [])
      ∧ drainTest true (running []) = running [] := by
  decide +kernel

theorem test_driveTimers :
    let starting : State := { lined with line := { Line.reset with state := .starting, startTimer := .running 5000 } }
    let stopping : State := { lined with line := { Line.reset with state := .stopping, stopTimer := .running 10000 } }
    (after .driveStart starting).line.fault = some .driveStart ∧ (after .driveStop stopping).line.fault = some .driveStop
      ∧ after .driveStart lined = lined ∧ after .driveStop lined = lined := by
  decide +kernel

/-- The line state after the drive's motion in a line state with a drive order. -/
def moved (l : LineState) (order : DriveOrder) (before m : Motion) : LineState :=
  let s := withStation 8 (fun st => { st with motion := some before }) (inState l lined)
  (takeMotion 8 m { s with line := { s.line with driveOrder := order } }).line.state

theorem test_driveAnswers :
    moved .starting (.run true) .stopped .running = .running ∧ moved .starting (.run false) .stopped .running = .starting
      ∧ moved .stopping (.stop true) .running .stopped = .idle ∧ moved .stopping (.stop false) .running .stopped = .stopping
      ∧ moved .running (.run true) .running .stopped = .faulted ∧ moved .draining (.run true) .running .stopped = .faulted
      ∧ moved .running (.run true) .stopped .stopped = .running ∧ moved .idle .none .running .stopped = .idle := by
  decide +kernel

/-! ### The requests to the line -/

theorem test_lineStart :
    startRefusal lined = none ∧ resultOfRequest .lineStart .lineStart lined = some .ok
      ∧ (after .lineStart (asked .lineStart lined)).line.state = .starting
      ∧ (after .lineStart (asked .lineStart lined)).line.startTimer = .running 5000
      ∧ answerOf .lineStart .lineStart (running []) = some (.state, [3])
      ∧ resultOfRequest .lineStart .lineStart State.reset = some .config := by
  decide +kernel

theorem test_lineStart_refusals :
    let move (n : SlotNo) (p : Nat) : State := withStation n (fun st => { st with position := some p }) lined
    answerOf .lineStart .lineStart (move 0 40) = some (.config, [2, 1])
      ∧ answerOf .lineStart .lineStart (move 6 2) = some (.config, [8, 7])
      ∧ answerOf .lineStart .lineStart (move 2 40) = some (.config, [4, 3, 255, 255, 255, 219])
      ∧ answerOf .lineStart .lineStart (withStation 6 (fun st => { st with health := .mismatch }) lined) ≠ none
      ∧ resultOfRequest .lineStart .lineStart (withStation 6 (fun st => { st with health := .mismatch }) lined) = some .station := by
  decide +kernel

/-- A state with the station of a slot at another chain position. -/
def placedAt (n : SlotNo) (p : Nat) (s : State) : State := withStation n (fun st => { st with position := some p }) s

/-- A state with the station of a slot in another role. -/
def castAs (n : SlotNo) (r : Role) (s : State) : State := withStation n (fun st => { st with role := r }) s

/-- The result and the data of LINE_START's answer. -/
def startOf (s : State) : Option (ResultCode × List Byte) := answerOf .lineStart .lineStart s

/-- The line with a second insert feeder. -/
def twoInserts : State := castAs 5 .insertFeeder (castAs 4 .insertFeeder lined)

theorem test_lineStart_rows_roles :
    startOf (putStation 8 none lined) = some (.config, [1, 0]) ∧ startOf (castAs 1 .mainFeeder lined) = some (.config, [2, 2])
      ∧ startOf (putStation 3 none lined) = some (.config, [3, 0]) ∧ startOf (castAs 1 .printer lined) = some (.config, [4, 2])
      ∧ startOf twoInserts = some (.config, [5, 5]) ∧ startOf (castAs 5 .reader lined) = some (.config, [6, 2]) := by
  decide +kernel

theorem test_lineStart_rows_positions :
    startOf (placedAt 5 4 (placedAt 4 5 twoInserts)) = some (.config, [5, 5])
      ∧ startOf (placedAt 4 1 (placedAt 1 2 (placedAt 2 0 (placedAt 0 0 lined)))) = some (.config, [6, 5])
      ∧ startOf (placedAt 5 4 (placedAt 4 5 lined)) = some (.config, [7, 6])
      ∧ startOf (placedAt 7 3 (placedAt 3 7 lined)) = some (.config, [6, 5]) ∧ startOf (placedAt 3 20 lined) = some (.config, [4, 3, 0, 0, 0, 18])
      ∧ startOf (placedAt 6 20 (placedAt 5 19 lined)) = some (.config, [9, 6])
      ∧ startOf (putStation 7 none lined) = some (.config, [9, 0]) := by
  decide +kernel

theorem test_lineStart_rows_stations :
    startOf (withStation 8 (fun st => { st with recorded := .silent }) lined) = some (.station, [9, 6, 1])
      ∧ startOf (withStation 7 (fun st => { st with health := .mismatch }) (withStation 8 (fun st => { st with recorded := .jam }) lined))
        = some (.station, [8, 2, 4]) := by
  decide +kernel

theorem test_lineStart_met :
    let s : State := { lined with
      binding := { Binding.reset with stopPoint := .met .versionChange 4 }
      line := { Line.reset with feed := FeedSet.empty.put .stopPoint true }
      phase := PhaseMonitor.cleared .lost }
    let t := after .lineStart (asked .lineStart s)
    t.binding.stopPoint = .none ∧ t.phase.state = .seeking ∧ t.line.feed.has .stopPoint = false ∧ t.line.feed.has .phase = true := by
  decide +kernel

theorem test_drainAndStop :
    resultOfRequest .lineDrain (.lineDrain 1) (running []) = some .ok
      ∧ (after .lineDrain (asked (.lineDrain 1) (running []))).line.drain = .close
      ∧ (after .lineDrain (asked (.lineDrain 0) (running []))).line.drain = .noClose
      ∧ answerOf .lineDrain (.lineDrain 2) (running []) = some (.field, [0, 1])
      ∧ answerOf .lineDrain (.lineDrain 0) lined = some (.state, [1])
      ∧ (after .lineStop (asked .lineStop (running []))).line.stopTimer = .running 10000
      ∧ resultOfRequest .lineStop .lineStop (inState .stopping lined) = some .ok
      ∧ resultOfRequest .lineStop .lineStop lined = some .state := by
  decide +kernel

theorem test_holdAndResume :
    answerOf .lineHold .lineHold lined = some (.ok, [0, 0, 0, 1])
      ∧ answerOf .lineResume .lineResume (after .lineHold (asked .lineHold lined)) = some (.ok, [0, 0, 0, 0]) := by
  decide +kernel

theorem test_putDriveCommand :
    let run : BusCommand := { slot := 8, order := .run }
    let stop : BusCommand := { slot := 8, order := .stop }
    let other : BusCommand := { slot := 5, order := .cell 7 .seal }
    putDriveCommand stop [other, run, other] = [other, stop, other] ∧ putDriveCommand stop [other] = [other, stop]
      ∧ run.forDrive = true ∧ other.forDrive = false := by
  decide

theorem test_faultClear :
    resultOfRequest .faultClear .faultClear (inState .faulted lined) = some .ok
      ∧ (after .faultClear (asked .faultClear (inState .faulted lined))).line.state = .idle
      ∧ answerOf .faultClear .faultClear { inState .faulted lined with estop := true } = some (.state, [1])
      ∧ resultOfRequest .faultClear .faultClear lined = some .state
      ∧ answerOf .faultClear .faultClear (withStation 8 (fun st => { st with motion := some .running }) (inState .faulted lined)) = some (.state, [2])
      ∧ resultOfRequest .faultClear .faultClear (withStation 3 (fun st => { st with recorded := .guardOpen }) (inState .faulted lined)) = some .station := by
  decide +kernel

theorem test_faultClear_rows :
    let clear (s : State) := answerOf .faultClear .faultClear (inState .faulted s)
    let opened (n : SlotNo) (s : State) : State := withStation n (fun st => { st with recorded := .guardOpen }) s
    let failed (n : SlotNo) (s : State) : State := withStation n (fun st => { st with health := .mismatch }) s
    clear (putStation 8 none lined) = some (.state, [3]) ∧ clear (opened 6 (opened 3 lined)) = some (.station, [4])
      ∧ clear (failed 7 (failed 6 lined)) = some (.station, [7, 2, 4]) ∧ clear (failed 7 lined) = some (.station, [8, 2, 4])
      ∧ clear (putStation 6 none lined) = some (.station, [0, 0, 0]) ∧ clear (putStation 7 none lined) = some (.station, [0, 0, 0])
      ∧ clear { putStation 8 none lined with estop := true } = some (.state, [1]) := by
  decide +kernel

theorem test_jobReset :
    let s : State := { queued with track := { State.reset.track with cells := [Cell.new 3], nextTag := 4 } }
    resultOfRequest .jobReset .jobReset s = some .ok
      ∧ (after .jobReset (asked .jobReset s)).track = { State.reset.track with nextTag := 4 }
      ∧ (after .jobReset (asked .jobReset s)).intake = Intake.reset
      ∧ (after .jobReset (asked .jobReset s)).step.state = .proving
      ∧ resultOfRequest .jobReset .jobReset (running []) = some .state
      ∧ answerOf .jobReset .jobReset (reporting 1) = some (.busy, [0, 1]) := by
  decide +kernel

/-! ### Parameters -/

/-- The answer to a PARAM_SET on the IDLE line. -/
def param (number value : Nat) : Option (ResultCode × List Byte) := answerOf .paramSet (.paramSet number value) lined

theorem test_paramSet_bounds :
    param 0 0 = some (.field, [0, 1]) ∧ param 21 0 = some (.field, [0, 1])
      ∧ param 1 255 = some (.ok, [64, 255]) ∧ param 1 256 = some (.field, [0, 2])
      ∧ param 20 1 = some (.ok, [0, 1]) ∧ param 20 2 = some (.field, [0, 2])
      ∧ param 17 100000 = some (.ok, [0, 0, 0x61, 0xA8, 0, 1, 0x86, 0xA0]) := by
  decide +kernel

theorem test_paramSet_stepAndChain :
    param 12 15 = some (.field, [0, 2]) ∧ param 12 16 = some (.ok, [0, 0, 0, 16]) ∧ param 12 0 = some (.ok, [0, 0, 0, 0])
      ∧ param 5 9 = some (.field, [0, 2]) ∧ param 5 8 = some (.ok, [3, 8]) ∧ param 4 16 = some (.ok, [8, 16]) := by
  decide +kernel

theorem test_paramSet_owners :
    answerOf .paramSet (.paramSet 4 4) { lined with params := { Params.reset with stepThreshold := 5 } } = some (.field, [0, 2])
      ∧ answerOf .paramSet (.paramSet 2 0) queued = some (.inUse, [1])
      ∧ answerOf .paramSet (.paramSet 13 1) { lined with bundles := { builder false .none with bundle := some (openedBundle 2 0) } } = some (.inUse, [0, 2])
      ∧ resultOfRequest .paramSet (.paramSet 13 2) { lined with bundles := { builder false .none with bundle := some (openedBundle 2 0) } } = some .ok
      ∧ answerOf .paramSet (.paramSet 14 100) { lined with bundles := { builder false .none with bundle := some (openedBundle 2 200) } } = some (.inUse, [0, 0, 0, 200])
      ∧ resultOfRequest .paramSet (.paramSet 12 0) (running []) = some .state := by
  decide +kernel

/-- The line with a bundle of one item and its tray open, and a stack in flight whose item weighs 100 g. -/
def stackFlying : State :=
  let s := at_ 7 .passed
  { s with bundles := { builder true .none with
      bundle := some (openedBundle 1 300)
      inFlight := (builder true .none).inFlight.map fun f => { f with tag := 7 } } }

theorem test_paramSet_stackInFlight :
    let set (number value : Nat) := answerOf .paramSet (.paramSet number value) stackFlying
    set 13 1 = some (.inUse, [0, 2]) ∧ (set 13 2).map (·.1) = some .ok
      ∧ set 14 399 = some (.inUse, [0, 0, 0x01, 0x90]) ∧ (set 14 400).map (·.1) = some .ok := by
  decide +kernel

theorem test_bundleInTray : BundleInTray stackFlying := by
  unfold BundleInTray
  decide +kernel

theorem test_paramSet_effects :
    (after .paramSet (asked (.paramSet 4 4) { lined with step := { StepMonitor.cleared .inStep with window := [.fail, .pass, .pass, .pass, .pass] } })).step.window
        = [.pass, .pass, .pass, .pass]
      ∧ (after .paramSet (asked (.paramSet 12 16) lined)).phase.state = .seeking
      ∧ (after .paramSet (asked (.paramSet 12 16) lined)).line.feed.has .phase = true
      ∧ (after .paramSet (asked (.paramSet 8 1) { lined with step := StepMonitor.cleared .outOfStep })).step.state = .proving
      ∧ (after .paramSet (asked (.paramSet 8 0) { lined with step := StepMonitor.cleared .outOfStep })).step.state = .outOfStep := by
  decide +kernel

/-! ### Binding and the step monitor -/

theorem test_stopPoint :
    answerOf .stopPointSet (.stopPointSet 1 9) lined = some (.ok, stopPointBytes .none)
      ∧ (after .stopPointSet (asked (.stopPointSet 1 9) lined)).binding.stopPoint = .armed (.sequence 9)
      ∧ (after .stopPointSet (asked (.stopPointSet 2 0) lined)).binding.stopPoint = .armed .versionChange
      ∧ answerOf .stopPointSet (.stopPointSet 1 0) lined = some (.field, [0, 2])
      ∧ answerOf .stopPointSet (.stopPointSet 0 1) lined = some (.field, [0, 1])
      ∧ answerOf .stopPointSet (.stopPointSet 3 1) lined = some (.field, [0, 1])
      ∧ resultOfRequest .stopPointClear .stopPointClear lined = some .ok := by
  decide +kernel

theorem test_proof :
    (after .proof (asked .proof lined)).binding.proofPending = true
      ∧ answerOf .proof .proof proofOffer = some (.busy, []) := by
  decide +kernel

theorem test_restep :
    let monitor (m : StepMonitor) : State := { lined with step := m }
    answerOf .restep .restep State.reset = some (.state, [1])
      ∧ answerOf .restep .restep (monitor { StepMonitor.cleared .outOfStep with lost := [7] }) = some (.busy, [4, 1])
      ∧ (after .restep (asked .restep (monitor (StepMonitor.cleared .outOfStep)))).step.state = .proving
      ∧ (after .restep (asked .restep (monitor (StepMonitor.cleared .inStep)))).step.lossCount = 1
      ∧ (after .restep (asked .restep lined)).step.lossCount = 1 := by
  decide +kernel

theorem test_stepLoss :
    let s := { running [cell 99 .offered (some (record 6 1)) [], Cell.new 98, cell 97 .bound (some (record 5 1)) [], Cell.new 96, Cell.new 95,
      cell 94 .bound (some (record 4 1)) []] with step := StepMonitor.cleared .inStep }
    let t := enterOutOfStep [.restep] none s
    readerPosition s = some 4 ∧ t.step.lost = [97, 99] ∧ t.step.state = .outOfStep ∧ t.line.feed.has .step = true
      ∧ contentAt t 2 = some .condemned ∧ contentAt t 5 = some .bound
      ∧ seen (·.offerMark) 0 t = some (some { kind := .stepLost, station := none })
      ∧ (enterOutOfStep [.restep] none { s with track := State.reset.track }).step.state = .proving := by
  decide +kernel

theorem test_lostListAdvance :
    let s (auto : Nat) (lost : List Tag) : State := { running [Cell.new 99, Cell.new 98] with
      step := { StepMonitor.cleared .outOfStep with lost := lost }
      line := { Line.reset with state := .running, feed := FeedSet.empty.put .step true }
      params := { Params.reset with stepAuto := auto } }
    (lostListAdvance (s 1 [90, 98])).step = { StepMonitor.cleared .outOfStep with lost := [98] }
      ∧ (lostListAdvance (s 1 [90])).step = StepMonitor.cleared .proving ∧ (lostListAdvance (s 1 [90])).line.feed.has .step = false
      ∧ (lostListAdvance (s 0 [90])).step = StepMonitor.cleared .outOfStep := by
  decide +kernel

/-- A monitor in step with some window, slips and block, which takes a read. -/
def reads (m : StepMonitor) (o : ReadOutcome) : StepMonitor :=
  (takeReadOutcome o { code := none, sequence := none, slip := none } { lined with step := m }).step

theorem test_readEntered :
    let inStep := StepMonitor.cleared .inStep
    reads { inStep with slipCount := 1 } .noRead = inStep
      ∧ (reads inStep .matched).window = [.pass]
      ∧ (reads inStep (.mismatch none)).blockFailures = 1
      ∧ (reads { inStep with window := [.fail, .fail] } (.mismatch none)).lossCount = 1
      ∧ (reads { inStep with slipCount := 1 } (.mismatch (some .upstream))).lossCount = 1
      ∧ (reads (StepMonitor.cleared .notMonitored) .matched) = StepMonitor.cleared .notMonitored
      ∧ (reads { StepMonitor.cleared .proving with provingCount := 3 } .matched).state = .inStep
      ∧ (reads { StepMonitor.cleared .proving with provingCount := 2 } .matched).state = .proving
      ∧ (reads { inStep with blockEntered := 999 } .matched).blocksCompleted = 1 := by
  decide +kernel

theorem test_readEntered_conditions :
    let taking (lock excessRestep : Nat) (m : StepMonitor) (o : ReadOutcome) : State :=
      takeReadOutcome o { code := none, sequence := none, slip := none }
        { lined with step := m, params := { Params.reset with stepLock := lock, excessRestep := excessRestep, excessLimit := 1 } }
    let near : StepMonitor := { StepMonitor.cleared .inStep with blockFailures := 1, blockEntered := 998 }
    (taking 0 0 near (.mismatch none)).step = { near with blockFailures := 2, blockEntered := 999, blockNoticeRaised := true, window := [.fail] }
      ∧ (taking 0 0 near (.mismatch none)).link.notices[3].isSome = true
      ∧ (taking 0 0 { near with blockNoticeRaised := true } (.mismatch none)).link.notices[3] = none
      ∧ (taking 0 1 near (.mismatch none)).step.conditions = [.excess] ∧ (taking 1 1 near (.mismatch none)).step.conditions = []
      ∧ (taking 1 0 (StepMonitor.cleared .proving) (.mismatch none)).step.conditions = [.provingFailure]
      ∧ (taking 0 0 { near with window := [.fail, .fail], slipCount := 1 } (.mismatch (some .upstream))).step.conditions = [.threshold, .slips]
      ∧ (taking 0 0 { StepMonitor.cleared .proving with blockEntered := 999, provingCount := 2 } .matched).step
        = { StepMonitor.cleared .proving with provingCount := 3, blocksCompleted := 1, window := [.pass] } := by
  decide +kernel

/-- A running line with a new cell and some records waiting. -/
def binding (q : List Record) (cells : List Cell) : State :=
  { running (Cell.new 99 :: cells) with intake := { Intake.reset with queue := q } }

/-- What binding decides for the new cell. -/
def decided (s : State) : Option Content := contentAt (decideNewCell s) 0

theorem test_binding_basics :
    let s := binding [record 5 1] []
    decided s = some .offered ∧ decided (binding [] []) = some .empty
      ∧ decided { s with line := { s.line with feed := FeedSet.empty.put .hostHold true } } = some .empty
      ∧ seen (·.proofOffer) 0 (decideNewCell { s with binding := { Binding.reset with proofPending := true } }) = some true
      ∧ (∀ c : FeedCause, s.line.feed.has c = false) := by
  refine ⟨by decide +kernel, by decide +kernel, by decide +kernel, by decide +kernel, ?_⟩
  intro c
  have h : ∀ i : Fin 29, (binding [record 5 1] []).line.feed[i] = false := by decide +kernel
  exact h c.bit

theorem test_binding_stopPoint :
    let s (p : StopPoint) (v : Option (Fin 32)) : State :=
      { binding [record 5 1] [] with binding := { Binding.reset with stopPoint := p, lastVersion := v } }
    (decideNewCell (s (.armed (.sequence 5)) none)).binding.stopPoint = .met (.sequence 5) 5
      ∧ (decideNewCell (s (.armed (.sequence 5)) none)).line.state = .draining
      ∧ (decideNewCell (s (.armed .versionChange) (some 1))).binding.stopPoint = .met .versionChange 5
      ∧ decided (s (.armed .versionChange) none) = some .offered
      ∧ decided (s (.armed .versionChange) (some 0)) = some .offered
      ∧ decided (s (.armed (.sequence 6)) none) = some .offered := by
  decide +kernel

theorem test_binding_keyWait :
    let s (waited : Nat) : State := { binding [record 5 2] [cell 98 .bound (some (record 4 1)) []] with
      binding := { Binding.reset with lastKey := some 1, keyWaitCount := waited }
      params := { Params.reset with keyWait := 2 } }
    (decideNewCell (s 1)).binding.keyWaitCount = 2 ∧ decided (s 1) = some .empty ∧ decided (s 2) = some .offered := by
  decide +kernel

theorem test_binding_strand :
    let s : State := { binding [{ record 5 2 with kind := .remake }, record 6 1] [] with binding := { Binding.reset with lastKey := some 1 } }
    (decideNewCell s).intake.queue = [] ∧ decided s = some .offered ∧ (decideNewCell s).link.reports.length = 1
      ∧ seen (fun c => c.record.map (·.sequence)) 0 (decideNewCell s) = some (some 6) := by
  decide +kernel

/-! ### Bundles -/

theorem test_bundleClose :
    let s (b : BundleBuilder) : State := { lined with bundles := b }
    answerOf .bundleClose (.bundleClose 2) lined = some (.field, [0, 1])
      ∧ answerOf .bundleClose (.bundleClose 0) { lined with link := (reporting 64).link } = some (.busy, [0, 64])
      ∧ resultOfRequest .bundleClose (.bundleClose 0) { lined with link := (reporting 63).link } = some .ok
      ∧ answerOf .bundleClose (.bundleClose 0) (s (builder true .bundle)) = some (.busy, [1])
      ∧ answerOf .bundleClose (.bundleClose 1) (s (builder true .none)) = some (.ok, [0, 3, 0, 2, 1])
      ∧ answerOf .bundleClose (.bundleClose 1) (s (builder false .none)) = some (.ok, [0, 3, 0, 2, 0])
      ∧ answerOf .bundleClose (.bundleClose 0) (s (builder false .none)) = some (.ok, [0, 3, 0, 0, 0])
      ∧ answerOf .bundleClose (.bundleClose 1) lined = some (.ok, [0, 0, 0, 0, 0]) := by
  decide +kernel

/-- The break decision for a record, with a bundle and a tray open. -/
def breaks (r : Record) (b : OpenBundle) (t : OpenTray) : BreakMark × List Report :=
  let d := decideBreak r { withVersion 1 lined with bundles := { builder false .none with bundle := some b, tray := some t } }
  (d.1, d.2.link.reports)

theorem test_breaks :
    breaks (record 5 1) (openedBundle 0 0) (openedTray 1 0 0) = (.none, [])
      ∧ breaks (record 5 1) (openedBundle 99 9900) (openedTray 1 99 9900) = (.none, [])
      ∧ breaks (record 5 1) (openedBundle 100 100) (openedTray 1 100 100)
        = (.newBundle, [.bundle { bundle := openedBundle 100 100, residual := false, reason := .itemLimit }])
      ∧ breaks (record 5 1) (openedBundle 1 9901) (openedTray 1 1 9901)
        = (.newBundle, [.bundle { bundle := openedBundle 1 9901, residual := false, reason := .bundleWeight }])
      ∧ breaks (record 5 2) (openedBundle 5 5) (openedTray 1 5 5)
        = (.newBundle, [.bundle { bundle := openedBundle 5 5, residual := true, reason := .bundleKey }])
      ∧ breaks (record 5 2) (openedBundle 5 5) (openedTray 20 5 5)
        = (.newTray, [.bundle { bundle := openedBundle 5 5, residual := true, reason := .bundleKey },
            .tray { tray := openedTray 20 5 5, reason := .trayBundles }])
      ∧ breaks (record 5 1) (openedBundle 5 5) (openedTray 1 5 24901)
        = (.newTray, [.bundle { bundle := openedBundle 5 5, residual := false, reason := .trayWeight },
            .tray { tray := openedTray 1 5 24901, reason := .trayWeight }])
      ∧ breaks { record 5 1 with trayKey := 2 } (openedBundle 6 5) (openedTray 1 6 5)
        = (.newTray, [.bundle { bundle := openedBundle 6 5, residual := false, reason := .trayKey },
            .tray { tray := openedTray 1 6 5, reason := .trayKey }]) := by
  decide +kernel

theorem test_breaks_noBundle :
    let s (tray : Option OpenTray) : State := { withVersion 1 lined with bundles := { builder false .none with bundle := none, tray := tray } }
    (decideBreak (record 5 1) (s none)).1 = .newTray
      ∧ (decideBreak (record 5 1) (s (some (openedTray 19 5 5)))).1 = .newBundle
      ∧ (decideBreak (record 5 1) (s (some (openedTray 20 5 5)))).1 = .newTray
      ∧ (decideBreak (record 5 1) (s (some (openedTray 20 5 5)))).2.link.reports = [.tray { tray := openedTray 20 5 5, reason := .trayBundles }] := by
  decide +kernel

theorem test_serialWraps : nextSerial 65535 = 1 ∧ nextSerial 65534 = 65535 := by decide

/-! ### Counters -/

/-- A counter of offers with a threshold. -/
def counter (threshold : Word32) (action : CounterAction) (start : StartMode) (window : Nat) : Counter :=
  { Counter.unconfigured with setup := some { event := .offers, qualifier := none, window := window, threshold := threshold, action := action, start := start }, armed := threshold != 0 }

/-- Counter 1 with a threshold of 1 and a hold, counter 8 behind it, COUNTER_FREEZE as given. -/
def counting (freeze : Nat) : State := { lined with
  counters := { State.reset.counters with all := (State.reset.counters.all.set 0 (counter 1 .noticeHold .free 0)).set 7 (counter 0 .notice .afterFirst 2) }
  params := { Params.reset with counterFreeze := freeze } }

theorem test_eventsCounted :
    let t := tally .offers none (counting 0)
    (t.counters.all[0].value, t.counters.all[0].armed, t.counters.all[0].hold) = (1, false, true)
      ∧ t.line.feed.has (.counter 0) = true ∧ t.link.notices[25].isSome = true
      ∧ (t.counters.all[7].value, t.counters.all[7].started) = (0, true)
      ∧ t.counters.frozen = false
      ∧ ((tally .offers none (counting 1)).counters.frozen, (tally .offers none (counting 1)).counters.source) = (true, some 0)
      ∧ tally .gaps none (counting 0) = counting 0 := by
  decide +kernel

/-- The state with a counter of an event in place 2. -/
def countingOf (e : TallyEvent) (s : State) : State :=
  let c : Counter := { counter 0 .notice .free 0 with setup := some { event := e, qualifier := none, window := 0, threshold := 0, action := .notice, start := .free } }
  { s with counters := { State.reset.counters with all := State.reset.counters.all.set 1 c } }

theorem test_countedOnTheWay :
    let value (t : State) : Word32 := t.counters.all[1].value
    let met : State := { binding [record 5 1] [] with binding := { Binding.reset with stopPoint := .armed (.sequence 5) } }
    value (decideNewCell (countingOf .gaps met)) = 1
      ∧ value (result 7 7 .stacked (countingOf .bundlesClosed (stacking .bundleAndTray))) = 1
      ∧ value (result 7 7 .stackFault (countingOf .bundlesClosed (stacking .bundle))) = 1
      ∧ value (result 7 7 .stacked (countingOf .bundlesClosed (stacking .none))) = 0 := by
  decide +kernel

theorem test_frozenLosesEvents :
    let s := { counting 1 with counters := { (counting 1).counters with frozen := true } }
    tally .offers none s = s := by
  decide +kernel

theorem test_windowEnd :
    let c (progress : Nat) : Counter := { counter 3 .notice .free 2 with value := 5, progress := progress, armed := false }
    let s (progress : Nat) : State := { lined with counters := { State.reset.counters with all := State.reset.counters.all.set 7 (c progress) } }
    (after (.windowEnd 7) (s 1)).counters.all[7] = counter 3 .notice .free 2
      ∧ after (.windowEnd 7) (s 0) = s 0 ∧ after (.windowEnd 0) (s 1) = s 1 := by
  decide +kernel

theorem test_windows_advance :
    let c (start : StartMode) (progress : Nat) : Counter := { counter 3 .notice start 2 with value := 5, progress := progress }
    let s (d : Counter) : State := { lined with counters := { State.reset.counters with all := State.reset.counters.all.set 7 d } }
    (tallyAdvance (s (c .free 0))).counters.all[7] = c .free 1
      ∧ (tallyAdvance (s (c .free 1))).counters.all[7] = counter 3 .notice .free 2
      ∧ (tallyAdvance (s (c .afterFirst 1))).counters.all[7] = c .afterFirst 1
      ∧ (tallyAdvance { s (c .free 1) with counters := { (s (c .free 1)).counters with frozen := true } }).counters.all[7] = c .free 1 := by
  decide +kernel

/-- A counter that an event before "pitch advances" has started moves its window at that advance (log
entry 36); one that "pitch advances" itself starts does not (log entry 10). -/
theorem test_window_of_started :
    let first (e : TallyEvent) : Counter := { counter 1 .notice .free 0 with setup := some { event := e, qualifier := none, window := 0, threshold := 1, action := .notice, start := .free } }
    let s (e : TallyEvent) : State := { lined with counters := { State.reset.counters with all := (State.reset.counters.all.set 0 (first e)).set 7 (counter 3 .notice .afterFirst 2) } }
    let waits (t : State) : Bool × Nat := (t.counters.all[7].started, t.counters.all[7].progress)
    waits (tallyAdvance (tally .gaps none (s .gaps))) = (true, 1)
      ∧ waits (tallyAdvance (s .pitchAdvances)) = (true, 0) := by
  decide +kernel

theorem test_counterSet :
    let set (k event qualifier window action start : Nat) := resultOfRequest .counterSet (.counterSet k event qualifier window 0 action start) lined
    set 1 1 0 65535 1 1 = some .ok ∧ set 8 27 0 0 2 2 = some .ok ∧ set 0 1 0 0 1 1 = some .field ∧ set 9 1 0 0 1 1 = some .field
      ∧ answerOf .counterSet (.counterSet 1 28 0 0 0 1 1) lined = some (.field, [0, 2])
      ∧ answerOf .counterSet (.counterSet 1 1 1 0 0 1 1) lined = some (.field, [0, 3])
      ∧ answerOf .counterSet (.counterSet 1 3 17 0 0 1 1) lined = some (.field, [0, 3])
      ∧ answerOf .counterSet (.counterSet 1 3 16 65536 0 1 1) lined = some (.field, [0, 4])
      ∧ answerOf .counterSet (.counterSet 1 3 16 0 0 3 1) lined = some (.field, [0, 6])
      ∧ answerOf .counterSet (.counterSet 1 3 16 0 0 1 3) lined = some (.field, [0, 7])
      ∧ answerOf .counterSet (.counterSet 1 3 16 0 0 1 2) lined = some (.field, [0, 7])
      ∧ (after .counterSet (asked (.counterSet 1 0 0 0 0 1 1) (counting 0))).counters.all[0] = Counter.unconfigured := by
  decide +kernel

theorem test_counterClear :
    let held := tally .offers none (counting 0)
    answerOf .counterClear (.counterClear 1) held = some (.ok, [0, 0, 0, 1, 0, 0, 1])
      ∧ (after .counterClear (asked (.counterClear 1) held)).line.feed.has (.counter 0) = false
      ∧ (after .counterClear (asked (.counterClear 1) held)).counters.all[0].armed = true
      ∧ answerOf .counterClear (.counterClear 0) held = some (.field, [0, 1])
      ∧ answerOf .counterClear (.counterClear 9) held = some (.field, [0, 1])
      ∧ answerOf .counterClear (.counterClear 2) held = some (.ok, [0, 0, 0, 0, 0, 0, 0]) := by
  decide +kernel

theorem test_counterUnfreeze :
    let frozen := tally .offers none (counting 1)
    answerOf .counterUnfreeze .counterUnfreeze frozen = some (.ok, [1])
      ∧ (after .counterUnfreeze (asked .counterUnfreeze frozen)).counters.frozen = false
      ∧ answerOf .counterUnfreeze .counterUnfreeze lined = some (.ok, [0]) := by
  decide +kernel

/-! ### The advance -/

theorem test_pitchAdvance_running :
    let s := binding [record 5 1] []
    ∀ order ∈ [AdvanceOrder.phaseThenTrack, .phaseFaultAfterTrack, .trackThenPhase, .trackThenLine],
      let t := after (.pitchAdvance order) s
      t.track.cells.map (·.tag) = [100, 99] ∧ contentAt t 0 = some .offered
        ∧ t.bus.txQueue = [{ slot := 0, order := .cell 100 .feed }] ∧ t.track.nextTag = 101 := by
  decide +kernel

theorem test_pitchAdvance_jog :
    let s := inState .idle (running [cell 99 .bound (some (record 5 1)) []])
    let t := after (.pitchAdvance .phaseThenTrack) s
    contentAt t 0 = some .empty ∧ contentAt t 1 = some .condemned ∧ t.bus.txQueue = [] := by
  decide +kernel

theorem test_pitchAdvance_drained :
    let s : State := { running [] with line := { Line.reset with state := .draining, drain := .close }, bundles := builder false .none }
    let t := after (.pitchAdvance .phaseThenTrack) s
    t.line.state = .stopping ∧ t.bundles.bundle = none ∧ t.link.reports.length = 2 := by
  decide +kernel

/-- The part with the exchange of a slot's cell closing, its command sent or still queued. -/
def closing (n : SlotNo) (content : Content) (queuedStill : Bool) : State :=
  let s := at_ n content
  closeExchange n.val 7 n (if queuedStill then { s with bus := { s.bus with txQueue := [{ slot := n, order := .cell 7 .feed }] } } else s)

theorem test_exchangeCloses :
    seen (·.fault) 1 (closing 1 .bound false) = some (some { kind := .noReport, station := some 1 })
      ∧ (stationAt (closing 1 .bound false) 1).map (·.noReportCount) = some 1
      ∧ seen (·.fault) 1 (closing 1 .bound true) = some (some { kind := .busLate, station := some 1 })
      ∧ (stationAt (closing 1 .bound true) 1).map (·.noReportCount) = some 0
      ∧ (closing 1 .bound true).bus.txQueue = []
      ∧ contentAt (closing 0 .offered false) 0 = some .void ∧ (closing 0 .offered false).intake.queue = [record 5 1]
      ∧ seen (·.print) 2 (closing 2 .bound false) = some .failed
      ∧ (closing 6 .condemned false).line.fault = some (.escape 7)
      ∧ (closing 7 .passed false).line.fault = some (.stackSilent 7) := by
  decide +kernel

theorem test_gateCloses :
    let spent (s : State) : State := withStation 6 (fun st => { st with noReportCount := 2 }) s
    contentAt (closing 6 .bound false) 6 = some .passed ∧ (closing 6 .bound false).line.state = .running
      ∧ (closeExchange 6 7 6 (spent (at_ 6 .bound))).line.fault = some (.station 6)
      ∧ (closeExchange 6 7 6 (spent (at_ 6 .condemned))).line.fault = some (.escape 7)
      ∧ (closeExchange 6 7 6 (spent (at_ 6 .condemned))).line.lastLater = some (.station 6)
      ∧ seen (·.escaped) 6 (closing 6 .condemned true) = some true ∧ (closing 6 .condemned true).link.reports.length = 1
      ∧ (closing 6 .void true).line.fault = some (.unaddressedEscape 7)
      ∧ (closing 6 .proof true).line.fault = some (.proofEscape 7) ∧ (closing 6 .proof true).link.notices[8].isSome = true := by
  decide +kernel

theorem test_stackerCloses :
    let silent (pendingClose : ClosePending) : State := closeExchange 7 7 7 (stacking pendingClose)
    ((silent .none).bundles.bundle.map fun b => (b.items, b.unconfirmed)) = some (1, 1) ∧ (silent .none).bundles.inFlight = none
      ∧ (silent .none).line.fault = some (.stackSilent 7) ∧ (silent .none).link.reports.length = 1
      ∧ (silent .bundle).bundles.bundle = none ∧ (silent .bundle).link.reports.length = 2
      ∧ (silent .bundleAndTray).bundles.tray = none ∧ (silent .bundleAndTray).link.reports.length = 3
      ∧ (closeExchange 7 7 7 (oneCell 7 { cell 7 .passed none [{ slot := 7, closing := 7 }] with escaped := true })).line.fault
        = some (.stackSilent 7) := by
  decide +kernel

theorem test_exchangeCloses_proof :
    contentAt (closeExchange 0 7 0 proofOffer) 0 = some .void ∧ (closeExchange 0 7 0 proofOffer).binding.proofPending = false := by
  decide +kernel

/-- The commands derived for a cell at its station. -/
def derived (n : SlotNo) (c : Cell) (s : State) : List BusOrder :=
  ((stationAt s n).map fun st => (deriveFor n st.role n.val c s).bus.txQueue.map (·.order)).getD []

theorem test_commandsDerived :
    let s (n : SlotNo) (c : Cell) := derived n c (oneCell n.val c)
    let held (content : Content) : Cell := cell 7 content (some (record 5 1)) []
    s 0 (held .offered) = [.cell 7 .feed] ∧ s 1 { held .bound with demands := [{ slot := 1, fed := false }] } = [.cell 7 .feed]
      ∧ s 1 (held .bound) = [] ∧ s 2 (held .bound) = [.cell 7 (.print 5 [[65]] none)]
      ∧ s 3 { held .bound with print := .printed } = [.cell 7 (.feedCarrier 5)] ∧ s 3 (held .bound) = []
      ∧ s 4 { held .bound with carrier := .fed } = [.cell 7 .read] ∧ s 5 (held .void) = [.cell 7 .seal]
      ∧ s 6 (held .bound) = [.cell 7 .pass] ∧ s 6 (held .proof) = [.cell 7 .divert]
      ∧ s 7 (held .passed) = [.cell 7 (.stack .newTray 1 1)] ∧ s 7 { held .passed with escaped := true } = [.cell 7 .setAside]
      ∧ s 6 (held .empty) = [] := by
  decide +kernel

theorem test_commandsDerived_refused :
    let c : Cell := cell 7 .bound (some (record 5 1)) []
    let s := oneCell 2 c
    let full : State := { s with track := { s.track with printJobs := 2 } }
    seen (·.print) 2 (deriveFor 2 .printer 2 c full) = some .refused
      ∧ contentAt (deriveFor 2 .printer 2 c full) 2 = some .condemned
      ∧ seen (·.fault) 2 (deriveFor 2 .printer 2 c (withStation 2 (fun st => { st with health := .mismatch }) s))
        = some (some { kind := .stationUnavailable, station := some 2 })
      ∧ positionWith s .carrierFeeder = some (2 + 1) := by
  decide +kernel

/-! ### The chain -/

/-- The part with a chain of 16 and a phase monitor. -/
def chained (m : PhaseMonitor) : State := { running [cell 99 .bound (some (record 5 1)) []] with phase := m, params := { Params.reset with chainLength := 16 } }

/-- A monitor in LOCKED with some counts. -/
def locked (count since : Nat) (window : List Nat) : PhaseMonitor :=
  { PhaseMonitor.cleared .locked with chainCount := count, sinceMark := since, window := window }

theorem test_chainWrap :
    (after .chainWrap (chained (locked 15 15 [0]))).phase = { locked 0 16 [0, 0] with zeroMark := false }
      ∧ after .chainWrap (chained (locked 14 14 [0])) = chained (locked 14 14 [0])
      ∧ (takePulse (chained (locked 14 14 [0]))).1.phase.chainCount = 15
      ∧ (takePulse (chained { locked 0 16 [0] with zeroMark := true })).1.phase.chainCount = 1
      ∧ (takePulse (chained (locked 0 16 [0]))).1.phase.window = [1]
      ∧ (takePulse (chained (locked 0 16 [0, 1]))).1.phase.lossCause = some .missing
      ∧ after .chainWrap lined = lined := by
  decide +kernel

theorem test_homeMark :
    (after .homeMark (chained (PhaseMonitor.cleared .seeking))).phase.state = .acquiring
      ∧ (after .homeMark (chained { PhaseMonitor.cleared .acquiring with sinceMark := 16 })).phase.state = .locked
      ∧ (after .homeMark (chained { PhaseMonitor.cleared .acquiring with sinceMark := 15, chainCount := 15 })).phase.restarts = 1
      ∧ (after .homeMark (chained (locked 0 16 [0]))).phase.zeroMark = true
      ∧ (after .homeMark (chained (locked 3 3 [0]))).phase.window = [1]
      ∧ (after .homeMark (chained (locked 3 0 [0]))).phase = locked 3 0 [0]
      ∧ after .homeRelease (after .homeMark lined) = { lined with moment := 1 } := by
  decide +kernel

theorem test_phaseLost_advance :
    let s : State := { chained (locked 0 16 [0, 1]) with
      track := { State.reset.track with cells := [cell 99 .offered (some (record 6 1)) [], cell 98 .bound (some (record 5 1)) [], cell 97 .void none []] } }
    let lost : Condemn := { kind := .phaseLost, station := none }
    let r := takePulse s
    r.2 = true ∧ r.1.phase.state = .lost ∧ seen (·.offerMark) 0 r.1 = some (some lost)
      ∧ contentAt r.1 1 = some .condemned ∧ seen (·.fault) 1 r.1 = some (some lost) ∧ seen (·.fault) 2 r.1 = some none
      ∧ r.1.line.feed = FeedSet.empty.put .phase true ∧ r.1.line.state = .running
      ∧ (after (.pitchAdvance .phaseThenTrack) s).line.fault = some .phase := by
  decide +kernel

theorem test_phaseShift :
    let shifted (m : PhaseMonitor) : Bool := (after .homeMark (chained m)).link.notices[5].isSome
    let lost (count : Nat) (last : Option Nat) : PhaseMonitor :=
      { PhaseMonitor.cleared .lost with chainCount := count, sinceMark := 1, lastMisplaced := last }
    shifted { locked 3 3 [0] with lastMisplaced := some 3 } = true ∧ shifted { locked 3 3 [0] with lastMisplaced := some 2 } = false
      ∧ shifted { locked 3 3 [0, 1] with lastMisplaced := some 3 } = true
      ∧ shifted (lost 3 (some 3)) = true ∧ shifted (lost 3 (some 4)) = false
      ∧ (after .homeMark (chained (lost 3 none))).phase = { lost 3 (some 3) with sinceMark := 0 }
      ∧ (after .homeMark (chained (lost 0 (some 3)))).phase = { lost 0 none with sinceMark := 0 } := by
  decide +kernel

theorem test_phaseLost :
    let t := after .homeMark (chained (locked 3 3 [0, 1]))
    t.phase.state = .lost ∧ t.phase.lossCause = some (.misplaced 3) ∧ contentAt t 0 = some .condemned
      ∧ t.line.fault = some .phase ∧ t.line.feed.has .phase = true := by
  decide +kernel

/-! ### The invariants hold of a running line -/

/-- A running line that keeps every invariant, with an advance waiting. -/
def steady : State := { running [Cell.new 99] with pending := [.pitchAdvance .phaseThenTrack] }

theorem test_steady_line : EstopHalts steady ∧ TimersFollow steady ∧ LinkBounds steady ∧ BacklogCause steady := by
  refine ⟨?_, ?_, ?_, ?_⟩ <;> simp only [EstopHalts, TimersFollow, LinkBounds, BacklogCause] <;> decide +kernel

theorem test_steady_monitors : StepCause steady ∧ PhaseCause steady ∧ CounterCauses steady := by
  refine ⟨?_, ?_, ?_⟩ <;> simp only [StepCause, PhaseCause, CounterCauses] <;> decide +kernel

theorem test_steady_stations : StationCauses steady := by
  have h : ∀ n, steady.line.feed.has (.station n) = suppresses steady n := by decide +kernel
  intro n
  rw [h n]
  simp [suppresses, Option.any_eq_true]

theorem test_steady_track : TrackTags steady := by
  refine ⟨?_, by decide +kernel, ?_⟩
  · have h : ∀ n, (stationAt steady n).all (fun st => st.position.all (· ≤ 63)) = true := by decide +kernel
    intro n st p hst hp
    simpa [hst, hp] using h n
  · intro p c hc
    match p with
    | 0 =>
      obtain rfl : Cell.new 99 = c := by simpa [steady, running, inState] using hc
      decide
    | p + 1 => simp [steady, running, inState] at hc

/-- A running line that has an offer at the main feeder, one record waiting behind it and reports enough for
BACKLOG. -/
def busy : State :=
  { withVersion 2 (running [cell 99 .offered (some (record 5 1)) [{ slot := 0, closing := 0 }]]) with
    intake := { queue := [record 6 1], lastSequence := 6, lastKeys := none }
    line := { Line.reset with state := .running, feed := FeedSet.empty.put .backlog true }
    link := { HostLink.reset with reports := List.replicate 64 report }
    pending := [.pitchAdvance .phaseThenTrack] }

theorem test_busy_cells (p : Nat) (c : Cell) (h : busy.track.cells[p]? = some c) :
    p = 0 ∧ c = cell 99 .offered (some (record 5 1)) [{ slot := 0, closing := 0 }] := by
  match p with
  | 0 => exact ⟨rfl, by simpa [busy, withVersion, running, inState] using h.symm⟩
  | p + 1 => simp [busy, withVersion, running, inState] at h

theorem test_busy_records : RecordByContent busy := by
  intro c hc
  obtain ⟨p, h⟩ := List.mem_iff_getElem?.mp hc
  obtain ⟨-, rfl⟩ := test_busy_cells p c h
  decide

theorem test_busy_stations : StationsPlaced busy := by
  have h : ∀ n, (stationAt busy n).all (fun st => (st.position.isNone == (st.role == .drive)) && st.position.all fun p =>
      p ≤ 63 && (List.finRange 16).all fun m => m == n || (stationAt busy m).all fun other => other.position != some p) = true := by
    decide +kernel
  intro n st hst
  have hn := h n
  simp only [hst, Option.all_some, Bool.and_eq_true] at hn
  refine ⟨by cases hp : st.position <;> cases hr : st.role <;> simp_all, fun p hp => ?_⟩
  have hk := hn.2
  simp only [hp, Option.all_some, Bool.and_eq_true, decide_eq_true_eq, List.all_eq_true] at hk
  refine ⟨hk.1, fun m other hm ho => ?_⟩
  have := hk.2 m (List.mem_finRange m)
  simpa [hm, ho] using this

theorem test_busy_strung : Strung busy :=
  ⟨0, 6, 7, 6, 7, by unfold Stands; decide +kernel, by unfold Stands; decide +kernel, by unfold Stands; decide +kernel, by decide, by decide⟩

theorem test_busy_placed : CellsPlaced busy := by
  intro p c h
  obtain ⟨rfl, rfl⟩ := test_busy_cells p c h
  refine ⟨fun _ => ⟨rfl, 0, by unfold Stands; decide +kernel, by decide⟩, fun k => ?_, fun k => ?_⟩
  · exact absurd k (by decide)
  · exact absurd k (by decide)

theorem test_busy_queue : QueueOrdered busy := by
  refine ⟨?_, ?_, ?_, fun c hc ho r hr => ?_⟩
  · simp [RemakesFirst, busy]
  · simp [busy]
  · simp only [busy, List.mem_singleton, forall_eq]
    decide
  · obtain ⟨p, h⟩ := List.mem_iff_getElem?.mp hc
    obtain ⟨-, rfl⟩ := test_busy_cells p c h
    obtain rfl : record 5 1 = r := by simpa [cell] using hr
    refine ⟨by simp [RemakesFirst, busy], fun _ => ⟨by decide, ?_⟩⟩
    simp only [busy, List.mem_singleton, forall_eq]
    decide

theorem test_busy_versions : VersionsCounted busy := by
  have h : ∀ v : Fin 32, (busy.versions[v].refCount == busy.intake.queue.countP (fun r => r.version == v)
      + busy.track.cells.countP (fun c => c.record.any fun r => r.version == v)
      && (busy.versions[v].refCount == 0 || busy.versions[v].definition.isSome)) = true := by decide +kernel
  intro v
  have hv := h v
  simp only [Bool.and_eq_true, Bool.or_eq_true, beq_iff_eq, Option.isSome_iff_ne_none] at hv
  exact ⟨hv.1, fun hp => hv.2.resolve_left (by omega)⟩

theorem test_busy_settled : Settled busy := by
  refine ⟨test_busy_records, test_busy_stations, fun _ => test_busy_strung, test_busy_placed, by decide +kernel, test_busy_queue, ?_,
    test_busy_versions, ?_, by decide +kernel⟩
  · unfold RecordsBounded
    decide +kernel
  · unfold BacklogCause
    decide +kernel

theorem test_busy_steps : ∃ t, step busy = .next t := ⟨_, rfl⟩

theorem test_reset_holdsNothing : reportsToCome State.reset = 0 ∧ heldRecords State.reset = 0 ∧ withdrawnAhead State.reset = 0 := by
  decide +kernel

theorem test_steady_steps : ∃ t, step steady = .next t := ⟨_, rfl⟩

end Sys2Proof.Machine.Tests
end

section
/-! What a change of a configured station does once it is seen (R12, R14, R15): the announcement of the change,
the fault it may hand, and StationChangeJudged. -/

namespace Sys2Proof.Machine

/-! ### What a fault leaves of the notice set -/

/-- A fault leaves every notice but the LINE notice (R179, R182). -/
theorem handFault_notice_other (c : FaultCause) (s : State) (i : Fin 33) (h : i ≠ 0) :
    (handFault c s).link.notices[i] = s.link.notices[i] := by
  unfold handFault
  split
  · rfl
  · unfold enterFaulted changeLine
    dsimp only
    rw [raise_notice_other (lineNotice _ _) _ i h]
    split
    · rw [issueDrive_eq]
    · rfl

/-! ### A change of recorded status or health -/

/-- The STATION notices come behind the nine notices that no slot has (R196). -/
theorem stationNotice_slot_ne (n : SlotNo) (st : Option Station) {i : Fin 33} (unslotted : i.val < 9) :
    (stationNotice n st).slot ≠ i := fun same => by
  have value : 9 + n.val = i.val := congrArg Fin.val same
  omega

/-- The state that a seen change of a station leaves before it is judged for a fault: the new entry, the
STATION notice, and STATION(n) put or removed for a feeding role. -/
def announceStation (n : SlotNo) (new : Station) (s : State) : State :=
  let told := raise (stationNotice n (some new)) (putStation n (some new) s)
  if new.role.feeding then putCause (.station n) (!new.usable) told else told

theorem announces_announceStation (n : SlotNo) (new : Station) (s : State) :
    Announces (putStation n (some new) s) (announceStation n new s) := by
  have told := announces_raise (stationNotice n (some new)) (putStation n (some new) s)
  unfold announceStation
  dsimp only
  split
  · exact told.trans (announces_putCause _ _ _)
  · exact told

/-- The announcement moves no cause but STATION(n), and that one for a feeding role alone (R14). -/
theorem announceStation_has (n : SlotNo) (new : Station) (s : State) (c : FeedCause) :
    (announceStation n new s).line.feed.has c
      = if c = .station n ∧ new.role.feeding = true then !new.usable else s.line.feed.has c := by
  unfold announceStation
  by_cases feeding : new.role.feeding = true
  · simp [feeding, putCause_has]
  · simp [feeding]

/-- The STATION notice stands whatever the FEED notice of the same change does (R12, R169). -/
theorem noticed_announceStation (n : SlotNo) (new : Station) (s : State) :
    Noticed (announceStation n new s) (stationNotice n (some new)).slot (stationNotice n (some new)) := by
  have told := noticed_raise (stationNotice n (some new)) (putStation n (some new) s)
  have notFeed : (stationNotice n (some new)).slot ≠ 1 := stationNotice_slot_ne n _ (by decide)
  unfold announceStation
  dsimp only
  split
  · unfold Noticed at *
    rwa [putCause_notice_other _ _ _ _ notFeed]
  · exact told

theorem stationChanged_unseen {n : SlotNo} {old new : Station} {s : State}
    (recorded : old.recorded = new.recorded) (health : old.health = new.health) :
    stationChanged n old new s = putStation n (some new) s :=
  if_pos ⟨recorded, health⟩

/-- A seen change is announced, and then hands the fault if it is a faulting one (R106). -/
theorem stationChanged_seen {n : SlotNo} {old new : Station} {s : State}
    (seen : ¬ (old.recorded = new.recorded ∧ old.health = new.health)) :
    stationChanged n old new s
      = if faultingChange old new then handFault (.station n) (announceStation n new s)
        else announceStation n new s :=
  if_neg seen

theorem faultingChange_iff (old new : Station) :
    faultingChange old new = true ↔
      (new.role.feeding = false ∧ old.usable = true ∧ new.usable = false)
        ∨ (new.recorded = .guardOpen ∧ old.recorded ≠ .guardOpen) := by
  simp [faultingChange, Role.disposing, and_assoc]

/-- A seen change sets the notice and the causes as its announcement does: a fault handed moves neither. -/
theorem stationChanged_told {n : SlotNo} {old new : Station} {s : State}
    (seen : ¬ (old.recorded = new.recorded ∧ old.health = new.health)) :
    Noticed (stationChanged n old new s) (stationNotice n (some new)).slot (stationNotice n (some new))
      ∧ (stationChanged n old new s).line.feed = (announceStation n new s).line.feed := by
  have told := noticed_announceStation n new s
  have notLine : (stationNotice n (some new)).slot ≠ 0 := stationNotice_slot_ne n _ (by decide)
  rw [stationChanged_seen seen]
  split
  · refine ⟨?_, handFault_feed _ _⟩
    unfold Noticed at *
    rwa [handFault_notice_other _ _ _ notLine]
  · exact ⟨told, rfl⟩

/-- Settles O19: a seen change is its announcement, followed by the fault exactly when the change is a
faulting one. -/
theorem stationChangeJudged : Obligations.StationChangeJudged := by
  intro n f st s configured new u t faulting
  have changed : t = stationChanged n st new s := updateStation_of configured f
  refine ⟨fun recorded health => ?_, fun moved => ?_⟩
  · rw [changed, stationChanged_unseen recorded.symm health.symm]
    rfl
  · have seen : ¬ (st.recorded = new.recorded ∧ st.health = new.health) := fun ⟨recorded, health⟩ =>
      moved.elim (fun h => h recorded.symm) (fun h => h health.symm)
    obtain ⟨noticed, feed⟩ := stationChanged_told (n := n) (s := s) seen
    have judged : faultingChange st new = true ↔ faulting := faultingChange_iff st new
    refine ⟨?_, fun c => ?_, fun quiet => ?_, fun fault => ⟨announceStation n new s, ?_, ?_⟩⟩
    · rw [changed]
      exact noticed
    · rw [changed, feed]
      exact announceStation_has n new s c
    · rw [changed, stationChanged_seen seen, if_neg (mt judged.mp quiet)]
      exact announces_announceStation n new s
    · rw [changed, stationChanged_seen seen, if_pos (judged.mpr fault)]
    · exact announces_announceStation n new s

end Sys2Proof.Machine
end

section
/-! The turn of the polls (R17, R18): the first slot that a search of the table finds, the slot next in turn
after the poll pointer, and PollsInTurn. -/

namespace Sys2Proof.Machine

/-! ### The first slot -/

/-- A search of the slots finds the lowest one that passes the test. -/
theorem find?_allSlots_eq_some_iff {test : SlotNo → Bool} {n : SlotNo} :
    allSlots.find? test = some n ↔ test n = true ∧ ∀ m : SlotNo, m.val < n.val → test m = false := by
  rw [allSlots, ← Fin.find?_eq_find?_finRange, Fin.find?_eq_some_iff]
  rfl

theorem find?_allSlots_eq_none_iff {test : SlotNo → Bool} :
    allSlots.find? test = none ↔ ∀ n, test n = false := by
  simp [allSlots]

theorem pendingIdentity_eq_none_iff (s : State) :
    pendingIdentity s = none ↔ ∀ n st, stationAt s n = some st → st.identityPending = false := by
  rw [pendingIdentity, find?_allSlots_eq_none_iff]
  refine forall_congr' fun n => ?_
  cases stationAt s n <;> simp

/-! ### The slot next in turn -/

/-- A slot above the pointer is reached without a wrap. -/
theorem pollDistance_above {p : Nat} {n : SlotNo} (above : p < slotNumber n) : pollDistance p n = n.val - p := by
  unfold pollDistance
  unfold slotNumber at above
  omega

/-- A slot not above the pointer is reached after the wrap from 16 to 1 (R18). -/
theorem pollDistance_wrapped {p : Nat} {n : SlotNo} (wrapped : ¬ p < slotNumber n) :
    pollDistance p n = n.val + 16 - p := by
  unfold pollDistance
  unfold slotNumber at wrapped
  omega

/-- The configured slot at the least distance from the pointer is the one polled next (R18). -/
theorem nextPoll_of_nearest {s : State} {n : SlotNo} (inRange : s.bus.pollPointer ≤ 16)
    (configured : (stationAt s n).isSome = true)
    (nearest : ∀ m, (stationAt s m).isSome = true →
      pollDistance s.bus.pollPointer n ≤ pollDistance s.bus.pollPointer m) :
    nextPoll s = some n := by
  unfold nextPoll
  by_cases above : s.bus.pollPointer < slotNumber n
  · have first : (allSlots.find? fun m => s.bus.pollPointer < slotNumber m && (stationAt s m).isSome) = some n := by
      refine find?_allSlots_eq_some_iff.mpr ⟨by simp [above, configured], fun m lower => ?_⟩
      refine Bool.eq_false_iff.mpr fun found => ?_
      obtain ⟨mAbove, mConfigured⟩ : s.bus.pollPointer < slotNumber m ∧ (stationAt s m).isSome = true := by
        simpa only [Bool.and_eq_true, decide_eq_true_eq] using found
      have := nearest m mConfigured
      rw [pollDistance_above above, pollDistance_above mAbove] at this
      unfold slotNumber at mAbove
      omega
    simp only [first, Option.some_or]
  · have noneAbove : (allSlots.find? fun m => s.bus.pollPointer < slotNumber m && (stationAt s m).isSome) = none := by
      refine find?_allSlots_eq_none_iff.mpr fun m => ?_
      refine Bool.eq_false_iff.mpr fun found => ?_
      obtain ⟨mAbove, mConfigured⟩ : s.bus.pollPointer < slotNumber m ∧ (stationAt s m).isSome = true := by
        simpa only [Bool.and_eq_true, decide_eq_true_eq] using found
      have := nearest m mConfigured
      rw [pollDistance_wrapped above, pollDistance_above mAbove] at this
      unfold slotNumber at mAbove
      omega
    have first : (allSlots.find? fun m => (stationAt s m).isSome) = some n := by
      refine find?_allSlots_eq_some_iff.mpr ⟨configured, fun m lower => ?_⟩
      refine Bool.eq_false_iff.mpr fun mConfigured => ?_
      have mWrapped : ¬ s.bus.pollPointer < slotNumber m := by
        unfold slotNumber at above ⊢
        omega
      have := nearest m mConfigured
      rw [pollDistance_wrapped above, pollDistance_wrapped mWrapped] at this
      omega
    simp only [noneAbove, first, Option.none_or]

/-! ### The sends -/

/-- With the bus free, no command queued and no identity request pending, the slot next in turn is polled and
the pointer becomes its number (R17, R18). -/
theorem execSendPoll_of_next {s : State} {n : SlotNo} {st : Station} (free : s.bus.inProgress = none)
    (noCommand : s.bus.txQueue = []) (noIdentity : pendingIdentity s = none) (next : nextPoll s = some n)
    (configured : stationAt s n = some st) :
    execSendPoll s = .next (sendFrame n st .poll (nat1 0x10) { s with bus := { s.bus with pollPointer := slotNumber n } }) := by
  simp only [execSendPoll, free, noCommand, noIdentity, next, configured]

theorem execSendCommand_keeps_pollPointer {s t : State} (sent : execSendCommand s = .next t) :
    t.bus.pollPointer = s.bus.pollPointer := by
  unfold execSendCommand at sent
  split at sent
  · split at sent <;> cases sent <;> rfl
  · cases sent
    rfl

theorem execSendIdentityRequest_keeps_pollPointer {s t : State} (sent : execSendIdentityRequest s = .next t) :
    t.bus.pollPointer = s.bus.pollPointer := by
  unfold execSendIdentityRequest at sent
  split at sent
  · split at sent <;> cases sent <;> rfl
  · cases sent
    rfl

/-- Settles O25: the slot at the least distance after the pointer is the one that the search of the table,
with its wrap, finds. -/
theorem pollsInTurn : Obligations.PollsInTurn := by
  refine ⟨rfl, ?_, fun s t sent => ?_⟩
  · intro s n st free noCommand noIdentity inRange configured nearest
    have next : nextPoll s = some n := by
      refine nextPoll_of_nearest inRange (by simp [configured]) fun m mConfigured => ?_
      obtain ⟨st', mStation⟩ := Option.isSome_iff_exists.mp mConfigured
      exact nearest m st' mStation
    exact execSendPoll_of_next free noCommand ((pendingIdentity_eq_none_iff s).mpr noIdentity) next configured
  · exact sent.elim execSendCommand_keeps_pollPointer execSendIdentityRequest_keeps_pollPointer

end Sys2Proof.Machine
end

section
/-! PURGE (R35): how a fold of releases counts the versions down, what the purged queue leaves of the fresh
count, when the fall raises QUEUE_LOW (R38), and PurgeRemoves. -/

namespace Sys2Proof.Machine

/-! ### Versions counted down (R42) -/

/-- The version table after the release of records: each count falls by the number of them that are of the
version (R42). -/
def countedDown (gone : List Record) (versions : Vector VersionEntry 32) : Vector VersionEntry 32 :=
  Vector.ofFn fun v => { versions[v] with refCount := versions[v].refCount - gone.countP (·.version == v) }

@[simp] theorem countedDown_nil (versions : Vector VersionEntry 32) : countedDown [] versions = versions := by
  ext i hi
  simp [countedDown]

/-- The release of the first record and then of the others counts one down for its version. -/
theorem countedDown_cons (r : Record) (gone : List Record) (s : State) :
    countedDown (r :: gone) s.versions = countedDown gone (releaseVersion r s).versions := by
  refine Vector.ext fun i hi => ?_
  by_cases same : r.version.val = i
  · have isVersion : r.version = ⟨i, hi⟩ := Fin.ext same
    simp [countedDown, releaseVersion, setRefCount, isVersion, Nat.sub_sub, Nat.add_comm 1]
  · have notVersion : r.version ≠ ⟨i, hi⟩ := fun h => same (congrArg Fin.val h)
    simp [countedDown, releaseVersion, setRefCount, same, notVersion]

/-- Releasing records one after the other changes the version table alone. -/
theorem foldl_releaseVersion (gone : List Record) (s : State) :
    gone.foldl (fun s r => releaseVersion r s) s = { s with versions := countedDown gone s.versions } := by
  induction gone generalizing s with
  | nil => simp
  | cons r gone ih =>
    rw [List.foldl_cons, ih, countedDown_cons]
    rfl

/-! ### The purged queue and the fresh count (R27, R35) -/

/-- A PURGE changes the records of the queue and the counts of the versions alone. -/
theorem purgeQueue_eq (fromSequence : Nat) (s : State) :
    purgeQueue fromSequence s = { s with
      intake := { s.intake with queue := s.intake.queue.filter (!purged fromSequence ·) }
      versions := countedDown (s.intake.queue.filter (purged fromSequence)) s.versions } :=
  foldl_releaseVersion _ _

theorem isFresh_of_purged {fromSequence : Nat} {r : Record} (h : purged fromSequence r = true) : r.isFresh = true :=
  (Bool.and_eq_true_iff.mp h).1

/-- The fresh count falls by the number of records removed: each of them is FRESH, and the cells are as
they were (R27). -/
theorem freshCount_purgeQueue (fromSequence : Nat) (s : State) :
    freshCount (purgeQueue fromSequence s) + (s.intake.queue.filter (purged fromSequence)).length = freshCount s := by
  have allFresh : (s.intake.queue.filter (purged fromSequence)).countP Record.isFresh
      = (s.intake.queue.filter (purged fromSequence)).length :=
    List.countP_eq_length.mpr fun r removed => isFresh_of_purged (List.mem_filter.mp removed).2
  have parted := List.countP_eq_countP_filter_add s.intake.queue Record.isFresh (purged fromSequence)
  rw [purgeQueue_eq]
  dsimp only [freshCount]
  omega

/-! ### The request -/

/-- A fall from a value raises QUEUE_LOW just when it crosses the mark (R38). -/
theorem freshFell_eq (before : Nat) (s : State) :
    freshFell before s = if s.params.queueLowMark ≤ before ∧ freshCount s < s.params.queueLowMark then
      raise (.queueLow {
        fresh := freshCount s
        room := 256 - freshCount s
        entries := s.intake.queue.length
        lastSequence := s.intake.lastSequence }) s
    else s := by
  simp only [freshFell, freeRoom, Bool.and_eq_true, decide_eq_true_eq]

/-- A PURGE from sequence 0 is refused FIELD and changes nothing (R35). -/
theorem takePurge_zero (s : State) : takePurge 0 s = (Answer.refuse .field [0, 1], s) := rfl

/-- Any other PURGE is taken in every line state (R35). -/
theorem takePurge_pos {fromSequence : Nat} (s : State) (h : fromSequence ≠ 0) :
    takePurge fromSequence s = (Answer.refuse .ok (nat2 (s.intake.queue.filter (purged fromSequence)).length
        ++ opt4 ((s.intake.queue.filter (purged fromSequence)).map (·.sequence)).min?),
      freshFell (freshCount s) (purgeQueue fromSequence s)) := by
  rw [takePurge, if_neg h]
  rfl

/-- Settles O13: the removed records are FRESH, so the fresh count falls by their number, and releasing them
one by one is the same as counting each version down by its own. -/
theorem purgeRemoves : Obligations.PurgeRemoves := by
  intro s number fromSequence rest requested
  have purgedState := purgeQueue_eq fromSequence (taken rest s)
  have fall := freshCount_purgeQueue fromSequence (taken rest s)
  have lowered := freshFell_eq (freshCount (taken rest s)) (purgeQueue fromSequence (taken rest s))
  rw [purgedState] at fall lowered
  refine ⟨fun zero => ?_, fun positive => ⟨fall, ?_⟩⟩
  · subst zero
    exact serve_answered requested rfl (takePurge_zero _)
  · refine serve_answered requested rfl ((takePurge_pos _ positive).trans ?_)
    rw [purgedState, lowered]
    rfl

end Sys2Proof.Machine
end

section
/-! Condemnation by a cell's content (R63, R64) and late results (R59, R60): the equations of `Cell.condemn` by
content, when a result finds no exchange, what the late count leaves alone in the station table, and
CondemnByContent and LateResultDiscarded. -/

namespace Sys2Proof.Machine

/-! ### The equations of condemnation (R63, R64) -/

theorem laterFault_eq (c : Cell) : c.laterFault = { c with laterFaults := min 255 (c.laterFaults + 1) } := rfl

/-- The first fault of a cell is kept (R64). -/
theorem addFault_first {c : Cell} (k : Condemn) (sound : c.fault = none) : c.addFault k = { c with fault := some k } := by
  rw [Cell.addFault, sound]

/-- Any further fault is only counted (R64). -/
theorem addFault_further {c : Cell} (k : Condemn) (faulty : c.fault ≠ none) : c.addFault k = c.laterFault := by
  obtain ⟨first, isFirst⟩ := Option.ne_none_iff_exists'.mp faulty
  rw [Cell.addFault, isFirst]

theorem condemn_bound {c : Cell} (k : Condemn) (bound : c.content = .bound) :
    c.condemn k = { c with content := .condemned, fault := some k } := by
  rw [Cell.condemn, bound]

/-- A cell that the gate diverts anyway keeps its content and takes the fault. -/
theorem condemn_diverting {c : Cell} (k : Condemn)
    (diverting : c.content = .condemned ∨ c.content = .void ∨ c.content = .proof) : c.condemn k = c.addFault k := by
  obtain condemned | void | proof := diverting
  · rw [Cell.condemn, condemned]
  · rw [Cell.condemn, void]
  · rw [Cell.condemn, proof]

/-- The first cause for an offer is kept as its mark (R65). -/
theorem condemn_unmarked_offer {c : Cell} (k : Condemn) (offered : c.content = .offered) (unmarked : c.offerMark = none) :
    c.condemn k = { c with offerMark := some k } := by
  rw [Cell.condemn, offered, unmarked]

/-- Any further cause for an offer is only counted (R65). -/
theorem condemn_marked_offer {c : Cell} (k : Condemn) (offered : c.content = .offered) (marked : c.offerMark ≠ none) :
    c.condemn k = c.laterFault := by
  obtain ⟨mark, isMark⟩ := Option.ne_none_iff_exists'.mp marked
  rw [Cell.condemn, offered, isMark]

/-- A cell that holds nothing, or whose item has left, is not touched. -/
theorem condemn_untouched {c : Cell} (k : Condemn)
    (settled : c.content = .empty ∨ c.content = .passed ∨ c.content = .diverted) : c.condemn k = c := by
  obtain empty | passed | diverted := settled
  · rw [Cell.condemn, empty]
  · rw [Cell.condemn, passed]
  · rw [Cell.condemn, diverted]

/-- Settles O27: one equation of `Cell.condemn` for each row of R63's table. -/
theorem condemnByContent : Obligations.CondemnByContent := by
  intro k c
  refine ⟨condemn_bound k, fun diverting => ⟨fun sound => ?_, fun faulty => ?_⟩,
    fun offered => ⟨condemn_unmarked_offer k offered, fun marked => ?_⟩, condemn_untouched k⟩
  · rw [condemn_diverting k diverting, addFault_first k sound]
  · rw [condemn_diverting k diverting, addFault_further k faulty, laterFault_eq]
  · rw [condemn_marked_offer k offered marked, laterFault_eq]

/-! ### A result that finds no exchange (R59, R60) -/

theorem hasExchange_eq_false_iff {n : SlotNo} {c : Cell} : c.hasExchange n = false ↔ ∀ e ∈ c.exchanges, e.slot ≠ n := by
  simp [Cell.hasExchange]

/-- No cell takes a result exactly when no cell with its tag has an exchange open for its station. -/
theorem exchangePosition_eq_none_iff {s : State} {n : SlotNo} {t : Tag} :
    exchangePosition s n t = none ↔ ∀ c ∈ s.track.cells, c.tag = t → ∀ e ∈ c.exchanges, e.slot ≠ n := by
  simp [exchangePosition, hasExchange_eq_false_iff]

theorem takeResult_of_no_exchange {s : State} {n : SlotNo} {t : Tag} (o : StationOutcome)
    (late : exchangePosition s n t = none) : takeResult n t o s = lateResult n s := by
  rw [takeResult, late]

/-! ### The station's late count (R8, R60) -/

theorem updateStation_unconfigured {n : SlotNo} {s : State} (unconfigured : stationAt s n = none) (f : Station → Station) :
    updateStation n f s = s := by
  rw [updateStation, unconfigured]

/-- A late result moves the late count of its station alone: the count is neither recorded status nor health. -/
theorem updateStation_afterLate {n : SlotNo} {st : Station} {s : State} (configured : stationAt s n = some st) :
    updateStation n Station.afterLate s = putStation n (some st.afterLate) s := by
  rw [updateStation_of configured]
  exact stationChanged_unseen rfl rfl

/-- The track counts a late result (R60). -/
def countedLate (s : State) : State :=
  { s with track := { s.track with lateCount := min 65535 (s.track.lateCount + 1) } }

@[simp] theorem stationAt_countedLate (s : State) (n : SlotNo) : stationAt (countedLate s) n = stationAt s n := rfl

/-- The track, the station table and the tally counters take a late result one after the other (R60). -/
theorem lateResult_eq (n : SlotNo) (s : State) :
    lateResult n s = tally .lateResults (some n) (updateStation n Station.afterLate (countedLate s)) := rfl

/-- Settles O28: the result finds no exchange, and its station, if there is one, is changed in its late count
alone. -/
theorem lateResultDiscarded : Obligations.LateResultDiscarded := by
  intro s n t o unmatched
  have isLate : takeResult n t o s = lateResult n s :=
    takeResult_of_no_exchange o (exchangePosition_eq_none_iff.mpr unmatched)
  refine ⟨fun st configured => ?_, fun unconfigured => ?_⟩
  · rw [isLate, lateResult_eq, updateStation_afterLate ((stationAt_countedLate s n).trans configured)]
    rfl
  · rw [isLate, lateResult_eq, updateStation_unconfigured ((stationAt_countedLate s n).trans unconfigured)]
    rfl

end Sys2Proof.Machine
end

section
/-! COUNTER_CLEAR (R190): its answer, what it does to a counter outside 1 to 8, to an unconfigured one and to a
configured one, and CounterCleared. -/

namespace Sys2Proof.Machine

/-! ### The answer and the hold -/

theorem flag_eq (b : Bool) : flag b = [if b then 1 else 0] := by
  cases b <;> rfl

@[simp] theorem giveUpHold_false (i : Fin 8) (s : State) : giveUpHold false i s = s := rfl

/-- A hold that is given up removes its cause (R190). -/
@[simp] theorem giveUpHold_true (i : Fin 8) (s : State) : giveUpHold true i s = removeCause (.counter i) s := rfl

theorem counterOf_eq_none {k : Nat} (outside : k = 0 ∨ 8 < k) : counterOf k = none :=
  dif_neg (by omega)

/-- What COUNTER_CLEAR answers of a counter: its value, window progress and hold (R190). -/
def clearedBytes (c : Counter) : List Byte := word4 c.value ++ nat2 c.progress ++ flag c.hold

/-! ### The cases of the request (R190) -/

/-- A counter outside 1 to 8 is refused FIELD and nothing changes. -/
theorem takeCounterClear_outside {k : Nat} (outside : k = 0 ∨ 8 < k) (s : State) :
    takeCounterClear k s = (Answer.refuse .field [0, 1], s) := by
  rw [takeCounterClear, counterOf_eq_none outside]
  rfl

/-- An unconfigured counter is answered like any other and left alone. -/
theorem takeCounterClear_unconfigured {s : State} {i : Fin 8} (unconfigured : s.counters.all[i].setup = none) :
    takeCounterClear (i.val + 1) s = (Answer.refuse .ok (clearedBytes s.counters.all[i]), s) := by
  simp only [takeCounterClear, counterOf_number, unconfigured, Option.isNone_none, if_true]
  rfl

/-- A configured counter is cleared, and then its hold, if it had one, is given up. -/
theorem takeCounterClear_configured {s : State} {i : Fin 8} (configured : s.counters.all[i].setup.isSome = true) :
    takeCounterClear (i.val + 1) s = (Answer.refuse .ok (clearedBytes s.counters.all[i]),
      giveUpHold s.counters.all[i].hold i (putCounter i s.counters.all[i].cleared s)) := by
  have notNone : s.counters.all[i].setup.isNone = false := Option.isNone_eq_false_iff.mpr configured
  simp only [takeCounterClear, counterOf_number, notNone, Bool.false_eq_true, if_false]
  rfl

/-- Settles O49: the request's three cases, the configured counter's split by whether it holds the feed. -/
theorem counterCleared : Obligations.CounterCleared := by
  intro s number rest
  refine ⟨fun k outside requested => serve_answered requested rfl (takeCounterClear_outside outside _), ?_⟩
  intro i requested c reply cleared t
  have sameReply : clearedBytes c = reply := congrArg (word4 c.value ++ nat2 c.progress ++ ·) (flag_eq c.hold)
  have configuredCase (configured : c.setup.isSome = true) :
      exec .counterClear s
        = .next (withReply number (.counterClear (i.val + 1)) .ok reply (giveUpHold c.hold i t)) := by
    rw [← sameReply]
    exact serve_answered requested rfl (takeCounterClear_configured (s := taken rest s) configured)
  refine ⟨fun unconfigured => ⟨clearedBytes c, ?_⟩, fun configured unheld => ?_, fun configured held => ?_⟩
  · exact serve_answered requested rfl (takeCounterClear_unconfigured (s := taken rest s) unconfigured)
  · rw [configuredCase configured, unheld, giveUpHold_false]
  · rw [configuredCase configured, held, giveUpHold_true]

end Sys2Proof.Machine
end


section
/-! What the operations that several blocks share leave alone, field by field: causes handed to the suppression
set, events handed to the counters, reports, faults. Each follows from the law that says what the operation can
change. -/

namespace Sys2Proof.Machine

/-! ### A cause handed (R169) -/

@[simp] theorem addCause_stations (c : FeedCause) (s : State) : (addCause c s).stations = s.stations := congrArg (·.stations) (announces_addCause c s)

@[simp] theorem addCause_bus (c : FeedCause) (s : State) : (addCause c s).bus = s.bus := congrArg (·.bus) (announces_addCause c s)

@[simp] theorem addCause_intake (c : FeedCause) (s : State) : (addCause c s).intake = s.intake := congrArg (·.intake) (announces_addCause c s)

@[simp] theorem addCause_versions (c : FeedCause) (s : State) : (addCause c s).versions = s.versions := congrArg (·.versions) (announces_addCause c s)

@[simp] theorem addCause_track (c : FeedCause) (s : State) : (addCause c s).track = s.track := congrArg (·.track) (announces_addCause c s)

@[simp] theorem addCause_binding (c : FeedCause) (s : State) : (addCause c s).binding = s.binding := congrArg (·.binding) (announces_addCause c s)

@[simp] theorem addCause_step (c : FeedCause) (s : State) : (addCause c s).step = s.step := congrArg (·.step) (announces_addCause c s)

@[simp] theorem addCause_phase (c : FeedCause) (s : State) : (addCause c s).phase = s.phase := congrArg (·.phase) (announces_addCause c s)

@[simp] theorem addCause_bundles (c : FeedCause) (s : State) : (addCause c s).bundles = s.bundles := congrArg (·.bundles) (announces_addCause c s)

@[simp] theorem addCause_counters (c : FeedCause) (s : State) : (addCause c s).counters = s.counters := congrArg (·.counters) (announces_addCause c s)

@[simp] theorem addCause_params (c : FeedCause) (s : State) : (addCause c s).params = s.params := congrArg (·.params) (announces_addCause c s)

@[simp] theorem addCause_estop (c : FeedCause) (s : State) : (addCause c s).estop = s.estop := congrArg (·.estop) (announces_addCause c s)

@[simp] theorem addCause_home (c : FeedCause) (s : State) : (addCause c s).home = s.home := congrArg (·.home) (announces_addCause c s)

@[simp] theorem addCause_moment (c : FeedCause) (s : State) : (addCause c s).moment = s.moment := congrArg (·.moment) (announces_addCause c s)

@[simp] theorem addCause_freeIndex (c : FeedCause) (s : State) : (addCause c s).freeIndex = s.freeIndex := congrArg (·.freeIndex) (announces_addCause c s)

@[simp] theorem addCause_pending (c : FeedCause) (s : State) : (addCause c s).pending = s.pending := congrArg (·.pending) (announces_addCause c s)

@[simp] theorem addCause_line_state (c : FeedCause) (s : State) : (addCause c s).line.state = s.line.state := congrArg (·.line.state) (announces_addCause c s)

@[simp] theorem addCause_line_fault (c : FeedCause) (s : State) : (addCause c s).line.fault = s.line.fault := congrArg (·.line.fault) (announces_addCause c s)

@[simp] theorem addCause_line_laterFaults (c : FeedCause) (s : State) : (addCause c s).line.laterFaults = s.line.laterFaults := congrArg (·.line.laterFaults) (announces_addCause c s)

@[simp] theorem addCause_line_lastLater (c : FeedCause) (s : State) : (addCause c s).line.lastLater = s.line.lastLater := congrArg (·.line.lastLater) (announces_addCause c s)

@[simp] theorem addCause_line_drain (c : FeedCause) (s : State) : (addCause c s).line.drain = s.line.drain := congrArg (·.line.drain) (announces_addCause c s)

@[simp] theorem addCause_line_driveOrder (c : FeedCause) (s : State) : (addCause c s).line.driveOrder = s.line.driveOrder := congrArg (·.line.driveOrder) (announces_addCause c s)

@[simp] theorem addCause_line_startTimer (c : FeedCause) (s : State) : (addCause c s).line.startTimer = s.line.startTimer := congrArg (·.line.startTimer) (announces_addCause c s)

@[simp] theorem addCause_line_stopTimer (c : FeedCause) (s : State) : (addCause c s).line.stopTimer = s.line.stopTimer := congrArg (·.line.stopTimer) (announces_addCause c s)

@[simp] theorem addCause_line_restarted (c : FeedCause) (s : State) : (addCause c s).line.restarted = s.line.restarted := congrArg (·.line.restarted) (announces_addCause c s)

@[simp] theorem addCause_link_receiver (c : FeedCause) (s : State) : (addCause c s).link.receiver = s.link.receiver := congrArg (·.link.receiver) (announces_addCause c s)

@[simp] theorem addCause_link_rx (c : FeedCause) (s : State) : (addCause c s).link.rx = s.link.rx := congrArg (·.link.rx) (announces_addCause c s)

@[simp] theorem addCause_link_overflow (c : FeedCause) (s : State) : (addCause c s).link.overflow = s.link.overflow := congrArg (·.link.overflow) (announces_addCause c s)

@[simp] theorem addCause_link_discarded (c : FeedCause) (s : State) : (addCause c s).link.discarded = s.link.discarded := congrArg (·.link.discarded) (announces_addCause c s)

@[simp] theorem addCause_link_replies (c : FeedCause) (s : State) : (addCause c s).link.replies = s.link.replies := congrArg (·.link.replies) (announces_addCause c s)

@[simp] theorem addCause_link_reports (c : FeedCause) (s : State) : (addCause c s).link.reports = s.link.reports := congrArg (·.link.reports) (announces_addCause c s)

@[simp] theorem addCause_link_tx (c : FeedCause) (s : State) : (addCause c s).link.tx = s.link.tx := congrArg (·.link.tx) (announces_addCause c s)

@[simp] theorem removeCause_stations (c : FeedCause) (s : State) : (removeCause c s).stations = s.stations := congrArg (·.stations) (announces_removeCause c s)

@[simp] theorem removeCause_bus (c : FeedCause) (s : State) : (removeCause c s).bus = s.bus := congrArg (·.bus) (announces_removeCause c s)

@[simp] theorem removeCause_intake (c : FeedCause) (s : State) : (removeCause c s).intake = s.intake := congrArg (·.intake) (announces_removeCause c s)

@[simp] theorem removeCause_versions (c : FeedCause) (s : State) : (removeCause c s).versions = s.versions := congrArg (·.versions) (announces_removeCause c s)

@[simp] theorem removeCause_track (c : FeedCause) (s : State) : (removeCause c s).track = s.track := congrArg (·.track) (announces_removeCause c s)

@[simp] theorem removeCause_binding (c : FeedCause) (s : State) : (removeCause c s).binding = s.binding := congrArg (·.binding) (announces_removeCause c s)

@[simp] theorem removeCause_step (c : FeedCause) (s : State) : (removeCause c s).step = s.step := congrArg (·.step) (announces_removeCause c s)

@[simp] theorem removeCause_phase (c : FeedCause) (s : State) : (removeCause c s).phase = s.phase := congrArg (·.phase) (announces_removeCause c s)

@[simp] theorem removeCause_bundles (c : FeedCause) (s : State) : (removeCause c s).bundles = s.bundles := congrArg (·.bundles) (announces_removeCause c s)

@[simp] theorem removeCause_counters (c : FeedCause) (s : State) : (removeCause c s).counters = s.counters := congrArg (·.counters) (announces_removeCause c s)

@[simp] theorem removeCause_params (c : FeedCause) (s : State) : (removeCause c s).params = s.params := congrArg (·.params) (announces_removeCause c s)

@[simp] theorem removeCause_estop (c : FeedCause) (s : State) : (removeCause c s).estop = s.estop := congrArg (·.estop) (announces_removeCause c s)

@[simp] theorem removeCause_home (c : FeedCause) (s : State) : (removeCause c s).home = s.home := congrArg (·.home) (announces_removeCause c s)

@[simp] theorem removeCause_moment (c : FeedCause) (s : State) : (removeCause c s).moment = s.moment := congrArg (·.moment) (announces_removeCause c s)

@[simp] theorem removeCause_freeIndex (c : FeedCause) (s : State) : (removeCause c s).freeIndex = s.freeIndex := congrArg (·.freeIndex) (announces_removeCause c s)

@[simp] theorem removeCause_pending (c : FeedCause) (s : State) : (removeCause c s).pending = s.pending := congrArg (·.pending) (announces_removeCause c s)

@[simp] theorem removeCause_line_state (c : FeedCause) (s : State) : (removeCause c s).line.state = s.line.state := congrArg (·.line.state) (announces_removeCause c s)

@[simp] theorem removeCause_line_fault (c : FeedCause) (s : State) : (removeCause c s).line.fault = s.line.fault := congrArg (·.line.fault) (announces_removeCause c s)

@[simp] theorem removeCause_line_laterFaults (c : FeedCause) (s : State) : (removeCause c s).line.laterFaults = s.line.laterFaults := congrArg (·.line.laterFaults) (announces_removeCause c s)

@[simp] theorem removeCause_line_lastLater (c : FeedCause) (s : State) : (removeCause c s).line.lastLater = s.line.lastLater := congrArg (·.line.lastLater) (announces_removeCause c s)

@[simp] theorem removeCause_line_drain (c : FeedCause) (s : State) : (removeCause c s).line.drain = s.line.drain := congrArg (·.line.drain) (announces_removeCause c s)

@[simp] theorem removeCause_line_driveOrder (c : FeedCause) (s : State) : (removeCause c s).line.driveOrder = s.line.driveOrder := congrArg (·.line.driveOrder) (announces_removeCause c s)

@[simp] theorem removeCause_line_startTimer (c : FeedCause) (s : State) : (removeCause c s).line.startTimer = s.line.startTimer := congrArg (·.line.startTimer) (announces_removeCause c s)

@[simp] theorem removeCause_line_stopTimer (c : FeedCause) (s : State) : (removeCause c s).line.stopTimer = s.line.stopTimer := congrArg (·.line.stopTimer) (announces_removeCause c s)

@[simp] theorem removeCause_line_restarted (c : FeedCause) (s : State) : (removeCause c s).line.restarted = s.line.restarted := congrArg (·.line.restarted) (announces_removeCause c s)

@[simp] theorem removeCause_link_receiver (c : FeedCause) (s : State) : (removeCause c s).link.receiver = s.link.receiver := congrArg (·.link.receiver) (announces_removeCause c s)

@[simp] theorem removeCause_link_rx (c : FeedCause) (s : State) : (removeCause c s).link.rx = s.link.rx := congrArg (·.link.rx) (announces_removeCause c s)

@[simp] theorem removeCause_link_overflow (c : FeedCause) (s : State) : (removeCause c s).link.overflow = s.link.overflow := congrArg (·.link.overflow) (announces_removeCause c s)

@[simp] theorem removeCause_link_discarded (c : FeedCause) (s : State) : (removeCause c s).link.discarded = s.link.discarded := congrArg (·.link.discarded) (announces_removeCause c s)

@[simp] theorem removeCause_link_replies (c : FeedCause) (s : State) : (removeCause c s).link.replies = s.link.replies := congrArg (·.link.replies) (announces_removeCause c s)

@[simp] theorem removeCause_link_reports (c : FeedCause) (s : State) : (removeCause c s).link.reports = s.link.reports := congrArg (·.link.reports) (announces_removeCause c s)

@[simp] theorem removeCause_link_tx (c : FeedCause) (s : State) : (removeCause c s).link.tx = s.link.tx := congrArg (·.link.tx) (announces_removeCause c s)

@[simp] theorem putCause_stations (c : FeedCause) (b : Bool) (s : State) : (putCause c b s).stations = s.stations := congrArg (·.stations) (announces_putCause c b s)

@[simp] theorem putCause_bus (c : FeedCause) (b : Bool) (s : State) : (putCause c b s).bus = s.bus := congrArg (·.bus) (announces_putCause c b s)

@[simp] theorem putCause_intake (c : FeedCause) (b : Bool) (s : State) : (putCause c b s).intake = s.intake := congrArg (·.intake) (announces_putCause c b s)

@[simp] theorem putCause_versions (c : FeedCause) (b : Bool) (s : State) : (putCause c b s).versions = s.versions := congrArg (·.versions) (announces_putCause c b s)

@[simp] theorem putCause_track (c : FeedCause) (b : Bool) (s : State) : (putCause c b s).track = s.track := congrArg (·.track) (announces_putCause c b s)

@[simp] theorem putCause_binding (c : FeedCause) (b : Bool) (s : State) : (putCause c b s).binding = s.binding := congrArg (·.binding) (announces_putCause c b s)

@[simp] theorem putCause_step (c : FeedCause) (b : Bool) (s : State) : (putCause c b s).step = s.step := congrArg (·.step) (announces_putCause c b s)

@[simp] theorem putCause_phase (c : FeedCause) (b : Bool) (s : State) : (putCause c b s).phase = s.phase := congrArg (·.phase) (announces_putCause c b s)

@[simp] theorem putCause_bundles (c : FeedCause) (b : Bool) (s : State) : (putCause c b s).bundles = s.bundles := congrArg (·.bundles) (announces_putCause c b s)

@[simp] theorem putCause_counters (c : FeedCause) (b : Bool) (s : State) : (putCause c b s).counters = s.counters := congrArg (·.counters) (announces_putCause c b s)

@[simp] theorem putCause_params (c : FeedCause) (b : Bool) (s : State) : (putCause c b s).params = s.params := congrArg (·.params) (announces_putCause c b s)

@[simp] theorem putCause_estop (c : FeedCause) (b : Bool) (s : State) : (putCause c b s).estop = s.estop := congrArg (·.estop) (announces_putCause c b s)

@[simp] theorem putCause_home (c : FeedCause) (b : Bool) (s : State) : (putCause c b s).home = s.home := congrArg (·.home) (announces_putCause c b s)

@[simp] theorem putCause_moment (c : FeedCause) (b : Bool) (s : State) : (putCause c b s).moment = s.moment := congrArg (·.moment) (announces_putCause c b s)

@[simp] theorem putCause_freeIndex (c : FeedCause) (b : Bool) (s : State) : (putCause c b s).freeIndex = s.freeIndex := congrArg (·.freeIndex) (announces_putCause c b s)

@[simp] theorem putCause_pending (c : FeedCause) (b : Bool) (s : State) : (putCause c b s).pending = s.pending := congrArg (·.pending) (announces_putCause c b s)

@[simp] theorem putCause_line_state (c : FeedCause) (b : Bool) (s : State) : (putCause c b s).line.state = s.line.state := congrArg (·.line.state) (announces_putCause c b s)

@[simp] theorem putCause_line_fault (c : FeedCause) (b : Bool) (s : State) : (putCause c b s).line.fault = s.line.fault := congrArg (·.line.fault) (announces_putCause c b s)

@[simp] theorem putCause_line_laterFaults (c : FeedCause) (b : Bool) (s : State) : (putCause c b s).line.laterFaults = s.line.laterFaults := congrArg (·.line.laterFaults) (announces_putCause c b s)

@[simp] theorem putCause_line_lastLater (c : FeedCause) (b : Bool) (s : State) : (putCause c b s).line.lastLater = s.line.lastLater := congrArg (·.line.lastLater) (announces_putCause c b s)

@[simp] theorem putCause_line_drain (c : FeedCause) (b : Bool) (s : State) : (putCause c b s).line.drain = s.line.drain := congrArg (·.line.drain) (announces_putCause c b s)

@[simp] theorem putCause_line_driveOrder (c : FeedCause) (b : Bool) (s : State) : (putCause c b s).line.driveOrder = s.line.driveOrder := congrArg (·.line.driveOrder) (announces_putCause c b s)

@[simp] theorem putCause_line_startTimer (c : FeedCause) (b : Bool) (s : State) : (putCause c b s).line.startTimer = s.line.startTimer := congrArg (·.line.startTimer) (announces_putCause c b s)

@[simp] theorem putCause_line_stopTimer (c : FeedCause) (b : Bool) (s : State) : (putCause c b s).line.stopTimer = s.line.stopTimer := congrArg (·.line.stopTimer) (announces_putCause c b s)

@[simp] theorem putCause_line_restarted (c : FeedCause) (b : Bool) (s : State) : (putCause c b s).line.restarted = s.line.restarted := congrArg (·.line.restarted) (announces_putCause c b s)

@[simp] theorem putCause_link_receiver (c : FeedCause) (b : Bool) (s : State) : (putCause c b s).link.receiver = s.link.receiver := congrArg (·.link.receiver) (announces_putCause c b s)

@[simp] theorem putCause_link_rx (c : FeedCause) (b : Bool) (s : State) : (putCause c b s).link.rx = s.link.rx := congrArg (·.link.rx) (announces_putCause c b s)

@[simp] theorem putCause_link_overflow (c : FeedCause) (b : Bool) (s : State) : (putCause c b s).link.overflow = s.link.overflow := congrArg (·.link.overflow) (announces_putCause c b s)

@[simp] theorem putCause_link_discarded (c : FeedCause) (b : Bool) (s : State) : (putCause c b s).link.discarded = s.link.discarded := congrArg (·.link.discarded) (announces_putCause c b s)

@[simp] theorem putCause_link_replies (c : FeedCause) (b : Bool) (s : State) : (putCause c b s).link.replies = s.link.replies := congrArg (·.link.replies) (announces_putCause c b s)

@[simp] theorem putCause_link_reports (c : FeedCause) (b : Bool) (s : State) : (putCause c b s).link.reports = s.link.reports := congrArg (·.link.reports) (announces_putCause c b s)

@[simp] theorem putCause_link_tx (c : FeedCause) (b : Bool) (s : State) : (putCause c b s).link.tx = s.link.tx := congrArg (·.link.tx) (announces_putCause c b s)

/-- A hold given up hands a cause, or nothing (R190). -/
theorem announces_giveUpHold (held : Bool) (i : Fin 8) (s : State) : Announces s (giveUpHold held i s) := by
  cases held
  · exact Announces.refl s
  · exact announces_removeCause _ s

@[simp] theorem giveUpHold_stations (held : Bool) (i : Fin 8) (s : State) : (giveUpHold held i s).stations = s.stations := congrArg (·.stations) (announces_giveUpHold held i s)

@[simp] theorem giveUpHold_bus (held : Bool) (i : Fin 8) (s : State) : (giveUpHold held i s).bus = s.bus := congrArg (·.bus) (announces_giveUpHold held i s)

@[simp] theorem giveUpHold_intake (held : Bool) (i : Fin 8) (s : State) : (giveUpHold held i s).intake = s.intake := congrArg (·.intake) (announces_giveUpHold held i s)

@[simp] theorem giveUpHold_versions (held : Bool) (i : Fin 8) (s : State) : (giveUpHold held i s).versions = s.versions := congrArg (·.versions) (announces_giveUpHold held i s)

@[simp] theorem giveUpHold_track (held : Bool) (i : Fin 8) (s : State) : (giveUpHold held i s).track = s.track := congrArg (·.track) (announces_giveUpHold held i s)

@[simp] theorem giveUpHold_binding (held : Bool) (i : Fin 8) (s : State) : (giveUpHold held i s).binding = s.binding := congrArg (·.binding) (announces_giveUpHold held i s)

@[simp] theorem giveUpHold_step (held : Bool) (i : Fin 8) (s : State) : (giveUpHold held i s).step = s.step := congrArg (·.step) (announces_giveUpHold held i s)

@[simp] theorem giveUpHold_phase (held : Bool) (i : Fin 8) (s : State) : (giveUpHold held i s).phase = s.phase := congrArg (·.phase) (announces_giveUpHold held i s)

@[simp] theorem giveUpHold_bundles (held : Bool) (i : Fin 8) (s : State) : (giveUpHold held i s).bundles = s.bundles := congrArg (·.bundles) (announces_giveUpHold held i s)

@[simp] theorem giveUpHold_counters (held : Bool) (i : Fin 8) (s : State) : (giveUpHold held i s).counters = s.counters := congrArg (·.counters) (announces_giveUpHold held i s)

@[simp] theorem giveUpHold_params (held : Bool) (i : Fin 8) (s : State) : (giveUpHold held i s).params = s.params := congrArg (·.params) (announces_giveUpHold held i s)

@[simp] theorem giveUpHold_estop (held : Bool) (i : Fin 8) (s : State) : (giveUpHold held i s).estop = s.estop := congrArg (·.estop) (announces_giveUpHold held i s)

@[simp] theorem giveUpHold_home (held : Bool) (i : Fin 8) (s : State) : (giveUpHold held i s).home = s.home := congrArg (·.home) (announces_giveUpHold held i s)

@[simp] theorem giveUpHold_moment (held : Bool) (i : Fin 8) (s : State) : (giveUpHold held i s).moment = s.moment := congrArg (·.moment) (announces_giveUpHold held i s)

@[simp] theorem giveUpHold_freeIndex (held : Bool) (i : Fin 8) (s : State) : (giveUpHold held i s).freeIndex = s.freeIndex := congrArg (·.freeIndex) (announces_giveUpHold held i s)

@[simp] theorem giveUpHold_pending (held : Bool) (i : Fin 8) (s : State) : (giveUpHold held i s).pending = s.pending := congrArg (·.pending) (announces_giveUpHold held i s)

@[simp] theorem giveUpHold_line_state (held : Bool) (i : Fin 8) (s : State) : (giveUpHold held i s).line.state = s.line.state := congrArg (·.line.state) (announces_giveUpHold held i s)

@[simp] theorem giveUpHold_line_fault (held : Bool) (i : Fin 8) (s : State) : (giveUpHold held i s).line.fault = s.line.fault := congrArg (·.line.fault) (announces_giveUpHold held i s)

@[simp] theorem giveUpHold_line_laterFaults (held : Bool) (i : Fin 8) (s : State) : (giveUpHold held i s).line.laterFaults = s.line.laterFaults := congrArg (·.line.laterFaults) (announces_giveUpHold held i s)

@[simp] theorem giveUpHold_line_lastLater (held : Bool) (i : Fin 8) (s : State) : (giveUpHold held i s).line.lastLater = s.line.lastLater := congrArg (·.line.lastLater) (announces_giveUpHold held i s)

@[simp] theorem giveUpHold_line_drain (held : Bool) (i : Fin 8) (s : State) : (giveUpHold held i s).line.drain = s.line.drain := congrArg (·.line.drain) (announces_giveUpHold held i s)

@[simp] theorem giveUpHold_line_driveOrder (held : Bool) (i : Fin 8) (s : State) : (giveUpHold held i s).line.driveOrder = s.line.driveOrder := congrArg (·.line.driveOrder) (announces_giveUpHold held i s)

@[simp] theorem giveUpHold_line_startTimer (held : Bool) (i : Fin 8) (s : State) : (giveUpHold held i s).line.startTimer = s.line.startTimer := congrArg (·.line.startTimer) (announces_giveUpHold held i s)

@[simp] theorem giveUpHold_line_stopTimer (held : Bool) (i : Fin 8) (s : State) : (giveUpHold held i s).line.stopTimer = s.line.stopTimer := congrArg (·.line.stopTimer) (announces_giveUpHold held i s)

@[simp] theorem giveUpHold_line_restarted (held : Bool) (i : Fin 8) (s : State) : (giveUpHold held i s).line.restarted = s.line.restarted := congrArg (·.line.restarted) (announces_giveUpHold held i s)

@[simp] theorem giveUpHold_link_receiver (held : Bool) (i : Fin 8) (s : State) : (giveUpHold held i s).link.receiver = s.link.receiver := congrArg (·.link.receiver) (announces_giveUpHold held i s)

@[simp] theorem giveUpHold_link_rx (held : Bool) (i : Fin 8) (s : State) : (giveUpHold held i s).link.rx = s.link.rx := congrArg (·.link.rx) (announces_giveUpHold held i s)

@[simp] theorem giveUpHold_link_overflow (held : Bool) (i : Fin 8) (s : State) : (giveUpHold held i s).link.overflow = s.link.overflow := congrArg (·.link.overflow) (announces_giveUpHold held i s)

@[simp] theorem giveUpHold_link_discarded (held : Bool) (i : Fin 8) (s : State) : (giveUpHold held i s).link.discarded = s.link.discarded := congrArg (·.link.discarded) (announces_giveUpHold held i s)

@[simp] theorem giveUpHold_link_replies (held : Bool) (i : Fin 8) (s : State) : (giveUpHold held i s).link.replies = s.link.replies := congrArg (·.link.replies) (announces_giveUpHold held i s)

@[simp] theorem giveUpHold_link_reports (held : Bool) (i : Fin 8) (s : State) : (giveUpHold held i s).link.reports = s.link.reports := congrArg (·.link.reports) (announces_giveUpHold held i s)

@[simp] theorem giveUpHold_link_tx (held : Bool) (i : Fin 8) (s : State) : (giveUpHold held i s).link.tx = s.link.tx := congrArg (·.link.tx) (announces_giveUpHold held i s)

/-! ### An event handed to the counters (R185) -/

@[simp] theorem tally_stations (e : TallyEvent) (slot : Option SlotNo) (s : State) : (tally e slot s).stations = s.stations := congrArg (·.stations) (tallies_tally e slot s)

@[simp] theorem tally_bus (e : TallyEvent) (slot : Option SlotNo) (s : State) : (tally e slot s).bus = s.bus := congrArg (·.bus) (tallies_tally e slot s)

@[simp] theorem tally_intake (e : TallyEvent) (slot : Option SlotNo) (s : State) : (tally e slot s).intake = s.intake := congrArg (·.intake) (tallies_tally e slot s)

@[simp] theorem tally_versions (e : TallyEvent) (slot : Option SlotNo) (s : State) : (tally e slot s).versions = s.versions := congrArg (·.versions) (tallies_tally e slot s)

@[simp] theorem tally_track (e : TallyEvent) (slot : Option SlotNo) (s : State) : (tally e slot s).track = s.track := congrArg (·.track) (tallies_tally e slot s)

@[simp] theorem tally_binding (e : TallyEvent) (slot : Option SlotNo) (s : State) : (tally e slot s).binding = s.binding := congrArg (·.binding) (tallies_tally e slot s)

@[simp] theorem tally_step (e : TallyEvent) (slot : Option SlotNo) (s : State) : (tally e slot s).step = s.step := congrArg (·.step) (tallies_tally e slot s)

@[simp] theorem tally_phase (e : TallyEvent) (slot : Option SlotNo) (s : State) : (tally e slot s).phase = s.phase := congrArg (·.phase) (tallies_tally e slot s)

@[simp] theorem tally_bundles (e : TallyEvent) (slot : Option SlotNo) (s : State) : (tally e slot s).bundles = s.bundles := congrArg (·.bundles) (tallies_tally e slot s)

@[simp] theorem tally_params (e : TallyEvent) (slot : Option SlotNo) (s : State) : (tally e slot s).params = s.params := congrArg (·.params) (tallies_tally e slot s)

@[simp] theorem tally_estop (e : TallyEvent) (slot : Option SlotNo) (s : State) : (tally e slot s).estop = s.estop := congrArg (·.estop) (tallies_tally e slot s)

@[simp] theorem tally_home (e : TallyEvent) (slot : Option SlotNo) (s : State) : (tally e slot s).home = s.home := congrArg (·.home) (tallies_tally e slot s)

@[simp] theorem tally_moment (e : TallyEvent) (slot : Option SlotNo) (s : State) : (tally e slot s).moment = s.moment := congrArg (·.moment) (tallies_tally e slot s)

@[simp] theorem tally_freeIndex (e : TallyEvent) (slot : Option SlotNo) (s : State) : (tally e slot s).freeIndex = s.freeIndex := congrArg (·.freeIndex) (tallies_tally e slot s)

@[simp] theorem tally_pending (e : TallyEvent) (slot : Option SlotNo) (s : State) : (tally e slot s).pending = s.pending := congrArg (·.pending) (tallies_tally e slot s)

@[simp] theorem tally_line_state (e : TallyEvent) (slot : Option SlotNo) (s : State) : (tally e slot s).line.state = s.line.state := congrArg (·.line.state) (tallies_tally e slot s)

@[simp] theorem tally_line_fault (e : TallyEvent) (slot : Option SlotNo) (s : State) : (tally e slot s).line.fault = s.line.fault := congrArg (·.line.fault) (tallies_tally e slot s)

@[simp] theorem tally_line_laterFaults (e : TallyEvent) (slot : Option SlotNo) (s : State) : (tally e slot s).line.laterFaults = s.line.laterFaults := congrArg (·.line.laterFaults) (tallies_tally e slot s)

@[simp] theorem tally_line_lastLater (e : TallyEvent) (slot : Option SlotNo) (s : State) : (tally e slot s).line.lastLater = s.line.lastLater := congrArg (·.line.lastLater) (tallies_tally e slot s)

@[simp] theorem tally_line_drain (e : TallyEvent) (slot : Option SlotNo) (s : State) : (tally e slot s).line.drain = s.line.drain := congrArg (·.line.drain) (tallies_tally e slot s)

@[simp] theorem tally_line_driveOrder (e : TallyEvent) (slot : Option SlotNo) (s : State) : (tally e slot s).line.driveOrder = s.line.driveOrder := congrArg (·.line.driveOrder) (tallies_tally e slot s)

@[simp] theorem tally_line_startTimer (e : TallyEvent) (slot : Option SlotNo) (s : State) : (tally e slot s).line.startTimer = s.line.startTimer := congrArg (·.line.startTimer) (tallies_tally e slot s)

@[simp] theorem tally_line_stopTimer (e : TallyEvent) (slot : Option SlotNo) (s : State) : (tally e slot s).line.stopTimer = s.line.stopTimer := congrArg (·.line.stopTimer) (tallies_tally e slot s)

@[simp] theorem tally_line_restarted (e : TallyEvent) (slot : Option SlotNo) (s : State) : (tally e slot s).line.restarted = s.line.restarted := congrArg (·.line.restarted) (tallies_tally e slot s)

@[simp] theorem tally_link_receiver (e : TallyEvent) (slot : Option SlotNo) (s : State) : (tally e slot s).link.receiver = s.link.receiver := congrArg (·.link.receiver) (tallies_tally e slot s)

@[simp] theorem tally_link_rx (e : TallyEvent) (slot : Option SlotNo) (s : State) : (tally e slot s).link.rx = s.link.rx := congrArg (·.link.rx) (tallies_tally e slot s)

@[simp] theorem tally_link_overflow (e : TallyEvent) (slot : Option SlotNo) (s : State) : (tally e slot s).link.overflow = s.link.overflow := congrArg (·.link.overflow) (tallies_tally e slot s)

@[simp] theorem tally_link_discarded (e : TallyEvent) (slot : Option SlotNo) (s : State) : (tally e slot s).link.discarded = s.link.discarded := congrArg (·.link.discarded) (tallies_tally e slot s)

@[simp] theorem tally_link_replies (e : TallyEvent) (slot : Option SlotNo) (s : State) : (tally e slot s).link.replies = s.link.replies := congrArg (·.link.replies) (tallies_tally e slot s)

@[simp] theorem tally_link_reports (e : TallyEvent) (slot : Option SlotNo) (s : State) : (tally e slot s).link.reports = s.link.reports := congrArg (·.link.reports) (tallies_tally e slot s)

@[simp] theorem tally_link_tx (e : TallyEvent) (slot : Option SlotNo) (s : State) : (tally e slot s).link.tx = s.link.tx := congrArg (·.link.tx) (tallies_tally e slot s)

/-! ### A report queued (R197) -/

@[simp] theorem queueReport_stations (r : Report) (s : State) : (queueReport r s).stations = s.stations := congrArg (·.stations) (queueReport_eq r s)

@[simp] theorem queueReport_bus (r : Report) (s : State) : (queueReport r s).bus = s.bus := congrArg (·.bus) (queueReport_eq r s)

@[simp] theorem queueReport_intake (r : Report) (s : State) : (queueReport r s).intake = s.intake := congrArg (·.intake) (queueReport_eq r s)

@[simp] theorem queueReport_versions (r : Report) (s : State) : (queueReport r s).versions = s.versions := congrArg (·.versions) (queueReport_eq r s)

@[simp] theorem queueReport_track (r : Report) (s : State) : (queueReport r s).track = s.track := congrArg (·.track) (queueReport_eq r s)

@[simp] theorem queueReport_binding (r : Report) (s : State) : (queueReport r s).binding = s.binding := congrArg (·.binding) (queueReport_eq r s)

@[simp] theorem queueReport_step (r : Report) (s : State) : (queueReport r s).step = s.step := congrArg (·.step) (queueReport_eq r s)

@[simp] theorem queueReport_phase (r : Report) (s : State) : (queueReport r s).phase = s.phase := congrArg (·.phase) (queueReport_eq r s)

@[simp] theorem queueReport_bundles (r : Report) (s : State) : (queueReport r s).bundles = s.bundles := congrArg (·.bundles) (queueReport_eq r s)

@[simp] theorem queueReport_counters (r : Report) (s : State) : (queueReport r s).counters = s.counters := congrArg (·.counters) (queueReport_eq r s)

@[simp] theorem queueReport_params (r : Report) (s : State) : (queueReport r s).params = s.params := congrArg (·.params) (queueReport_eq r s)

@[simp] theorem queueReport_estop (r : Report) (s : State) : (queueReport r s).estop = s.estop := congrArg (·.estop) (queueReport_eq r s)

@[simp] theorem queueReport_home (r : Report) (s : State) : (queueReport r s).home = s.home := congrArg (·.home) (queueReport_eq r s)

@[simp] theorem queueReport_moment (r : Report) (s : State) : (queueReport r s).moment = s.moment := congrArg (·.moment) (queueReport_eq r s)

@[simp] theorem queueReport_freeIndex (r : Report) (s : State) : (queueReport r s).freeIndex = s.freeIndex := congrArg (·.freeIndex) (queueReport_eq r s)

@[simp] theorem queueReport_pending (r : Report) (s : State) : (queueReport r s).pending = s.pending := congrArg (·.pending) (queueReport_eq r s)

@[simp] theorem queueReport_line_state (r : Report) (s : State) : (queueReport r s).line.state = s.line.state := congrArg (·.line.state) (queueReport_eq r s)

@[simp] theorem queueReport_line_fault (r : Report) (s : State) : (queueReport r s).line.fault = s.line.fault := congrArg (·.line.fault) (queueReport_eq r s)

@[simp] theorem queueReport_line_laterFaults (r : Report) (s : State) : (queueReport r s).line.laterFaults = s.line.laterFaults := congrArg (·.line.laterFaults) (queueReport_eq r s)

@[simp] theorem queueReport_line_lastLater (r : Report) (s : State) : (queueReport r s).line.lastLater = s.line.lastLater := congrArg (·.line.lastLater) (queueReport_eq r s)

@[simp] theorem queueReport_line_drain (r : Report) (s : State) : (queueReport r s).line.drain = s.line.drain := congrArg (·.line.drain) (queueReport_eq r s)

@[simp] theorem queueReport_line_driveOrder (r : Report) (s : State) : (queueReport r s).line.driveOrder = s.line.driveOrder := congrArg (·.line.driveOrder) (queueReport_eq r s)

@[simp] theorem queueReport_line_startTimer (r : Report) (s : State) : (queueReport r s).line.startTimer = s.line.startTimer := congrArg (·.line.startTimer) (queueReport_eq r s)

@[simp] theorem queueReport_line_stopTimer (r : Report) (s : State) : (queueReport r s).line.stopTimer = s.line.stopTimer := congrArg (·.line.stopTimer) (queueReport_eq r s)

@[simp] theorem queueReport_line_restarted (r : Report) (s : State) : (queueReport r s).line.restarted = s.line.restarted := congrArg (·.line.restarted) (queueReport_eq r s)

@[simp] theorem queueReport_link_receiver (r : Report) (s : State) : (queueReport r s).link.receiver = s.link.receiver := congrArg (·.link.receiver) (queueReport_eq r s)

@[simp] theorem queueReport_link_rx (r : Report) (s : State) : (queueReport r s).link.rx = s.link.rx := congrArg (·.link.rx) (queueReport_eq r s)

@[simp] theorem queueReport_link_overflow (r : Report) (s : State) : (queueReport r s).link.overflow = s.link.overflow := congrArg (·.link.overflow) (queueReport_eq r s)

@[simp] theorem queueReport_link_discarded (r : Report) (s : State) : (queueReport r s).link.discarded = s.link.discarded := congrArg (·.link.discarded) (queueReport_eq r s)

@[simp] theorem queueReport_link_replies (r : Report) (s : State) : (queueReport r s).link.replies = s.link.replies := congrArg (·.link.replies) (queueReport_eq r s)

@[simp] theorem queueReport_link_tx (r : Report) (s : State) : (queueReport r s).link.tx = s.link.tx := congrArg (·.link.tx) (queueReport_eq r s)

@[simp] theorem queueReport_link_reports (r : Report) (s : State) :
    (queueReport r s).link.reports = s.link.reports ++ [r] := congrArg (·.link.reports) (queueReport_eq r s)

/-! ### A fault handed (R179) -/

@[simp] theorem handFault_stations (k : FaultCause) (s : State) : (handFault k s).stations = s.stations := congrArg (·.stations) (handFault_eq k s)

@[simp] theorem handFault_intake (k : FaultCause) (s : State) : (handFault k s).intake = s.intake := congrArg (·.intake) (handFault_eq k s)

@[simp] theorem handFault_versions (k : FaultCause) (s : State) : (handFault k s).versions = s.versions := congrArg (·.versions) (handFault_eq k s)

@[simp] theorem handFault_track (k : FaultCause) (s : State) : (handFault k s).track = s.track := congrArg (·.track) (handFault_eq k s)

@[simp] theorem handFault_binding (k : FaultCause) (s : State) : (handFault k s).binding = s.binding := congrArg (·.binding) (handFault_eq k s)

@[simp] theorem handFault_step (k : FaultCause) (s : State) : (handFault k s).step = s.step := congrArg (·.step) (handFault_eq k s)

@[simp] theorem handFault_phase (k : FaultCause) (s : State) : (handFault k s).phase = s.phase := congrArg (·.phase) (handFault_eq k s)

@[simp] theorem handFault_bundles (k : FaultCause) (s : State) : (handFault k s).bundles = s.bundles := congrArg (·.bundles) (handFault_eq k s)

@[simp] theorem handFault_counters (k : FaultCause) (s : State) : (handFault k s).counters = s.counters := congrArg (·.counters) (handFault_eq k s)

@[simp] theorem handFault_params (k : FaultCause) (s : State) : (handFault k s).params = s.params := congrArg (·.params) (handFault_eq k s)

@[simp] theorem handFault_estop (k : FaultCause) (s : State) : (handFault k s).estop = s.estop := congrArg (·.estop) (handFault_eq k s)

@[simp] theorem handFault_home (k : FaultCause) (s : State) : (handFault k s).home = s.home := congrArg (·.home) (handFault_eq k s)

@[simp] theorem handFault_moment (k : FaultCause) (s : State) : (handFault k s).moment = s.moment := congrArg (·.moment) (handFault_eq k s)

@[simp] theorem handFault_freeIndex (k : FaultCause) (s : State) : (handFault k s).freeIndex = s.freeIndex := congrArg (·.freeIndex) (handFault_eq k s)

@[simp] theorem handFault_pending (k : FaultCause) (s : State) : (handFault k s).pending = s.pending := congrArg (·.pending) (handFault_eq k s)

@[simp] theorem handFault_link_receiver (k : FaultCause) (s : State) : (handFault k s).link.receiver = s.link.receiver := congrArg (·.link.receiver) (handFault_eq k s)

@[simp] theorem handFault_link_rx (k : FaultCause) (s : State) : (handFault k s).link.rx = s.link.rx := congrArg (·.link.rx) (handFault_eq k s)

@[simp] theorem handFault_link_overflow (k : FaultCause) (s : State) : (handFault k s).link.overflow = s.link.overflow := congrArg (·.link.overflow) (handFault_eq k s)

@[simp] theorem handFault_link_discarded (k : FaultCause) (s : State) : (handFault k s).link.discarded = s.link.discarded := congrArg (·.link.discarded) (handFault_eq k s)

@[simp] theorem handFault_link_replies (k : FaultCause) (s : State) : (handFault k s).link.replies = s.link.replies := congrArg (·.link.replies) (handFault_eq k s)

@[simp] theorem handFault_link_reports (k : FaultCause) (s : State) : (handFault k s).link.reports = s.link.reports := congrArg (·.link.reports) (handFault_eq k s)

@[simp] theorem handFault_link_tx (k : FaultCause) (s : State) : (handFault k s).link.tx = s.link.tx := congrArg (·.link.tx) (handFault_eq k s)

@[simp] theorem handFault_bus_pollPointer (k : FaultCause) (s : State) : (handFault k s).bus.pollPointer = s.bus.pollPointer := congrArg (·.bus.pollPointer) (handFault_eq k s)

@[simp] theorem handFault_bus_inProgress (k : FaultCause) (s : State) : (handFault k s).bus.inProgress = s.bus.inProgress := congrArg (·.bus.inProgress) (handFault_eq k s)

end Sys2Proof.Machine
end

section
/-! What a step can do, said once: every command is a sequence of moves, each the elementary change of one block.
A property that every move keeps is kept by every step (`kept_of_moves`), and what a move leaves alone is what
its group leaves alone. -/

namespace Sys2Proof.Machine

/-! ### The fields that no invariant reads -/

/-- From s to t only fields that no invariant reads have changed: the bus, binding, the parameters, the level of
HOME, the dates, the receiver, the transmitter, the notices, and of the line what its notices tell beside its state. -/
def Aside (s t : State) : Prop :=
  t = { s with
    bus := t.bus
    binding := t.binding
    params := t.params
    home := t.home
    moment := t.moment
    freeIndex := t.freeIndex
    track := { s.track with lateCount := t.track.lateCount }
    line := { s.line with
      fault := t.line.fault
      laterFaults := t.line.laterFaults
      lastLater := t.line.lastLater
      driveOrder := t.line.driveOrder
      restarted := t.line.restarted }
    link := { s.link with
      receiver := t.link.receiver
      discarded := t.link.discarded
      notices := t.link.notices
      tx := t.link.tx } }

/-! ### The moves of one block -/

/-- The line controller goes from one of its states to another (Chapter 10), a fault aside. -/
inductive LineMove (s : State) (l : Line) : Prop
  | start {u : State} (ready : startRefusal u = none) (table : u.stations = s.stations) (before : s.line.state = .idle)
      (after : l.state = .starting) (runs : l.startTimer ≠ .stopped) (other : l.stopTimer = s.line.stopTimer)
      (drain : l.drain = s.line.drain)
  | run (before : s.line.state = .starting) (after : l.state = .running) (ends : l.startTimer = .stopped)
      (other : l.stopTimer = s.line.stopTimer) (drain : l.drain = s.line.drain)
  | drain (before : s.line.state = .running) (after : l.state = .draining) (start : l.startTimer = s.line.startTimer)
      (stop : l.stopTimer = s.line.stopTimer) (option : l.drain ≠ .none)
  | stop (before : s.line.state = .starting ∨ s.line.state = .running ∨ s.line.state = .draining)
      (after : l.state = .stopping) (ends : l.startTimer = .stopped) (runs : l.stopTimer ≠ .stopped)
      (drain : l.drain = .none)
  | halt (before : s.line.state = .stopping) (after : l.state = .idle) (other : l.startTimer = s.line.startTimer)
      (ends : l.stopTimer = .stopped) (drain : l.drain = s.line.drain)
  | clear (released : s.estop = false) (before : s.line.state = .faulted) (after : l.state = .idle)
      (start : l.startTimer = s.line.startTimer) (stop : l.stopTimer = s.line.stopTimer) (drain : l.drain = s.line.drain)

/-- A slot's entry in the station table changes, or the slot is configured or cleared (Chapter 1). -/
inductive StationMove (s : State) : State → Prop
  | changed {n : SlotNo} {old new : Station} (entry : stationAt s n = some old) (role : new.role = old.role)
      (position : new.position = old.position) : StationMove s (stationChanged n old new s)
  | motion {n : SlotNo} {st : Station} (entry : stationAt s n = some st) (m : Option Motion) :
      StationMove s (putStation n (some { st with motion := m }) s)
  | configured {u : SlotSetup} (free : configurable s = true) (allowed : setupRefusal s u = none)
      (placed : u.position = none ↔ u.role = .drive) (bounded : ∀ p, u.position = some p → p ≤ 63) :
      StationMove s (putCause (.station u.slot) u.role.feeding (configure u.slot (some u.station) s))
  | cleared (n : SlotNo) (free : configurable s = true) : StationMove s (removeCause (.station n) (configure n none s))

/-- The step monitor changes (6.2). -/
inductive StepMove (s : State) : State → Prop
  | data (m : StepMonitor) (state : m.state = .outOfStep ↔ s.step.state = .outOfStep) : StepMove s { s with step := m }
  | lost (m : StepMonitor) (state : m.state = .outOfStep) : StepMove s (addCause .step { s with step := m })
  | found (m : StepMonitor) (state : m.state ≠ .outOfStep) : StepMove s { removeCause .step s with step := m }

/-- The phase monitor changes (Chapter 7). -/
inductive PhaseMove (s : State) : State → Prop
  | data (m : PhaseMonitor) (state : m.state = s.phase.state) : PhaseMove s { s with phase := m }
  | changed (m : PhaseMonitor) : PhaseMove s (putCause .phase m.state.suppresses { s with phase := m })

/-- The counter block changes (Chapter 11). -/
inductive CounterMove (s : State) : State → Prop
  | event (e : TallyEvent) (slot : Option SlotNo) : CounterMove s (tally e slot s)
  | data (cs : Counters) (held : ∀ i : Fin 8, (cs.all[i]).hold = (s.counters.all[i]).hold) :
      CounterMove s { s with counters := cs }
  | releasedHold (i : Fin 8) (c : Counter) (free : c.hold = false) :
      CounterMove s (giveUpHold (s.counters.all[i]).hold i (putCounter i c s))

/-! ### Records, cells, bundles and reports -/

/-- A change of a cell that moves no record: a BOUND cell may become CONDEMNED (R63). -/
def CellKept (c d : Cell) : Prop :=
  d.tag = c.tag ∧ d.record = c.record ∧ d.proofOffer = c.proofOffer ∧ d.escaped = c.escaped ∧ d.exchanges = c.exchanges
    ∧ (d.content = c.content ∨ (c.content = .bound ∧ d.content = .condemned))

/-- A record that has no further attempt leaves the part: its version counts it no more and its report is queued
(R42, R47). -/
def reportGone (r : Record) (report : ItemReport) (s : State) : State := queueReport (.item report) (releaseVersion r s)

/-- The open bundle is closed, the event for the counters aside (R154). -/
def bundleClosed (reason : ClosureReason) (b : OpenBundle) (s : State) : State :=
  let residual := reason.mayBeResidual && b.items < s.params.bundleMinItems
  let reported := queueReport (.bundle { bundle := b, residual := residual, reason := reason }) s
  { reported with bundles := { reported.bundles with bundle := none, bundleSplitKey := reason.splitKey b.key } }

/-- The open tray is closed (R154). -/
def trayClosed (reason : ClosureReason) (t : OpenTray) (s : State) : State :=
  let reported := queueReport (.tray { tray := t, reason := reason }) s
  { reported with bundles := { reported.bundles with tray := none, traySplitKey := reason.splitKey t.key } }

/-- The offer of the cell at a position ends without an item: its record returns to the front of the queue
(R31). -/
def offerBack (p : Nat) (c : Cell) (content : Content) (s : State) : State :=
  let emptied := modifyCell p (Cell.offerWithdrawn content) s
  match c.record with
  | some r => setQueue (r :: emptied.intake.queue) emptied
  | none => emptied

/-- The record of a diverted cell leaves it (R140). -/
def divertRecord (p : Nat) (s : State) : State := modifyCell p (fun c => { c.withoutRecord with content := .diverted }) s

/-- The record of a diverted cell returns as a remake and is reported REJECTED (R141, R32). -/
def remakeBack (p : Nat) (r : Record) (cause : Option Condemn) (s : State) : State :=
  let diverted := divertRecord p s
  let remade := { r with attempts := r.attempts + 1, kind := RecordKind.remake }
  queueReport (.item (rejectedReport r cause (r.attempts + 1))) (setQueue (insertRemake remade diverted.intake.queue) diverted)

/-- The head record is offered into the new cell (R76, R30). -/
def headOffered (head : Record) (s : State) : State :=
  modifyCell 0 (fun c => { c with content := .offered, record := some head }) (setQueue s.intake.queue.tail s)

/-- Records move between queue, cells and the host, cells and bundles change, reports are queued. An exchange's end,
the shift, an offer, a stranding and a new tray or bundle are stages of a larger change: they happen where `staged`
holds. -/
inductive WorkMove (staged : Prop) (s : State) : State → Prop
  | cells (cs : List Cell) (kept : List.Forall₂ CellKept s.track.cells cs) :
      WorkMove staged s { s with track := { s.track with cells := cs } }
  | exchangeEnded (p : Nat) (n : SlotNo) (stage : staged) : WorkMove staged s (modifyCell p (Cell.endExchange n) s)
  | exchangeOpened (p : Nat) (e : Exchange) :
      WorkMove staged s (modifyCell p (fun c => { c with exchanges := c.exchanges ++ [e] }) s)
  | jobs (j : Nat) (few : j ≤ s.track.printJobs ∨ j ≤ 2) : WorkMove staged s { s with track := { s.track with printJobs := j } }
  | shifted (stage : staged) : WorkMove staged s (shift s)
  | loaded (records : List LoadRecord) (allowed : loadRefusal s records = none) :
      WorkMove staged s (records.foldl acceptRecord s)
  | purged (fromSequence : Nat) : WorkMove staged s (purgeQueue fromSequence s)
  | defined (v : Fin 32) (d : Option VersionDef) (unused : s.versions[v].refCount = 0) : WorkMove staged s (setVersion v d s)
  | stranded (r : Record) (rest : List Record) (head : s.intake.queue = r :: rest) (remake : r.kind = .remake) (stage : staged) :
      WorkMove staged s (reportGone r (offlineReport r .stranded none r.attempts) (setQueue s.intake.queue.tail s))
  | offered (head : Record) (rest : List Record) (queue : s.intake.queue = head :: rest)
      (free : ∀ c, s.track.cells[0]? = some c → c.content = .empty ∧ c.record = none) (stage : staged) : WorkMove staged s (headOffered head s)
  | proofOffered (free : ∀ c, s.track.cells[0]? = some c → c.content = .empty ∧ c.record = none) (stage : staged) : WorkMove staged s (offerProof s)
  | fed (p : Nat) (n : SlotNo) (double : Bool) (demands : List Demand) (c : Cell) (cell : s.track.cells[p]? = some c)
      (content : c.content = .offered) : WorkMove staged s (modifyCell p (Cell.fedBy n double demands) s)
  | withdrawn (p : Nat) (c : Cell) (v : Content) (cell : s.track.cells[p]? = some c) (content : c.content = .offered)
      (ends : v = .empty ∨ v = .void) : WorkMove staged s (offerBack p c v s)
  | gatePassed (p : Nat) (c : Cell) (cell : s.track.cells[p]? = some c) (content : c.content = .bound) :
      WorkMove staged s (setContent p .passed s)
  | itemDiverted (p : Nat) (c : Cell) (cell : s.track.cells[p]? = some c)
      (content : c.content = .void ∨ c.content = .proof) : WorkMove staged s (setContent p .diverted s)
  | recordless (p : Nat) (c : Cell) (cell : s.track.cells[p]? = some c) (content : c.content = .condemned)
      (empty : c.record = none) : WorkMove staged s (divertRecord p s)
  | remade (p : Nat) (c : Cell) (r : Record) (cause : Option Condemn) (cell : s.track.cells[p]? = some c)
      (content : c.content = .condemned) (record : c.record = some r) : WorkMove staged s (remakeBack p r cause s)
  | attemptsOver (p : Nat) (c : Cell) (r : Record) (cause : Option Condemn) (cell : s.track.cells[p]? = some c)
      (content : c.content = .condemned) (record : c.record = some r) :
      WorkMove staged s (reportGone r (offlineReport r .attempts cause (r.attempts + 1)) (divertRecord p s))
  | itemEscaped (p : Nat) (c : Cell) (cell : s.track.cells[p]? = some c)
      (content : c.content = .void ∨ c.content = .proof ∨ (c.content = .condemned ∧ c.record = none)) :
      WorkMove staged s (setEscaped p s)
  | recordEscaped (p : Nat) (c : Cell) (r : Record) (cause : Option Condemn) (cell : s.track.cells[p]? = some c)
      (content : c.content = .condemned) (record : c.record = some r) :
      WorkMove staged s (finishRecord p r (escapedReport r cause) (setEscaped p s))
  | finished (p : Nat) (c : Cell) (r : Record) (report : ItemReport) (cell : s.track.cells[p]? = some c)
      (content : c.content = .passed) (record : c.record = some r) : WorkMove staged s (finishRecord p r report s)
  | counted (r : Record) (unconfirmed : Bool) : WorkMove staged s (countItem r unconfirmed s)
  | bundleEnd (reason : ClosureReason) (b : OpenBundle) (bundle : s.bundles.bundle = some b) :
      WorkMove staged s (bundleClosed reason b s)
  | trayEnd (reason : ClosureReason) (t : OpenTray) (tray : s.bundles.tray = some t) (bundle : s.bundles.bundle = none) :
      WorkMove staged s (trayClosed reason t s)
  | trayBegin (key : Nat) (bundle : s.bundles.bundle = none) (stage : staged) : WorkMove staged s (openTray key s)
  | bundleBegin (key : Nat) (t : OpenTray) (tray : s.bundles.tray = some t) (stage : staged) : WorkMove staged s (openBundle key s)
  | builder (b : BundleBuilder) (bundle : b.bundle = s.bundles.bundle) (tray : b.tray = s.bundles.tray) :
      WorkMove staged s { s with bundles := b }

/-! ### The moves of the part -/

/-- One elementary change that the meaning of a command is made of; without the stages of an advance or a result where
`staged` does not hold. -/
inductive Move (staged : Prop) (s : State) : State → Prop
  | aside {t : State} (h : Aside s t) : Move staged s t
  | reportSent (r : Report) (rest : List Report) (reports : s.link.reports = r :: rest) : Move staged s (dropReport rest s)
  | cause (c : FeedCause) (present : Bool) (owner : c = .hostHold ∨ c = .stopPoint) : Move staged s (putCause c present s)
  | line {l : Line} (h : LineMove s l) (feed : l.feed = s.line.feed) : Move staged s (changeLine l s)
  | fault (k : FaultCause) : Move staged s (handFault k s)
  | estop : Move staged s (handFault .estop { s with estop := true })
  | estopReleased : Move staged s { s with estop := false }
  | station {t : State} (h : StationMove s t) : Move staged s t
  | step {t : State} (h : StepMove s t) : Move staged s t
  | phase {t : State} (h : PhaseMove s t) : Move staged s t
  | counters {t : State} (h : CounterMove s t) : Move staged s t
  | work {t : State} (h : WorkMove staged s t) : Move staged s t
  | jobReset (idle : s.line.state = .idle) (reports : s.link.reports = []) : Move staged s (resetJob s)

/-- Any number of moves, one after the other. -/
abbrev Moves (staged : Prop) : State → State → Prop := Relation.ReflTransGen (Move staged)

/-- What a command does: moves that are no stage of a larger change, an advance, a result that its station's role
reports, entries and replies of the host link, or a part reset. -/
inductive Act (s : State) : State → Prop
  | moves {t : State} (h : Moves False s t) : Act s t
  | advance (order : AdvanceOrder) : Act s (takePitch order s)
  | result (n : SlotNo) (tag : Tag) (o : StationOutcome)
      (told : ∀ st, stationAt s n = some st → st.role.reports o = true) : Act s (takeResult n tag o s)
  | queues {t : State} (bounds : LinkBounds s → LinkBounds t)
      (h : t = { s with link := { s.link with rx := t.link.rx, overflow := t.link.overflow, replies := t.link.replies } }) :
      Act s t
  | partReset {t : State} (h : execPartReset s = .next t) : Act s t

/-- Any number of acts, one after the other. -/
abbrev Acts : State → State → Prop := Relation.ReflTransGen Act

/-- An act whose advance or result is seen as its moves alone. -/
inductive Turn (s : State) : State → Prop
  | moves {t : State} (h : Moves True s t) : Turn s t
  | queues {t : State} (bounds : LinkBounds s → LinkBounds t)
      (h : t = { s with link := { s.link with rx := t.link.rx, overflow := t.link.overflow, replies := t.link.replies } }) :
      Turn s t
  | partReset {t : State} (h : execPartReset s = .next t) : Turn s t

variable {staged : Prop}

/-- A property that every move keeps is kept by any number of them. -/
theorem keeps_of_moves {inv : State → Prop} (move : ∀ s t, Move staged s t → inv s → inv t) {s t : State} (h : Moves staged s t)
    (hs : inv s) : inv t := by
  induction h with
  | refl => exact hs
  | tail _ m ih => exact move _ _ m ih

/-! ### What each group of moves leaves alone -/

/-- Accepted records change the intake queue and the version table alone (R26). -/
theorem acceptRecords_eq (records : List LoadRecord) (s : State) :
    records.foldl acceptRecord s
      = { s with intake := (records.foldl acceptRecord s).intake, versions := (records.foldl acceptRecord s).versions } := by
  induction records generalizing s with
  | nil => rfl
  | cons r rest ih =>
    rw [List.foldl_cons, ih]
    rfl

/-- Records released one after the other change the version table alone (R42). -/
theorem releaseAll_eq (gone : List Record) (s : State) :
    gone.foldl (fun s r => releaseVersion r s) s
      = { s with versions := (gone.foldl (fun s r => releaseVersion r s) s).versions } := by
  induction gone generalizing s with
  | nil => rfl
  | cons r rest ih =>
    rw [List.foldl_cons, ih]
    rfl

/-- From s to t nothing has changed but intake queue, versions, track, bundles and reports, and BACKLOG with the
notices. -/
def Works (s t : State) : Prop :=
  t = { s with
    intake := t.intake
    versions := t.versions
    track := t.track
    bundles := t.bundles
    line := { s.line with feed := t.line.feed }
    link := { s.link with reports := t.link.reports, notices := t.link.notices } }

theorem works_queueReport (r : Report) (s : State) : Works s (queueReport r s) := by
  unfold Works
  rw [queueReport_eq]

theorem Works.trans {s t u : State} (h : Works s t) (k : Works t u) : Works s u := by
  unfold Works at *
  rw [k, h]

theorem WorkMove.works {s t : State} (h : WorkMove staged s t) : Works s t := by
  cases h with
  | loaded records => exact (by unfold Works; rw [acceptRecords_eq])
  | purged n => exact (by unfold Works purgeQueue; rw [releaseAll_eq]; rfl)
  | stranded | attemptsOver | finished | recordEscaped | remade =>
    refine Works.trans ?_ (works_queueReport _ _)
    rfl
  | bundleEnd | trayEnd => exact Works.trans (works_queueReport _ _) rfl
  | withdrawn p c v => exact (by unfold Works offerBack; dsimp only; split <;> rfl)
  | _ => rfl

/-- The records, cells, bundles and reports move no cause but BACKLOG (R197). -/
theorem WorkMove.has {s t : State} (h : WorkMove staged s t) {c : FeedCause} (other : c ≠ .backlog) :
    t.line.feed.has c = s.line.feed.has c := by
  have reported (r : Report) (u : State) : (queueReport r u).line.feed.has c = u.line.feed.has c := by
    simp [queueReport_has, other]
  cases h with
  | loaded records => rw [acceptRecords_eq]
  | purged n => exact congrArg (·.line.feed.has c) (releaseAll_eq _ _)
  | stranded | attemptsOver | finished | recordEscaped | remade => exact reported _ _
  | bundleEnd | trayEnd => exact reported _ s
  | withdrawn p c v => exact (by unfold offerBack; dsimp only; split <;> rfl)
  | _ => rfl

/-- The step monitor's moves change it, cause STEP and the notices alone. -/
theorem StepMove.foot {s t : State} (h : StepMove s t) :
    t = { s with step := t.step, line := { s.line with feed := t.line.feed }, link := { s.link with notices := t.link.notices } } := by
  cases h with
  | data m => rfl
  | lost m => exact (by rw [announces_addCause .step { s with step := m }])
  | found m => exact (by rw [announces_removeCause .step s])

theorem StepMove.has {s t : State} (h : StepMove s t) {c : FeedCause} (other : c ≠ .step) :
    t.line.feed.has c = s.line.feed.has c := by
  cases h with
  | data m => rfl
  | lost m => simp [addCause_has, other]
  | found m => simp [removeCause_has, other]

/-- The phase monitor's moves change it, cause PHASE and the notices alone. -/
theorem PhaseMove.foot {s t : State} (h : PhaseMove s t) :
    t = { s with phase := t.phase, line := { s.line with feed := t.line.feed }, link := { s.link with notices := t.link.notices } } := by
  cases h with
  | data m => rfl
  | changed m => exact (by rw [announces_putCause .phase _ { s with phase := m }])

theorem PhaseMove.has {s t : State} (h : PhaseMove s t) {c : FeedCause} (other : c ≠ .phase) :
    t.line.feed.has c = s.line.feed.has c := by
  cases h with
  | data m => rfl
  | changed m => simp [putCause_has, other]

/-- The counters' moves change the block, its causes and the notices alone. -/
theorem CounterMove.tallies {s t : State} (h : CounterMove s t) : Tallies s t := by
  cases h with
  | event e slot => exact tallies_tally e slot s
  | data cs => rfl
  | releasedHold i c => exact Tallies.trans (t := putCounter i c s) rfl (announces_giveUpHold _ i _).tallies

theorem CounterMove.has {s t : State} (h : CounterMove s t) {c : FeedCause} (other : ∀ i, c ≠ .counter i) :
    t.line.feed.has c = s.line.feed.has c := by
  cases h with
  | event e slot => exact tally_has e slot s c other
  | data cs => rfl
  | releasedHold i u =>
    unfold giveUpHold
    split
    · rw [removeCause_has, if_neg (other i)]
      rfl
    · rfl

/-- From s to t nothing has changed but the station table, the bus, the cells, the line and the notices. -/
def Restations (s t : State) : Prop :=
  t = { s with
    stations := t.stations
    bus := t.bus
    track := { s.track with cells := t.track.cells }
    line := t.line
    link := { s.link with notices := t.link.notices } }

theorem Restations.trans {s t u : State} (h : Restations s t) (k : Restations t u) : Restations s u := by
  unfold Restations at *
  rw [k, h]

theorem Announces.restations {s t : State} (h : Announces s t) : Restations s t := by
  unfold Announces at h
  unfold Restations
  rw [h]

theorem restations_handFault (k : FaultCause) (s : State) : Restations s (handFault k s) := by
  unfold Restations
  rw [handFault_eq]

/-- A changed station: the entry alone, or its announcement and perhaps a fault (R12 to R15). -/
theorem stationChanged_cases (n : SlotNo) (old new : Station) (s : State) :
    (stationChanged n old new s = putStation n (some new) s ∧ old.recorded = new.recorded ∧ old.health = new.health)
      ∨ stationChanged n old new s = announceStation n new s
      ∨ stationChanged n old new s = handFault (.station n) (announceStation n new s) := by
  by_cases same : old.recorded = new.recorded ∧ old.health = new.health
  · exact .inl ⟨stationChanged_unseen same.1 same.2, same⟩
  · rw [stationChanged_seen same]
    split
    · exact .inr (.inr rfl)
    · exact .inr (.inl rfl)

theorem stationChanged_stations (n : SlotNo) (old new : Station) (s : State) :
    (stationChanged n old new s).stations = (putStation n (some new) s).stations := by
  have told : (announceStation n new s).stations = (putStation n (some new) s).stations := by
    rw [announces_announceStation n new s]
  rcases stationChanged_cases n old new s with ⟨e, -⟩ | e | e
  · rw [e]
  · rw [e, told]
  · rw [e, handFault_stations, told]

theorem restations_stationChanged (n : SlotNo) (old new : Station) (s : State) :
    Restations s (stationChanged n old new s) := by
  have told : Restations s (announceStation n new s) :=
    Restations.trans (t := putStation n (some new) s) rfl (announces_announceStation n new s).restations
  rcases stationChanged_cases n old new s with ⟨e, -⟩ | e | e
  · exact e ▸ rfl
  · exact e ▸ told
  · exact e ▸ told.trans (restations_handFault _ _)

theorem StationMove.restations {s t : State} (h : StationMove s t) : Restations s t := by
  cases h with
  | changed => exact restations_stationChanged _ _ _ s
  | motion => rfl
  | configured => exact Restations.trans (t := configure _ _ s) rfl (announces_putCause _ _ _).restations
  | cleared n => exact Restations.trans (t := configure n none s) rfl (announces_removeCause _ _).restations

/-! ### Which stations stand where -/

/-- What is configured in a slot: its role and its position. -/
def layoutAt (s : State) (n : SlotNo) : Option (Role × Option Nat) :=
  (stationAt s n).map fun st => (st.role, st.position)

/-- From s to t no slot is configured or cleared. -/
def SameLayout (s t : State) : Prop := ∀ n, layoutAt t n = layoutAt s n

theorem SameLayout.trans {s t u : State} (h : SameLayout s t) (k : SameLayout t u) : SameLayout s u :=
  fun n => (k n).trans (h n)

theorem sameLayout_of_stations {s t : State} (h : t.stations = s.stations) : SameLayout s t := fun n => by
  unfold layoutAt stationAt
  rw [h]

/-- A slot whose new entry has its old role and position leaves the layout as it is. -/
theorem sameLayout_putStation {s t : State} {n : SlotNo} {old new : Station} (entry : stationAt s n = some old)
    (role : new.role = old.role) (position : new.position = old.position)
    (table : t.stations = (putStation n (some new) s).stations) : SameLayout s t := by
  refine SameLayout.trans (t := putStation n (some new) s) (fun m => ?_) (sameLayout_of_stations table)
  unfold layoutAt
  by_cases same : m = n
  · subst same
    rw [stationAt_putStation, entry, Option.map_some, Option.map_some, role, position]
  · rw [stationAt_putStation_other same]

theorem SameLayout.role {s t : State} (h : SameLayout s t) {n : SlotNo} {st : Station} (entry : stationAt t n = some st) :
    ∃ old, stationAt s n = some old ∧ old.role = st.role := by
  have same := h n
  unfold layoutAt at same
  rw [entry, Option.map_some, eq_comm, Option.map_eq_some_iff] at same
  obtain ⟨old, stands, pair⟩ := same
  exact ⟨old, stands, congrArg Prod.fst pair⟩

theorem sameLayout_updateStation {n : SlotNo} {f : Station → Station} (role : ∀ st, (f st).role = st.role)
    (position : ∀ st, (f st).position = st.position) (s : State) : SameLayout s (updateStation n f s) := by
  unfold updateStation
  split
  next st entry => exact sameLayout_putStation entry (role st) (position st) (stationChanged_stations n st _ s)
  next => exact sameLayout_of_stations rfl

end Sys2Proof.Machine
end

section
/-! Every command is made of moves: one lemma for each operation of the blocks, from the shared operations up to
the dispatcher, each the sequence of moves its definition writes. -/

namespace Sys2Proof.Machine

open Relation (ReflTransGen)

variable {staged : Prop}

/-! ### Single moves -/

theorem moves_aside {s t : State} (h : Aside s t) : Moves staged s t := .single (.aside h)

theorem moves_work {s t : State} (h : WorkMove staged s t) : Moves staged s t := .single (.work h)

theorem moves_step {s t : State} (h : StepMove s t) : Moves staged s t := .single (.step h)

theorem moves_raise (n : Notice) (s : State) : Moves staged s (raise n s) := moves_aside rfl

theorem moves_newMoment (s : State) : Moves staged s (newMoment s) := moves_aside rfl

theorem moves_tally (e : TallyEvent) (slot : Option SlotNo) (s : State) : Moves staged s (tally e slot s) :=
  .single (.counters (.event e slot))

theorem moves_handFault (k : FaultCause) (s : State) : Moves staged s (handFault k s) := .single (.fault k)

theorem moves_addCause {c : FeedCause} (owner : c = .hostHold ∨ c = .stopPoint) (s : State) : Moves staged s (addCause c s) :=
  .single (.cause c true owner)

theorem moves_removeCause {c : FeedCause} (owner : c = .hostHold ∨ c = .stopPoint) (s : State) :
    Moves staged s (removeCause c s) :=
  .single (.cause c false owner)

theorem moves_issueDrive (o : BusOrder) (s : State) : Moves staged s (issueDrive o s) := moves_aside (by
  unfold Aside
  rw [issueDrive_eq])

theorem moves_freshFell (before : Nat) (s : State) : Moves staged s (freshFell before s) := by
  unfold freshFell
  split
  · exact moves_raise _ s
  · exact .refl

/-- A fold of operations that are moves is moves. -/
theorem moves_foldl {α : Type} {f : State → α → State} (step : ∀ s a, Moves staged s (f s a)) (l : List α) (s : State) :
    Moves staged s (l.foldl f s) := by
  induction l generalizing s with
  | nil => exact .refl
  | cons a l ih => exact (step s a).trans (ih _)

/-! ### Cells -/

theorem CellKept.refl (c : Cell) : CellKept c c := ⟨rfl, rfl, rfl, rfl, rfl, .inl rfl⟩

theorem cellKept_condemn (k : Condemn) (c : Cell) : CellKept c (c.condemn k) := by
  obtain ⟨tag, record, exchanges, -, -⟩ := condemn_fixed k c
  obtain ⟨content, offer, escaped⟩ := condemn_content k c
  refine ⟨tag, record, offer, escaped, exchanges, ?_⟩
  by_cases bound : c.content = .bound
  · exact .inr ⟨bound, by rw [content, if_pos bound]⟩
  · exact .inl (by rw [content, if_neg bound])

theorem cellKept_takeLoss (k : Condemn) (c : Cell) : CellKept c (c.takeLoss k) := by
  unfold Cell.takeLoss
  split
  · exact cellKept_condemn k c
  · exact .refl c

theorem cellKept_takeJog (c : Cell) : CellKept c c.takeJog := by
  unfold Cell.takeJog
  split
  · exact cellKept_condemn _ c
  · exact .refl c

theorem cellsKept_same (l : List Cell) : List.Forall₂ CellKept l l := List.forall₂_same.mpr fun c _ => .refl c

theorem cellsKept_map {f : Cell → Cell} (kept : ∀ c, CellKept c (f c)) (l : List Cell) :
    List.Forall₂ CellKept l (l.map f) :=
  List.forall₂_map_right_iff.mpr (List.forall₂_same.mpr fun c _ => kept c)

theorem cellsKept_modify {f : Cell → Cell} (kept : ∀ c, CellKept c (f c)) (p : Nat) (l : List Cell) :
    List.Forall₂ CellKept l (l.modify p f) := by
  induction l generalizing p with
  | nil =>
    rw [List.modify_nil]
    exact .nil
  | cons c l ih =>
    cases p with
    | zero => exact .cons (kept c) (cellsKept_same l)
    | succ p => exact .cons (.refl c) (ih p)

theorem moves_cells {s : State} {cs : List Cell} (kept : List.Forall₂ CellKept s.track.cells cs) :
    Moves staged s { s with track := { s.track with cells := cs } } := moves_work (.cells cs kept)

/-- A change of a cell that moves no record is a move. -/
theorem moves_modifyCell {f : Cell → Cell} (kept : ∀ c, CellKept c (f c)) (p : Nat) (s : State) :
    Moves staged s (modifyCell p f s) := moves_cells (cellsKept_modify kept p _)

theorem moves_condemnAt (p : Nat) (k : Condemn) (s : State) : Moves staged s (condemnAt p k s) :=
  moves_modifyCell (cellKept_condemn k) p s

theorem moves_setPrint (p : Nat) (v : PrintState) (s : State) : Moves staged s (setPrint p v s) :=
  moves_modifyCell (f := fun c => { c with print := v }) (fun _ => ⟨rfl, rfl, rfl, rfl, rfl, .inl rfl⟩) p s

theorem moves_returnCredit (s : State) : Moves staged s (returnCredit s) :=
  moves_work (.jobs _ (.inl (Nat.sub_le _ _)))

theorem moves_openExchange (n : SlotNo) (p closing : Nat) (tag : Tag) (o : CellOrder) (s : State) :
    Moves staged s (openExchange n p closing tag o s) :=
  (moves_work (.exchangeOpened p { slot := n, closing := closing })).trans (moves_aside rfl)

/-! ### Stations (Chapter 1) -/

theorem moves_updateStation {n : SlotNo} {f : Station → Station} (role : ∀ st, (f st).role = st.role)
    (position : ∀ st, (f st).position = st.position) (s : State) : Moves staged s (updateStation n f s) := by
  unfold updateStation
  split
  next st entry => exact .single (.station (.changed entry (role st) (position st)))
  next => exact .refl

theorem moves_countResult (n : SlotNo) (o : StationOutcome) (s : State) : Moves staged s (countResult n o s) := by
  refine moves_updateStation (fun st => ?_) (fun st => ?_) s
  · exact (afterResult_fixed o st).1
  · exact (afterResult_fixed o st).2.2.2.1

theorem afterNoReport_fixed (st : Station) :
    st.afterNoReport.role = st.role ∧ st.afterNoReport.position = st.position := by
  unfold Station.afterNoReport
  split <;> exact ⟨rfl, rfl⟩

theorem notAnswered_fixed (st : Station) : st.notAnswered.role = st.role ∧ st.notAnswered.position = st.position := by
  unfold Station.notAnswered
  split <;> exact ⟨rfl, rfl⟩

theorem moves_takeMotion_entry {n : SlotNo} {st : Station} {s : State} (entry : stationAt s n = some st) (m : Option Motion) :
    Moves staged s (putStation n (some { st with motion := m }) s) := .single (.station (.motion entry m))

/-! ### The step monitor (6.2) -/

theorem moves_leaveOutOfStep (s : State) : Moves staged s (leaveOutOfStep s) :=
  (moves_step (.found { s.step with state := .proving, provingCount := 0 } (by simp))).trans
    (moves_raise (stepNotice { s.step with state := .proving, provingCount := 0 } none none) _)

theorem moves_stepAutoExit (s : State) : Moves staged s (stepAutoExit s) := by
  unfold stepAutoExit
  split
  · exact moves_leaveOutOfStep s
  · exact .refl

theorem moves_enterOutOfStep (conditions : List StepCondition) (evidence : Option StepEvidence) (s : State) :
    Moves staged s (enterOutOfStep conditions evidence s) := by
  have struck : List.Forall₂ CellKept s.track.cells
      ((s.track.cells.take (upToReader s)).map (Cell.takeLoss { kind := .stepLost, station := none })
        ++ s.track.cells.drop (upToReader s)) := by
    have taken := cellsKept_map (cellKept_takeLoss { kind := .stepLost, station := none }) (s.track.cells.take (upToReader s))
    have rest := cellsKept_same (s.track.cells.drop (upToReader s))
    simpa only [List.take_append_drop] using List.rel_append taken rest
  unfold enterOutOfStep
  refine (moves_cells struck).trans ?_
  refine ((moves_step (.lost _ ?_)).trans (moves_raise _ _)).trans (moves_stepAutoExit _)
  rfl

theorem moves_stepData {m : StepMonitor} {s : State} (state : m.state = s.step.state) : Moves staged s { s with step := m } :=
  moves_step (.data m (by rw [state]))

theorem moves_provingPass {s : State} (proving : s.step.state = .proving) : Moves staged s (provingPass s) := by
  unfold provingPass
  split
  · exact (moves_step (.data _ (by simp [proving]))).trans (moves_raise _ _)
  · exact moves_stepData rfl

theorem moves_completeBlock (s : State) : Moves staged s (completeBlock s) := by
  unfold completeBlock
  split
  · exact moves_stepData rfl
  · exact .refl

theorem moves_noteExcess (excess : Bool) (s : State) : Moves staged s (noteExcess excess s) := by
  cases excess
  · exact .refl
  · exact (moves_stepData (m := { s.step with blockNoticeRaised := true }) rfl).trans (moves_raise _ _)

theorem moves_judgeEntry (e : StepEntry) (evidence : StepEvidence) (s : State) : Moves staged s (judgeEntry e evidence s) := by
  unfold judgeEntry
  dsimp only
  refine ReflTransGen.trans (moves_noteExcess (s.step.exceeds s.params.excessLimit e) s)
    (ReflTransGen.trans ?_ (moves_completeBlock _))
  split
  · exact moves_enterOutOfStep _ _ _
  · split
    next proving => exact moves_provingPass proving
    next => exact .refl

theorem moves_takeReadOutcome (o : ReadOutcome) (evidence : StepEvidence) (s : State) :
    Moves staged s (takeReadOutcome o evidence s) := by
  unfold takeReadOutcome
  split
  · exact .refl
  · exact .refl
  all_goals
    dsimp only
    split
    · exact moves_stepData rfl
    · refine (moves_stepData ?_).trans (moves_judgeEntry _ _ _)
      rfl

theorem moves_lostListAdvance (s : State) : Moves staged s (lostListAdvance s) := by
  refine (moves_stepData ?_).trans (moves_stepAutoExit _)
  rfl

theorem moves_lostOfferEnded (tag : Tag) (s : State) : Moves staged s (lostOfferEnded tag s) := by
  unfold lostOfferEnded
  split
  · refine (moves_stepData ?_).trans (moves_stepAutoExit _)
    rfl
  · exact .refl

/-- A reset of the monitor leaves it in step or not monitored (R112). -/
theorem stepStateAtReset_ne (s : State) : stepStateAtReset s ≠ .outOfStep := by
  unfold stepStateAtReset
  split <;> simp

theorem moves_resetStep (s : State) : Moves staged s (resetStep s) := by
  have cleared : Moves staged s { removeCause .step s with step := StepMonitor.cleared (stepStateAtReset (removeCause .step s)) } :=
    moves_step (.found _ (stepStateAtReset_ne _))
  unfold resetStep clearStep
  dsimp only
  split
  · exact cleared
  · exact cleared.trans (moves_raise _ _)

theorem moves_takeRestep (s : State) : Moves staged s (takeRestep s).2 := by
  unfold takeRestep
  dsimp only
  split
  · exact .refl
  · exact moves_enterOutOfStep _ _ s
  · exact moves_enterOutOfStep _ _ s
  · split
    · exact moves_leaveOutOfStep s
    · exact .refl

/-! ### The phase monitor (Chapter 7) -/

theorem moves_phaseData {m : PhaseMonitor} {s : State} (state : m.state = s.phase.state) : Moves staged s { s with phase := m } :=
  .single (.phase (.data m state))

theorem moves_changePhase (m : PhaseMonitor) (struck : Option (Nat × Nat)) (s : State) : Moves staged s (changePhase m struck s) := by
  have changed : Moves staged s (putCause .phase m.state.suppresses { s with phase := m }) := .single (.phase (.changed m))
  unfold changePhase
  dsimp only
  split
  · exact changed
  · exact changed.trans (moves_raise _ _)

theorem moves_enterLost (cause : LossCause) (s : State) : Moves staged s (enterLost cause s) :=
  (moves_cells (cellsKept_map (cellKept_takeLoss { kind := .phaseLost, station := none }) _)).trans (moves_changePhase _ _ _)

theorem moves_takeError (cause : LossCause) (s : State) : Moves staged s (takeError cause s).1 := by
  have entered : Moves staged s { s with phase := { s.phase with window := addError s.phase.window } } := moves_phaseData rfl
  unfold takeError
  dsimp only
  split
  · exact entered.trans (moves_enterLost cause _)
  · exact entered

theorem moves_takePulse (s : State) : Moves staged s (takePulse s).1 := by
  have counted : Moves staged s { s with phase := s.phase.counted } := moves_phaseData rfl
  unfold takePulse
  dsimp only
  split
  · exact .refl
  · split
    · exact moves_phaseData rfl
    · split
      · exact counted.trans (moves_takeError _ _)
      · exact counted

theorem moves_misplacedMark (d : Nat) (s : State) : Moves staged s (misplacedMark d s) := by
  unfold misplacedMark
  dsimp only
  split
  · exact (moves_raise _ s).trans (moves_phaseData rfl)
  · exact moves_phaseData rfl

theorem moves_markJudged {s : State} {r : State × Bool} (h : Moves staged s r.1) : Moves staged s (markJudged r).1 :=
  h.trans (moves_phaseData rfl)

theorem moves_takeMark (s : State) : Moves staged s (takeMark s).1 := by
  unfold takeMark
  split
  · exact .refl
  · split
    · exact .refl
    · exact moves_markJudged (moves_changePhase _ _ s)
    · refine moves_markJudged ?_
      unfold markAcquiring
      split
      · exact moves_changePhase _ _ s
      · exact moves_phaseData rfl
    · refine moves_markJudged ?_
      unfold markLocked
      split
      · exact moves_phaseData rfl
      · exact (moves_misplacedMark _ s).trans (moves_takeError _ _)
    · refine moves_markJudged ?_
      unfold markLost
      split
      · exact moves_phaseData rfl
      · exact moves_misplacedMark _ s

theorem moves_handPhaseFault (lost : Bool) (s : State) : Moves staged s (handPhaseFault lost s) := by
  cases lost
  · exact .refl
  · exact moves_handFault .phase s

theorem moves_phaseThenFault (s : State) : Moves staged s (phaseThenFault s) :=
  (moves_takePulse s).trans (moves_handPhaseFault _ _)

theorem moves_phaseLineStart (s : State) : Moves staged s (phaseLineStart s) := by
  unfold phaseLineStart
  split
  · exact moves_changePhase _ _ s
  · exact .refl

/-! ### The bundle builder (Chapter 9) -/

theorem closeBundle_of {s : State} {b : OpenBundle} (h : s.bundles.bundle = some b) (reason : ClosureReason) :
    closeBundle reason s = tally .bundlesClosed none (bundleClosed reason b s) := by
  unfold closeBundle
  rw [h]
  rfl

theorem closeBundle_none {s : State} (h : s.bundles.bundle = none) (reason : ClosureReason) : closeBundle reason s = s := by
  unfold closeBundle
  rw [h]

theorem closeTray_of {s : State} {t : OpenTray} (h : s.bundles.tray = some t) (reason : ClosureReason) :
    closeTray reason s = trayClosed reason t s := by
  unfold closeTray
  rw [h]
  rfl

theorem closeTray_none {s : State} (h : s.bundles.tray = none) (reason : ClosureReason) : closeTray reason s = s := by
  unfold closeTray
  rw [h]

/-- A closed bundle leaves none open. -/
theorem closeBundle_bundle (reason : ClosureReason) (s : State) : (closeBundle reason s).bundles.bundle = none := by
  cases h : s.bundles.bundle with
  | none => rw [closeBundle_none h, h]
  | some b =>
    rw [closeBundle_of h, tally_bundles]
    rfl

theorem closeBundle_tray (reason : ClosureReason) (s : State) : (closeBundle reason s).bundles.tray = s.bundles.tray := by
  cases h : s.bundles.bundle with
  | none => rw [closeBundle_none h]
  | some b =>
    rw [closeBundle_of h, tally_bundles]
    simp [bundleClosed]

theorem closeTray_bundle (reason : ClosureReason) (s : State) : (closeTray reason s).bundles.bundle = s.bundles.bundle := by
  cases h : s.bundles.tray with
  | none => rw [closeTray_none h]
  | some t =>
    rw [closeTray_of h]
    simp [trayClosed]

theorem moves_closeBundle (reason : ClosureReason) (s : State) : Moves staged s (closeBundle reason s) := by
  cases h : s.bundles.bundle with
  | none => rw [closeBundle_none h]
  | some b =>
    rw [closeBundle_of h]
    exact (moves_work (.bundleEnd reason b h)).trans (moves_tally _ _ _)

theorem moves_closeTray {reason : ClosureReason} {s : State} (closed : s.bundles.bundle = none) :
    Moves staged s (closeTray reason s) := by
  cases h : s.bundles.tray with
  | none => rw [closeTray_none h]
  | some t =>
    rw [closeTray_of h]
    exact moves_work (.trayEnd reason t h closed)

theorem moves_closeBoth (reason : ClosureReason) (s : State) : Moves staged s (closeTray reason (closeBundle reason s)) :=
  (moves_closeBundle reason s).trans (moves_closeTray (closeBundle_bundle reason s))

theorem moves_builder {s : State} {b : BundleBuilder} (bundle : b.bundle = s.bundles.bundle)
    (tray : b.tray = s.bundles.tray) : Moves staged s { s with bundles := b } := moves_work (.builder b bundle tray)

/-- A break closes the open bundle for its reason, or finds none open. -/
theorem breakBundle_cases (r : Record) (w : Nat) (s : State) :
    (∃ reason, breakBundle r w s = closeBundle reason s) ∨ (s.bundles.bundle = none ∧ breakBundle r w s = s) := by
  unfold breakBundle
  split
  · exact .inl ⟨_, rfl⟩
  next h => exact .inr ⟨h, rfl⟩

theorem breakBundle_bundle (r : Record) (w : Nat) (s : State) : (breakBundle r w s).bundles.bundle = none := by
  rcases breakBundle_cases r w s with ⟨reason, e⟩ | ⟨h, e⟩
  · rw [e, closeBundle_bundle]
  · rw [e, h]

theorem breakBundle_tray (r : Record) (w : Nat) (s : State) : (breakBundle r w s).bundles.tray = s.bundles.tray := by
  rcases breakBundle_cases r w s with ⟨reason, e⟩ | ⟨-, e⟩
  · rw [e, closeBundle_tray]
  · rw [e]

theorem moves_breakBundle (r : Record) (w : Nat) (s : State) : Moves staged s (breakBundle r w s) := by
  rcases breakBundle_cases r w s with ⟨reason, e⟩ | ⟨-, e⟩
  · exact e ▸ moves_closeBundle reason s
  · rw [e]

theorem moves_decideBreak (r : Record) (s : State) (stage : staged) : Moves staged s (decideBreak r s).2 := by
  unfold decideBreak
  dsimp only
  split
  · refine ReflTransGen.trans ?_ (moves_work (.bundleBegin r.bundleKey _ rfl stage))
    refine ReflTransGen.trans ?_ (moves_work (.trayBegin r.trayKey ?_ stage))
    · exact (moves_breakBundle r _ s).trans (moves_closeTray (breakBundle_bundle _ _ _))
    · rw [closeTray_bundle, breakBundle_bundle]
  next keeps =>
    split
    · cases tray : s.bundles.tray with
      | none => exact absurd (by simp [needsTray, tray]) keeps
      | some t =>
        refine (moves_breakBundle r _ s).trans (moves_work (.bundleBegin r.bundleKey t ?_ stage))
        rw [breakBundle_tray, tray]
    · exact .refl

theorem moves_stackOutcome {n : SlotNo} {p : Nat} {c : Cell} {r : Record} {s : State} (cell : s.track.cells[p]? = some c)
    (content : c.content = .passed) (record : c.record = some r) (e : StackerEnd) : Moves staged s (stackOutcome n p c r e s) := by
  have counted (unconfirmed : Bool) (report : ItemReport) : Moves staged s (finishRecord p r report (countItem r unconfirmed s)) :=
    (moves_work (.counted r unconfirmed)).trans (moves_work (.finished p c r report cell content record))
  cases e with
  | stacked => exact (counted _ _).trans (moves_tally _ _ _)
  | fault =>
    exact ((moves_work (.finished p c r _ cell content record)).trans (moves_handFault _ _)).trans (moves_tally _ _ _)
  | silent => exact ((counted _ _).trans (moves_handFault _ _)).trans (moves_tally _ _ _)

theorem moves_carryOutClose (s : State) : Moves staged s (carryOutClose s) := by
  unfold carryOutClose
  dsimp only
  refine (moves_builder (s := s) (b := { s.bundles with inFlight := none, closePending := .none }) rfl rfl).trans ?_
  split
  · exact .refl
  · exact moves_closeBundle _ _
  · exact moves_closeBoth _ _

theorem moves_stackerEnded (n : SlotNo) (p : Nat) (e : StackerEnd) (s : State) : Moves staged s (stackerEnded n p e s) := by
  unfold stackerEnded
  split
  · exact .refl
  next c cell =>
    split
    · exact .refl
    next passed =>
      split
      · cases e with
        | stacked => exact .refl
        | fault => exact moves_handFault _ s
        | silent => exact moves_handFault _ s
      · split
        next r record =>
          exact (moves_stackOutcome cell (not_not.mp passed) record e).trans (moves_carryOutClose _)
        next => exact .refl

theorem moves_drainClose (s : State) : Moves staged s (drainClose s) :=
  (moves_closeBoth .drain s).trans (moves_builder rfl rfl)

/-! ### The gate (Chapter 8) -/

theorem moves_divertCondemned {n : SlotNo} {p : Nat} {c : Cell} {s : State} (cell : s.track.cells[p]? = some c)
    (content : c.content = .condemned) : Moves staged s (divertCondemned n p c s) := by
  unfold divertCondemned
  dsimp only
  split
  next record => exact moves_work (.recordless p c cell content record)
  next r record =>
    split
    · exact ((moves_work (.remade p c r c.fault cell content record)).trans (moves_tally _ _ _)).trans (moves_tally _ _ _)
    · exact ((moves_work (.attemptsOver p c r c.fault cell content record)).trans (moves_tally _ _ _)).trans (moves_tally _ _ _)

theorem moves_escapeCondemned {n : SlotNo} {p : Nat} {c : Cell} {s : State} (cell : s.track.cells[p]? = some c)
    (content : c.content = .condemned) : Moves staged s (escapeCondemned n p c s) := by
  unfold escapeCondemned
  dsimp only
  refine (ReflTransGen.trans ?_ (moves_handFault _ _)).trans (moves_tally _ _ _)
  split
  next r record => exact moves_work (.recordEscaped p c r c.fault cell content record)
  next record => exact moves_work (.itemEscaped p c cell (.inr (.inr ⟨content, record⟩)))

theorem moves_gateEnded (n : SlotNo) (p : Nat) (o : GateOutcome) (s : State) : Moves staged s (gateEnded n p o s) := by
  unfold gateEnded
  split
  · exact .refl
  next c cell =>
    split
    next content =>
      split
      · exact moves_divertCondemned cell content
      · exact moves_escapeCondemned cell content
    next content =>
      unfold boundOutcome
      split
      · have condemned : ∀ k, (c.condemn k).content = .condemned := fun k => by rw [(condemn_content k c).1, if_pos content]
        exact (moves_condemnAt p _ s).trans (moves_divertCondemned (cellAt_modifyCell cell _) (condemned _))
      · exact moves_work (.gatePassed p c cell content)
    next content =>
      split
      · exact moves_work (.itemDiverted p c cell (.inl content))
      · exact ((moves_work (.itemEscaped p c cell (.inl content))).trans (moves_handFault _ _)).trans (moves_tally _ _ _)
    next content =>
      unfold proofOutcome
      split
      · exact (moves_work (.itemDiverted p c cell (.inr content))).trans (moves_raise _ _)
      · refine ReflTransGen.trans ?_ (moves_tally _ _ _)
        refine ReflTransGen.trans ?_ (moves_handFault _ _)
        exact (moves_work (.itemEscaped p c cell (.inr (.inl content)))).trans (moves_raise _ _)
    all_goals exact .refl

end Sys2Proof.Machine
end

section
/-! The binding block, the pitch track and the two inputs that move it are made of moves. -/

namespace Sys2Proof.Machine

open Relation (ReflTransGen)

variable {staged : Prop}

/-! ### Binding (Chapter 4) -/

theorem moves_gap (s : State) : Moves staged s (gap s) := moves_tally _ _ s

/-- A stranded head leaves the queue, and the cells alone (R73). -/
theorem strandHead_eq (s : State) (r : Record) :
    strandHead s r = tally .offlineFinishes none (tally .strands none
      (reportGone r (offlineReport r .stranded none r.attempts) (setQueue s.intake.queue.tail s))) := rfl

theorem strandHead_queue (s : State) (r : Record) : (strandHead s r).intake.queue = s.intake.queue.tail := by
  simp [strandHead_eq, reportGone, releaseVersion, setQueue]

theorem strandHead_cells (s : State) (r : Record) : (strandHead s r).track = s.track := by
  simp [strandHead_eq, reportGone, releaseVersion]

theorem moves_strandHead {s : State} {r : Record} {rest : List Record} (head : s.intake.queue = r :: rest)
    (remake : r.kind = .remake) (stage : staged) : Moves staged s (strandHead s r) :=
  ((moves_work (.stranded r rest head remake stage)).trans (moves_tally _ _ _)).trans (moves_tally _ _ _)

/-- Some remakes at the head of the queue are stranded one after the other (R73). -/
theorem moves_strandAll (l : List Record) {rest : List Record} {s : State} (queue : s.intake.queue = l ++ rest)
    (remakes : ∀ r ∈ l, r.kind = .remake) (stage : staged) : Moves staged s (l.foldl strandHead s) := by
  induction l generalizing s with
  | nil => exact .refl
  | cons r l ih =>
    have next : (strandHead s r).intake.queue = l ++ rest := by
      rw [strandHead_queue, queue]
      rfl
    exact (moves_strandHead queue (remakes r (by simp)) stage).trans (ih next fun x hx => remakes x (by simp [hx]))

theorem strandable_remake {key : Option Nat} {r : Record} (h : strandable key r = true) : r.kind = .remake := by
  simp only [strandable, Bool.and_eq_true, beq_iff_eq] at h
  exact h.1

theorem moves_strandHeads (stage : staged) (s : State) : Moves staged s (strandHeads s) := by
  refine moves_strandAll _ (List.takeWhile_append_dropWhile (p := strandable s.binding.lastKey)).symm (fun r hr => ?_) stage
  exact strandable_remake (List.mem_takeWhile_imp hr)

theorem strandAll_cells (l : List Record) (s : State) : (l.foldl strandHead s).track = s.track := by
  induction l generalizing s with
  | nil => rfl
  | cons r l ih => rw [List.foldl_cons, ih, strandHead_cells]

theorem moves_enterDraining {option : DrainOption} {s : State} (running : s.line.state = .running) (set : option ≠ .none) :
    Moves staged s (enterDraining option s) := .single (.line (.drain running rfl rfl rfl set) rfl)

theorem moves_meetStopPoint (t : StopTarget) (head : Record) (s : State) : Moves staged s (meetStopPoint t head s) := by
  unfold meetStopPoint
  dsimp only
  refine ReflTransGen.trans ?_ (moves_gap _)
  refine ReflTransGen.trans ?_ (moves_raise _ _)
  have met : Moves staged s (addCause .stopPoint { s with binding := { s.binding with stopPoint := .met t head.sequence } }) := by
    refine ReflTransGen.trans ?_ (moves_addCause (.inr rfl) _)
    exact moves_aside rfl
  split
  next running => exact met.trans (moves_enterDraining running (by simp))
  next => exact met

theorem moves_keyWaitGap (s : State) : Moves staged s (keyWaitGap s) := by
  refine ReflTransGen.trans ?_ (moves_tally _ _ _)
  refine ReflTransGen.trans ?_ (moves_tally _ _ _)
  exact moves_aside rfl

/-- No item stands at position 0: binding may offer there. -/
def FrontFree (s : State) : Prop := ∀ c, s.track.cells[0]? = some c → c.content = .empty ∧ c.record = none

theorem moves_offerHead {head : Record} {rest : List Record} {s : State} (queue : s.intake.queue = head :: rest)
    (free : FrontFree s) (stage : staged) : Moves staged s (offerHead head s) := by
  refine ReflTransGen.trans ?_ (moves_tally _ _ _)
  exact (moves_work (.offered head rest queue free stage)).trans (moves_aside rfl)

theorem moves_decideNewCell {s : State} (free : FrontFree s) (stage : staged) : Moves staged s (decideNewCell s) := by
  unfold decideNewCell
  split
  · exact moves_gap s
  · split
    · exact moves_work (.proofOffered free stage)
    · refine (moves_strandHeads stage s).trans ?_
      have freed : FrontFree (strandHeads s) := by
        unfold FrontFree strandHeads
        rwa [strandAll_cells]
      unfold decideHead
      split
      · exact moves_gap _
      next head rest queue =>
        split
        · exact moves_meetStopPoint _ _ _
        · split
          · exact moves_keyWaitGap _
          · exact moves_offerHead queue freed stage

/-- An ended offer is its record's return to the queue, then the end of its mark (R31, R117). -/
theorem withdrawOffer_eq (p : Nat) (c : Cell) (content : Content) (s : State) :
    withdrawOffer p c content s = lostOfferEnded c.tag (offerBack p c content s) := rfl

theorem moves_withdrawOffer {p : Nat} {c : Cell} {v : Content} {s : State} (cell : s.track.cells[p]? = some c)
    (content : c.content = .offered) (ends : v = .empty ∨ v = .void) : Moves staged s (withdrawOffer p c v s) :=
  (moves_work (.withdrawn p c v cell content ends)).trans (moves_lostOfferEnded _ _)

theorem moves_bindRecord {n : SlotNo} {p : Nat} {c : Cell} {s : State} (r : Record) (double : Bool)
    (cell : s.track.cells[p]? = some c) (content : c.content = .offered) : Moves staged s (bindRecord n p r double s) := by
  have bound := (moves_work (.fed p n double (demandsOf s r.version) c cell content)).trans
    (moves_aside (staged := staged) (t := { modifyCell p (Cell.fedBy n double (demandsOf s r.version)) s with
      binding := { s.binding with lastKey := some r.bundleKey, lastVersion := some r.version } }) rfl)
  have told := (bound.trans (moves_freshFell (freshCount s) _)).trans (moves_tally .binds (some n) _)
  unfold bindRecord
  dsimp only
  split
  · exact told.trans (moves_tally _ _ _)
  · exact told

theorem moves_proofFed {n : SlotNo} {p : Nat} {c : Cell} {s : State} (double : Bool)
    (cell : s.track.cells[p]? = some c) (content : c.content = .offered) : Moves staged s (proofFed n p double s) := by
  have fed := (moves_work (.fed p n double [] c cell content)).trans
    (moves_aside (staged := staged) (t := { modifyCell p (Cell.fedBy n double []) s with
      binding := { s.binding with proofPending := false } }) rfl)
  unfold proofFed
  dsimp only
  split
  · exact fed.trans (moves_tally _ _ _)
  · exact fed

theorem moves_mainFeedEnded (n : SlotNo) (p : Nat) (e : FeedEnd) (s : State) : Moves staged s (mainFeedEnded n p e s) := by
  unfold mainFeedEnded
  split
  · exact .refl
  next c cell =>
    split
    · exact .refl
    next offered =>
      have content : c.content = .offered := not_not.mp offered
      cases e with
      | fed | double =>
        dsimp only
        split
        · exact moves_bindRecord _ _ cell content
        · exact moves_proofFed _ cell content
      | miss => exact (moves_withdrawOffer cell content (.inl rfl)).trans (moves_tally _ _ _)
      | closed =>
        dsimp only
        split
        · exact (moves_withdrawOffer cell content (.inr rfl)).trans (moves_aside rfl)
        · exact moves_withdrawOffer cell content (.inr rfl)

/-! ### Closures (R49 to R51) -/

theorem moves_closureEffect (k : Closure) (n : SlotNo) (r : Role) (p : Nat) (s : State) :
    Moves staged s (closureEffect k n r p s) := by
  cases r with
  | mainFeeder => exact moves_mainFeedEnded n p .closed s
  | printer => exact ((moves_returnCredit s).trans (moves_setPrint p .failed _)).trans (moves_condemnAt p _ _)
  | gate => exact moves_gateEnded n p _ s
  | stacker => exact moves_stackerEnded n p .silent s
  | drive => exact .refl
  | _ => exact moves_condemnAt p _ s

theorem moves_handClosure (k : Closure) (n : SlotNo) (s : State) : Moves staged s (handClosure k n s) := by
  cases k with
  | noReport =>
    refine ReflTransGen.trans ?_ (moves_tally _ _ _)
    exact moves_updateStation (fun st => (afterNoReport_fixed st).1) (fun st => (afterNoReport_fixed st).2) s
  | busLate => exact moves_tally _ _ s

theorem moves_closeExchange (stage : staged) (p : Nat) (tag : Tag) (n : SlotNo) (s : State) : Moves staged s (closeExchange p tag n s) := by
  have ended : Moves staged s (modifyCell p (Cell.endExchange n) (withdraw n tag s)) := by
    refine ReflTransGen.trans ?_ (moves_work (.exchangeEnded p n stage))
    exact moves_aside rfl
  unfold closeExchange
  dsimp only
  split
  · exact (ended.trans (moves_closureEffect _ n _ p _)).trans (moves_handClosure _ n _)
  · exact ended

theorem moves_closeCell (stage : staged) (s : State) (p : Nat) : Moves staged s (closeCell s p) := by
  unfold closeCell
  split
  next c _ =>
    exact moves_foldl (f := fun s (e : Exchange) => closeExchange p c.tag e.slot s)
      (fun s e => moves_closeExchange stage p c.tag e.slot s) _ s
  next => exact .refl

theorem moves_closeExchanges (stage : staged) (s : State) : Moves staged s (closeExchanges s) := moves_foldl (moves_closeCell stage) _ s

/-! ### Commands (R54 to R58) -/

theorem moves_derivePrinter (n : SlotNo) (p : Nat) (c : Cell) (s : State) : Moves staged s (derivePrinter n p c s) := by
  unfold derivePrinter
  split
  · exact moves_condemnAt p _ s
  · split
    next few =>
      refine ((moves_setPrint p .sent s).trans (moves_openExchange n p _ c.tag _ _)).trans (moves_work (.jobs _ (.inr ?_)))
      exact few
    · exact (moves_setPrint p .refused s).trans (moves_condemnAt p _ _)

theorem moves_deriveStacker (stage : staged) (n : SlotNo) (p : Nat) (c : Cell) (s : State) : Moves staged s (deriveStacker n p c s) := by
  unfold deriveStacker
  split
  · exact .refl
  · split
    · exact moves_openExchange _ _ _ _ _ s
    · split
      · exact ((moves_decideBreak _ s stage).trans (moves_openExchange _ _ _ _ _ _)).trans (moves_builder rfl rfl)
      · exact .refl

/-- A station's command opens an exchange, condemns the cell, or is none (R54 to R57). -/
theorem moves_deriveFor (n : SlotNo) (r : Role) (p : Nat) (c : Cell) (s : State) (stage : r = .stacker → staged) : Moves staged s (deriveFor n r p c s) := by
  have opened (o : CellOrder) : Moves staged s (openExchange n p p c.tag o s) := moves_openExchange _ _ _ _ _ s
  have refused (k : Condemn) : Moves staged s (condemnAt p k s) := moves_condemnAt p k s
  cases r with
  | mainFeeder =>
    dsimp only [deriveFor]
    split
    · exact opened _
    · exact .refl
  | insertFeeder =>
    dsimp only [deriveFor]
    split
    · split
      · exact opened _
      · exact refused _
    · exact .refl
  | printer =>
    dsimp only [deriveFor]
    split
    · exact moves_derivePrinter n p c s
    · exact .refl
  | carrierFeeder =>
    dsimp only [deriveFor, deriveCarrier]
    split
    · split
      · exact refused _
      · split
        · exact opened _
        · exact refused _
    · exact .refl
  | reader =>
    dsimp only [deriveFor, deriveReader]
    split
    · split
      · exact refused _
      · split
        · exact opened _
        · exact .refl
    · exact .refl
  | sealer =>
    dsimp only [deriveFor, deriveSealer]
    split
    · split
      · exact opened _
      · exact refused _
    iterate 3
      · split
        · exact opened _
        · exact .refl
    all_goals exact .refl
  | gate =>
    dsimp only [deriveFor, deriveGate]
    split
    iterate 4
      · exact opened _
    all_goals exact .refl
  | stacker => exact moves_deriveStacker (stage rfl) n p c s
  | drive => exact .refl

theorem moves_deriveAt (stage : staged) (jog : Bool) (s : State) (p : Nat) : Moves staged s (deriveAt jog s p) := by
  unfold deriveAt
  split
  · split
    · split
      · exact moves_deriveFor _ _ p _ s fun _ => stage
      · exact .refl
    · exact .refl
  · exact .refl

theorem moves_deriveCommands (stage : staged) (jog : Bool) (s : State) : Moves staged s (deriveCommands jog s) :=
  moves_foldl (moves_deriveAt stage jog) _ s

/-! ### The advance (R48) -/

theorem stepAutoExit_track (s : State) : (stepAutoExit s).track = s.track := by
  unfold stepAutoExit
  split
  · exact removeCause_track .step s
  · rfl

theorem lostListAdvance_track (s : State) : (lostListAdvance s).track = s.track := stepAutoExit_track _

/-- The new cell is free after the shift, whatever the lost list does (R53). -/
theorem frontFree_lostListAdvance_shift (s : State) : FrontFree (lostListAdvance (shift s)) := by
  unfold FrontFree
  rw [lostListAdvance_track]
  rintro c ⟨⟩
  exact ⟨rfl, rfl⟩

theorem moves_askBinding {jog : Bool} {s : State} (free : jog = false → FrontFree s) (stage : staged) : Moves staged s (askBinding jog s) := by
  unfold askBinding
  split
  next asked =>
    have running : jog = false := by
      cases jog
      · rfl
      · exact absurd asked (by simp)
    exact moves_decideNewCell (free running) stage
  next => exact .refl

/-- The windows of the counters move, and no hold does (R187). -/
theorem moveWindow_hold (c : Counter) : c.moveWindow.hold = c.hold := by
  unfold Counter.moveWindow
  split
  · split
    · split <;> rfl
    · rfl
  · rfl

theorem moves_tallyAdvance (s : State) : Moves staged s (tallyAdvance s) := by
  unfold tallyAdvance moveWindows
  refine (moves_tally .pitchAdvances none s).trans ?_
  split
  · exact .refl
  · refine .single (.counters (.data _ fun i => ?_))
    simp only [Fin.getElem_fin, Vector.getElem_ofFn]
    split
    · exact moveWindow_hold _
    · rfl

theorem moves_trackAdvance (stage : staged) (s : State) : Moves staged s (trackAdvance s) := by
  unfold trackAdvance
  dsimp only
  refine ReflTransGen.trans ?_ (moves_tallyAdvance _)
  refine ReflTransGen.trans ?_ (moves_deriveCommands stage _ _)
  have shifted : Moves staged s (shift (closeExchanges s)) := (moves_closeExchanges stage s).trans (moves_work (.shifted stage))
  split
  next jog =>
    refine ReflTransGen.trans ?_ (moves_askBinding (fun running => absurd (running.symm.trans jog) (by simp)) stage)
    exact (shifted.trans (moves_cells (cellsKept_map cellKept_takeJog _))).trans (moves_lostListAdvance _)
  next =>
    refine ReflTransGen.trans ?_ (moves_askBinding (fun _ => frontFree_lostListAdvance_shift _) stage)
    exact shifted.trans (moves_lostListAdvance _)

theorem moves_enterStopping {s : State}
    (moving : s.line.state = .starting ∨ s.line.state = .running ∨ s.line.state = .draining) : Moves staged s (enterStopping s) := by
  have line : (issueDrive .stop s).line = s.line := by rw [issueDrive_eq]
  refine (moves_issueDrive .stop s).trans (.single (.line ?_ rfl))
  exact .stop (by rwa [line]) rfl rfl (by simp) rfl

theorem closeBundle_line_state (reason : ClosureReason) (s : State) :
    (closeBundle reason s).line.state = s.line.state := by
  cases h : s.bundles.bundle with
  | none => rw [closeBundle_none h]
  | some b =>
    rw [closeBundle_of h, tally_line_state]
    exact queueReport_line_state _ s

theorem closeTray_line_state (reason : ClosureReason) (s : State) : (closeTray reason s).line.state = s.line.state := by
  cases h : s.bundles.tray with
  | none => rw [closeTray_none h]
  | some t =>
    rw [closeTray_of h]
    exact queueReport_line_state _ s

theorem moves_drainTest (draining : Bool) (s : State) : Moves staged s (drainTest draining s) := by
  unfold drainTest
  split
  next due =>
    split
    · refine (moves_drainClose s).trans (moves_enterStopping (.inr (.inr ?_)))
      rw [← due.2.1]
      exact (closeTray_line_state _ _).trans (closeBundle_line_state _ s)
    · exact moves_enterStopping (.inr (.inr due.2.1))
  next => exact .refl

theorem moves_trackThenDrain (stage : staged) (s : State) : Moves staged s (trackThenDrain s) :=
  (moves_trackAdvance stage s).trans (moves_drainTest _ _)

theorem moves_takePitch (stage : staged) (order : AdvanceOrder) (s : State) : Moves staged s (takePitch order s) := by
  cases order with
  | phaseThenTrack => exact (moves_phaseThenFault s).trans (moves_trackThenDrain stage _)
  | phaseFaultAfterTrack =>
    exact (((moves_takePulse s).trans (moves_trackAdvance stage _)).trans (moves_handPhaseFault _ _)).trans (moves_drainTest _ _)
  | trackThenPhase => exact ((moves_trackAdvance stage s).trans (moves_phaseThenFault _)).trans (moves_drainTest _ _)
  | trackThenLine => exact (moves_trackThenDrain stage s).trans (moves_phaseThenFault _)

/-! ### Results (R59 to R62) -/

theorem moves_lateResult (n : SlotNo) (s : State) : Moves staged s (lateResult n s) := by
  refine ReflTransGen.trans ?_ (moves_tally _ _ _)
  refine ReflTransGen.trans ?_ (moves_updateStation (f := Station.afterLate) (fun _ => rfl) (fun _ => rfl) _)
  exact moves_aside rfl

/-- A cell changed by an outcome that moves no record, then the station's count. -/
theorem moves_countCell {n : SlotNo} {p : Nat} {o : StationOutcome} {f : Cell → Cell} (kept : ∀ c, CellKept c (f c))
    (s : State) : Moves staged s (countResult n o (modifyCell p f s)) :=
  (moves_modifyCell kept p s).trans (moves_countResult n o _)

theorem moves_insertResult (n : SlotNo) (p : Nat) (o : StationOutcome) (s : State) : Moves staged s (insertResult n p o s) := by
  unfold insertResult
  split
  · exact (moves_countCell (f := Cell.demandFed n) (fun _ => ⟨rfl, rfl, rfl, rfl, rfl, .inl rfl⟩) s).trans (moves_tally _ _ _)
  · exact (moves_countCell (cellKept_condemn _) s).trans (moves_tally _ _ _)
  · exact (moves_countCell (cellKept_condemn _) s).trans (moves_tally _ _ _)
  · exact .refl

theorem moves_printerResult (n : SlotNo) (p : Nat) (o : StationOutcome) (s : State) : Moves staged s (printerResult n p o s) := by
  unfold printerResult
  split
  · exact (((moves_setPrint p .printed s).trans (moves_returnCredit _)).trans (moves_countResult _ _ _)).trans (moves_tally _ _ _)
  · exact (((moves_setPrint p .failed s).trans (moves_returnCredit _)).trans
      (moves_countCell (cellKept_condemn _) _)).trans (moves_tally _ _ _)
  · exact .refl

theorem moves_carrierResult (n : SlotNo) (p : Nat) (o : StationOutcome) (s : State) : Moves staged s (carrierResult n p o s) := by
  unfold carrierResult
  split
  · exact moves_countCell (f := fun c => { c with carrier := .fed }) (fun _ => ⟨rfl, rfl, rfl, rfl, rfl, .inl rfl⟩) s
  · exact ((moves_modifyCell (f := fun c => { c with carrier := .missed }) (fun _ => ⟨rfl, rfl, rfl, rfl, rfl, .inl rfl⟩) p s).trans
      (moves_countCell (cellKept_condemn _) _)).trans (moves_tally _ _ _)
  · exact .refl

theorem moves_sealerResult (n : SlotNo) (p : Nat) (o : StationOutcome) (s : State) : Moves staged s (sealerResult n p o s) := by
  unfold sealerResult
  split
  · exact moves_countCell (f := fun c => { c with sealed := true }) (fun _ => ⟨rfl, rfl, rfl, rfl, rfl, .inl rfl⟩) s
  · exact moves_countCell (cellKept_condemn _) s
  · exact .refl

theorem moves_mainFeederResult (n : SlotNo) (p : Nat) (o : StationOutcome) (s : State) :
    Moves staged s (mainFeederResult n p o s) := by
  unfold mainFeederResult
  split
  iterate 3
    · exact (moves_mainFeedEnded n p _ s).trans (moves_countResult n _ _)
  · exact .refl

theorem moves_gateResult (n : SlotNo) (p : Nat) (o : StationOutcome) (s : State) : Moves staged s (gateResult n p o s) := by
  unfold gateResult
  split
  iterate 2
    · exact (moves_gateEnded n p _ s).trans (moves_countResult n _ _)
  · exact .refl

theorem moves_stackerResult (n : SlotNo) (p : Nat) (o : StationOutcome) (s : State) : Moves staged s (stackerResult n p o s) := by
  unfold stackerResult
  split
  iterate 2
    · exact (moves_stackerEnded n p _ s).trans (moves_countResult n _ _)
  · exact .refl

theorem moves_verifyCell (n : SlotNo) (p : Nat) (o : ReadOutcome) (s : State) : Moves staged s (verifyCell n p o s) := by
  have marked (v : Verification) : Moves staged s (modifyCell p (fun c => { c with verification := v }) s) :=
    moves_modifyCell (f := fun c => { c with verification := v }) (fun _ => ⟨rfl, rfl, rfl, rfl, rfl, .inl rfl⟩) p s
  cases o with
  | matched => exact marked .matched
  | mismatch slip => exact (marked .failed).trans (moves_condemnAt p _ _)
  | noRead => exact (marked .failed).trans (moves_condemnAt p _ _)

theorem moves_tallyRead (n : SlotNo) (o : ReadOutcome) (s : State) : Moves staged s (tallyRead n o s) := by
  unfold tallyRead
  split
  · exact moves_tally _ _ s
  · exact moves_tally _ _ s
  · exact (moves_tally _ _ s).trans (moves_tally _ _ _)
  · exact moves_tally _ _ s

theorem moves_takeRead (n : SlotNo) (p : Nat) (c : Cell) (station : StationOutcome) (code : Option Nat) (o : ReadOutcome)
    (s : State) : Moves staged s (takeRead n p c station code o s) := by
  refine ReflTransGen.trans ?_ (moves_takeReadOutcome _ _ _)
  refine ReflTransGen.trans ?_ (moves_tallyRead n o _)
  exact (moves_verifyCell n p o s).trans (moves_countResult n station _)

theorem moves_applyOutcome (n : SlotNo) (r : Role) (p : Nat) (o : StationOutcome) (s : State) :
    Moves staged s (applyOutcome n r p o s) := by
  cases r with
  | mainFeeder => exact moves_mainFeederResult n p o s
  | insertFeeder => exact moves_insertResult n p o s
  | printer => exact moves_printerResult n p o s
  | carrierFeeder => exact moves_carrierResult n p o s
  | sealer => exact moves_sealerResult n p o s
  | gate => exact moves_gateResult n p o s
  | stacker => exact moves_stackerResult n p o s
  | drive => exact .refl
  | reader =>
    dsimp only [applyOutcome, readerResult]
    split
    · exact moves_takeRead n p _ _ _ _ s
    · exact moves_takeRead n p _ _ _ _ s
    · exact .refl

theorem moves_takeResult (stage : staged) (n : SlotNo) (t : Tag) (o : StationOutcome) (s : State) : Moves staged s (takeResult n t o s) := by
  unfold takeResult
  split
  · refine ReflTransGen.trans ?_ (moves_applyOutcome n _ _ o _)
    exact (moves_work (.exchangeEnded _ n stage)).trans (moves_aside rfl)
  · exact moves_lateResult n s

end Sys2Proof.Machine
end

section
/-! The line controller, the requests, the bus and the host link are made of moves; so is every command
(`exec_turns`), and with it every step keeps what every turn keeps (`kept_of_turns`). -/

namespace Sys2Proof.Machine

open Relation (ReflTransGen)

variable {staged : Prop}

/-! ### The line controller (Chapter 10) -/

theorem moves_bindingLineStart (s : State) : Moves staged s (bindingLineStart s) := by
  unfold bindingLineStart
  split
  · refine ReflTransGen.trans ?_ (moves_removeCause (.inr rfl) _)
    exact moves_aside rfl
  · exact .refl
  · exact .refl

/-- What starting the line leaves alone: the monitors and binding are told, the line itself has not moved. -/
theorem phaseLineStart_fixed (s : State) :
    (phaseLineStart s).stations = s.stations ∧ (phaseLineStart s).line.state = s.line.state := by
  unfold phaseLineStart changePhase
  split
  · dsimp only
    split <;> simp
  · exact ⟨rfl, rfl⟩

theorem bindingLineStart_fixed (s : State) :
    (bindingLineStart s).stations = s.stations ∧ (bindingLineStart s).line.state = s.line.state := by
  unfold bindingLineStart
  split <;> simp

/-- The first row of R171 asks for IDLE. -/
theorem idle_of_startRefusal {s : State} (ready : startRefusal s = none) : s.line.state = .idle := by
  by_contra moving
  simp [startRefusal, lineUpChecks, moving] at ready

theorem moves_startLine {s : State} (ready : startRefusal s = none) : Moves staged s (startLine s) := by
  obtain ⟨phaseTable, phaseState⟩ := phaseLineStart_fixed s
  obtain ⟨bindTable, bindState⟩ := bindingLineStart_fixed (phaseLineStart s)
  have table : (issueDrive .run (bindingLineStart (phaseLineStart s))).stations = s.stations := by
    rw [issueDrive_eq, ← phaseTable, ← bindTable]
  have line : (issueDrive .run (bindingLineStart (phaseLineStart s))).line.state = s.line.state := by
    rw [issueDrive_eq, ← phaseState, ← bindState]
  refine ReflTransGen.trans ?_ (.single (.line ?_ rfl))
  · exact ((moves_phaseLineStart s).trans (moves_bindingLineStart _)).trans (moves_issueDrive .run _)
  · exact .start ready table.symm (line.trans (idle_of_startRefusal ready)) rfl (by simp) rfl rfl

theorem moves_lineMotion (n : SlotNo) (m : Motion) (changed : Bool) (s : State) : Moves staged s (lineMotion n m changed s) := by
  unfold lineMotion
  split
  next state =>
    split
    · exact .single (.line (.run state rfl rfl rfl rfl) rfl)
    · exact .refl
  next state =>
    split
    · exact .single (.line (.halt state rfl rfl rfl rfl) rfl)
    · exact .refl
  iterate 2
    · split
      · exact moves_handFault _ s
      · exact .refl
  all_goals exact .refl

theorem moves_takeMotion (n : SlotNo) (m : Motion) (s : State) : Moves staged s (takeMotion n m s) := by
  unfold takeMotion
  split
  next st entry =>
    split
    · exact (moves_takeMotion_entry entry (some m)).trans (moves_lineMotion n m _ _)
    · exact .refl
  next => exact .refl

/-! ### The rules of the requests -/

theorem moves_takeLineStart (s : State) : Moves staged s (takeLineStart s).2 := by
  unfold takeLineStart
  split
  · exact .refl
  next ready => exact moves_startLine ready

theorem moves_takeLineDrain (closeOption : Nat) (s : State) : Moves staged s (takeLineDrain closeOption s).2 := by
  unfold takeLineDrain
  split
  · exact .refl
  next running =>
    split
    · exact moves_enterDraining (not_not.mp running) (by simp)
    · exact moves_enterDraining (not_not.mp running) (by simp)
    · exact .refl

theorem moves_takeLineStop (s : State) : Moves staged s (takeLineStop s).2 := by
  unfold takeLineStop
  split
  next state => exact moves_enterStopping (.inl state)
  next state => exact moves_enterStopping (.inr (.inl state))
  next state => exact moves_enterStopping (.inr (.inr state))
  all_goals exact .refl

/-- The first condition of R180 asks for ESTOP released. -/
theorem released_of_clearRefusal {s : State} (clear : clearRefusal s = none) : s.estop = false := by
  by_contra asserted
  simp [clearRefusal, Bool.eq_true_of_not_eq_false asserted] at clear

theorem moves_clearFault {s : State} (released : s.estop = false) (faulted : s.line.state = .faulted) :
    Moves staged s (clearFault s) := .single (.line (.clear released faulted rfl rfl rfl rfl) rfl)

theorem moves_takeFaultClear (s : State) : Moves staged s (takeFaultClear s).2 := by
  unfold takeFaultClear
  split
  · exact .refl
  next faulted =>
    split
    · exact .refl
    next clear => exact moves_clearFault (released_of_clearRefusal clear) (not_not.mp faulted)

theorem moves_resetJob {s : State} (idle : s.line.state = .idle) (reports : s.link.reports = []) : Moves staged s (resetJob s) :=
  .single (.jobReset idle reports)

theorem moves_takeJobReset (s : State) : Moves staged s (takeJobReset s).2 := by
  unfold takeJobReset
  split
  · exact .refl
  next idle =>
    split
    · exact .refl
    next reports =>
      dsimp only
      exact moves_resetJob (not_not.mp idle) (not_not.mp reports)

theorem moves_setStopPoint (p : StopPoint) (s : State) : Moves staged s (setStopPoint p s) := by
  unfold setStopPoint
  refine ReflTransGen.trans ?_ (moves_removeCause (.inr rfl) _)
  exact moves_aside rfl

theorem moves_takeStopPointSet (target sequence : Nat) (s : State) : Moves staged s (takeStopPointSet target sequence s).2 := by
  unfold takeStopPointSet
  split
  · exact .refl
  · exact moves_setStopPoint _ s

theorem moves_takeProof (s : State) : Moves staged s (takeProof s).2 := by
  unfold takeProof
  split
  · exact .refl
  · exact moves_aside rfl

theorem moves_closeNow (withTray : Bool) (s : State) : Moves staged s (closeNow withTray s).2 := by
  unfold closeNow
  split
  · exact moves_builder rfl rfl
  · dsimp only
    split
    · exact moves_closeBoth .host s
    · exact moves_closeBundle .host s

theorem moves_takeBundleClose (trayOption : Nat) (s : State) : Moves staged s (takeBundleClose trayOption s).2 := by
  unfold takeBundleClose
  split
  · exact .refl
  · split
    · exact .refl
    · split
      · exact .refl
      · exact moves_closeNow _ s

theorem moves_takeLoad (records : List LoadRecord) (s : State) : Moves staged s (takeLoad records s).2 := by
  unfold takeLoad
  split
  · exact .refl
  next allowed => exact moves_work (.loaded records allowed)

theorem moves_takePurge (fromSequence : Nat) (s : State) : Moves staged s (takePurge fromSequence s).2 := by
  unfold takePurge
  split
  · exact .refl
  · exact (moves_work (.purged fromSequence)).trans (moves_freshFell _ _)

theorem moves_takeVersionSet (version : Nat) (inserts : List Nat) (weight lineCount : Nat) (s : State) :
    Moves staged s (takeVersionSet version inserts weight lineCount s).2 := by
  unfold takeVersionSet
  split
  · exact .refl
  · exact .refl
  · dsimp only
    split
    · exact .refl
    next unused =>
      split
      · exact .refl
      · exact moves_work (.defined _ _ (Nat.eq_zero_of_not_pos unused))

theorem moves_takeVersionClear (version : Nat) (s : State) : Moves staged s (takeVersionClear version s).2 := by
  unfold takeVersionClear
  split
  · exact .refl
  · split
    · exact .refl
    next unused => exact moves_work (.defined _ _ (Nat.eq_zero_of_not_pos unused))

/-- The setup of an accepted STATION_SET has a position of 0 to 63, unless it is that of a DRIVE (R2). -/
theorem setupOf_placed {slot role address position debounce faultLimit : Nat} {u : SlotSetup}
    (h : setupOf slot role address position debounce faultLimit = .ok u) :
    (u.position = none ↔ u.role = .drive) ∧ ∀ p, u.position = some p → p ≤ 63 := by
  unfold setupOf at h
  split at h
  · cases h
  · cases h
  next n r _ _ =>
    split at h
    · cases h
    · split at h
      · cases h
      next placed =>
        split at h
        · cases h
        · split at h
          · cases h
          · cases h
            by_cases drive : r = .drive
            · simp [drive]
            · simp only [drive, ne_eq, not_false_eq_true, true_and, not_lt] at placed
              simp [drive, placed]

theorem moves_configureSlot {u : SlotSetup} {s : State} (free : configurable s = true) (allowed : setupRefusal s u = none)
    (placed : u.position = none ↔ u.role = .drive) (bounded : ∀ p, u.position = some p → p ≤ 63) :
    Moves staged s (configureSlot u s) := by
  have configured : Moves staged s (putCause (.station u.slot) u.role.feeding (configure u.slot (some u.station) s)) :=
    .single (.station (.configured free allowed placed bounded))
  have printer (t : State) (h : Moves staged s t) :
      Moves staged s (if u.role = .printer then { t with track := { t.track with printJobs := 0 } } else t) := by
    split
    · exact h.trans (moves_work (.jobs 0 (.inl (Nat.zero_le _))))
    · exact h
  unfold configureSlot
  dsimp only
  split
  · exact (printer _ configured).trans (moves_resetStep _)
  · exact printer _ configured

theorem moves_takeStationSet (slot role address position debounce faultLimit : Nat) (s : State) :
    Moves staged s (takeStationSet slot role address position debounce faultLimit s).2 := by
  unfold takeStationSet
  split
  · exact .refl
  next free =>
    split
    · exact .refl
    next setup =>
      obtain ⟨placed, bounded⟩ := setupOf_placed setup
      split
      · exact .refl
      next allowed => exact moves_configureSlot (Bool.eq_true_of_not_eq_false free) allowed placed bounded

theorem moves_clearSlot {n : SlotNo} {s : State} (free : configurable s = true) : Moves staged s (clearSlot n s) := by
  have cleared : Moves staged s (removeCause (.station n) (configure n none s)) := .single (.station (.cleared n free))
  unfold clearSlot
  dsimp only
  split
  · exact cleared.trans (moves_resetStep _)
  · exact cleared

theorem moves_takeStationClear (slot : Nat) (s : State) : Moves staged s (takeStationClear slot s).2 := by
  unfold takeStationClear
  split
  · exact .refl
  next free =>
    split
    · exact .refl
    · split
      · exact .refl
      · dsimp only
        split
        · exact moves_clearSlot (Bool.eq_true_of_not_eq_false free)
        · exact .refl

theorem moves_takeStationRestore (slot : Nat) (s : State) : Moves staged s (takeStationRestore slot s).2 := by
  unfold takeStationRestore
  split
  · exact .refl
  · split
    · exact moves_updateStation (f := Station.restored) (fun _ => rfl) (fun _ => rfl) s
    · exact .refl

theorem moves_paramEffect (k : Param) (v : Nat) (s : State) : Moves staged s (paramEffect k v s) := by
  unfold paramEffect
  split
  · exact moves_stepData rfl
  · split
    · exact moves_stepAutoExit s
    · exact .refl
  · exact moves_changePhase _ _ s
  · exact .refl

theorem moves_takeParamSet (number value : Nat) (s : State) : Moves staged s (takeParamSet number value s).2 := by
  unfold takeParamSet
  split
  · exact .refl
  next k _ =>
    split
    · exact .refl
    · split
      · exact .refl
      · split
        · exact .refl
        · refine ReflTransGen.trans ?_ (moves_paramEffect k value _)
          exact moves_aside rfl

theorem moves_takeCounterSet (counter event qualifier window threshold action start : Nat) (s : State) :
    Moves staged s (takeCounterSet counter event qualifier window threshold action start s).2 := by
  unfold takeCounterSet
  split
  · exact .refl
  · split
    · exact .refl
    · exact .single (.counters (.releasedHold _ _ rfl))

theorem moves_takeCounterClear (counter : Nat) (s : State) : Moves staged s (takeCounterClear counter s).2 := by
  unfold takeCounterClear
  split
  · exact .refl
  · dsimp only
    split
    · exact .refl
    · exact .single (.counters (.releasedHold _ _ rfl))

/-! ### The station bus (1.5) -/

theorem moves_noAnswer (f : BusFrame) (s : State) : Moves staged s (noAnswer f s) := by
  unfold noAnswer
  split
  · refine ReflTransGen.trans ?_ (moves_updateStation (fun st => (notAnswered_fixed st).1) (fun st => (notAnswered_fixed st).2) _)
    exact moves_aside rfl
  · exact moves_aside rfl

theorem sameLayout_takeMotion (n : SlotNo) (m : Motion) (s : State) : SameLayout s (takeMotion n m s) := by
  have line (changed : Bool) (u : State) : (lineMotion n m changed u).stations = u.stations := by
    unfold lineMotion
    repeat' split
    all_goals simp [changeLine]
  unfold takeMotion
  split
  next st entry =>
    split
    · exact sameLayout_putStation (new := { st with motion := some m }) entry rfl rfl (line _ _)
    · exact sameLayout_of_stations rfl
  next => exact sameLayout_of_stations rfl

theorem sameLayout_takeRoleCode (n : SlotNo) (code : Option Byte) (s : State) : SameLayout s (takeRoleCode n code s) := by
  unfold takeRoleCode
  split
  next b => exact sameLayout_updateStation (f := Station.identified b) (fun _ => rfl) (fun _ => rfl) s
  next => exact sameLayout_of_stations rfl

theorem moves_takeRoleCode (n : SlotNo) (code : Option Byte) (s : State) : Moves staged s (takeRoleCode n code s) := by
  unfold takeRoleCode
  split
  next b => exact moves_updateStation (f := Station.identified b) (fun _ => rfl) (fun _ => rfl) s
  next => exact .refl

/-- A good answer brings only results that the role of its station reports (R16). -/
theorem reports_of_decodeAnswer {f : BusFrame} {role : Role} {answer : List BusChar} {a : StationAnswer} {tag : Tag}
    {o : StationOutcome} (good : decodeAnswer f role answer = some a) (result : a.result = some (tag, o)) :
    role.reports o = true := by
  unfold decodeAnswer at good
  dsimp only at good
  split at good
  next address kind status rest _ =>
    split at good
    · unfold answerBody at good
      obtain ⟨v, -, body⟩ := Option.bind_eq_some_iff.mp good
      split at body
      · cases body
        cases result
      · cases body
        cases result
      · obtain ⟨r, read, rfl⟩ := Option.map_eq_some_iff.mp body
        obtain rfl : r = some (tag, o) := result
        unfold resultOf at read
        split at read
        · cases read
        · split at read
          · split at read
            next reports =>
              cases read
              exact reports
            next => cases read
          · cases read
        · cases read
      · cases body
    · cases good
  next => cases good

/-- An answer is handed to its owners by moves, then its result to the track (R21). -/
theorem handAnswer_acts {n : SlotNo} {kind : FrameKind} {a : StationAnswer} {s : State}
    (told : ∀ st tag o, stationAt s n = some st → a.result = some (tag, o) → st.role.reports o = true) :
    Acts s (handAnswer n kind a s) := by
  have first : Moves False s (takeRoleCode n a.roleCode (takeMotion n a.motion (updateStation n (Station.answered kind a.status) s))) :=
    ((moves_updateStation (f := Station.answered kind a.status) (fun _ => rfl) (fun _ => rfl) s).trans
      (moves_takeMotion _ _ _)).trans (moves_takeRoleCode _ _ _)
  have layout : SameLayout s (takeRoleCode n a.roleCode (takeMotion n a.motion (updateStation n (Station.answered kind a.status) s))) :=
    ((sameLayout_updateStation (f := Station.answered kind a.status) (fun _ => rfl) (fun _ => rfl) s).trans
      (sameLayout_takeMotion _ _ _)).trans (sameLayout_takeRoleCode _ _ _)
  refine (ReflTransGen.single (.moves first)).trans ?_
  unfold handAnswer takeAnswerResult
  split
  next tag o result =>
    refine .single (.result n tag o fun st entry => ?_)
    obtain ⟨old, stood, role⟩ := layout.role entry
    exact role ▸ told old tag o stood result
  next => exact .refl

theorem takeAnswer_acts (answer : List BusChar) (f : BusFrame) (s : State) :
    Acts s (takeAnswer answer f s) := by
  have freed : Act s (freeBus s) := .moves (moves_aside rfl)
  unfold takeAnswer
  split
  · exact .single freed
  next n _ =>
    split
    next a good =>
      refine (ReflTransGen.single freed).trans (handAnswer_acts fun st tag o entry result => ?_)
      obtain ⟨st', entry', read⟩ := Option.bind_eq_some_iff.mp good
      obtain rfl : st = st' := Option.some.inj (entry.symm.trans entry')
      exact reports_of_decodeAnswer read result
    next => exact .single (.moves (moves_noAnswer f s))

/-! ### What moves leave of the host link and of the queue of commands -/

theorem clearStep_eq (s : State) :
    clearStep s = { s with
      step := StepMonitor.cleared (stepStateAtReset s)
      link := { s.link with notices := (clearStep s).link.notices } } := by
  unfold clearStep
  dsimp only
  split <;> rfl

theorem clearPhase_eq (s : State) :
    clearPhase s = { s with
      phase := PhaseMonitor.cleared (phaseStateAtStart s.params.chainLength)
      link := { s.link with notices := (clearPhase s).link.notices } } := by
  unfold clearPhase
  dsimp only
  split <;> rfl

theorem resetFeed_eq (s : State) :
    resetFeed s = { s with
      line := { s.line with feed := jobFeed s }
      link := { s.link with notices := (resetFeed s).link.notices } } := by
  unfold resetFeed
  split
  next same => rw [same]
  next => rfl

/-- A job reset clears its blocks, sets the two monitors and the suppression set, and tells it (R181). -/
theorem resetJob_eq (s : State) :
    resetJob s = { clearBlocks s with
      step := StepMonitor.cleared (stepStateAtReset (clearBlocks s))
      phase := PhaseMonitor.cleared (phaseStateAtStart s.params.chainLength)
      line := { (clearBlocks s).line with feed := (resetJob s).line.feed }
      link := { s.link with notices := (resetJob s).link.notices } } := by
  unfold resetJob
  rw [resetFeed_eq, clearPhase_eq, clearStep_eq]
  rfl

/-- From s to t the entries and replies of the host link stay, and the queue of commands. -/
def QueuesStay (s t : State) : Prop :=
  t.link.rx = s.link.rx ∧ t.link.overflow = s.link.overflow ∧ t.link.replies = s.link.replies ∧ t.pending = s.pending

theorem dropReport_eq (rest : List Report) (s : State) :
    dropReport rest s = { s with
      line := { s.line with feed := (dropReport rest s).line.feed }
      link := { s.link with reports := rest, notices := (dropReport rest s).link.notices }
      moment := (dropReport rest s).moment } := by
  unfold dropReport
  dsimp only
  split
  · rw [announces_removeCause .backlog (newMoment _)]
    rfl
  · rfl

theorem Move.queuesStay {s t : State} (h : Move staged s t) : QueuesStay s t := by
  have of_eq {u : State} (link : u.link.rx = s.link.rx ∧ u.link.overflow = s.link.overflow ∧ u.link.replies = s.link.replies)
      (pending : u.pending = s.pending) : QueuesStay s u := ⟨link.1, link.2.1, link.2.2, pending⟩
  cases h with
  | aside h => exact of_eq (by rw [h]; exact ⟨rfl, rfl, rfl⟩) (by rw [h])
  | reportSent r rest => exact of_eq (by rw [dropReport_eq]; exact ⟨rfl, rfl, rfl⟩) (by rw [dropReport_eq])
  | cause c present => exact of_eq (by simp) (by simp)
  | line h => exact of_eq ⟨rfl, rfl, rfl⟩ rfl
  | fault k => exact of_eq (by simp) (by simp)
  | estop => exact of_eq (by simp) (by simp)
  | estopReleased => exact of_eq ⟨rfl, rfl, rfl⟩ rfl
  | station h => exact of_eq (by rw [h.restations]; exact ⟨rfl, rfl, rfl⟩) (by rw [h.restations])
  | step h => exact of_eq (by rw [h.foot]; exact ⟨rfl, rfl, rfl⟩) (by rw [h.foot])
  | phase h => exact of_eq (by rw [h.foot]; exact ⟨rfl, rfl, rfl⟩) (by rw [h.foot])
  | counters h => exact of_eq (by rw [h.tallies]; exact ⟨rfl, rfl, rfl⟩) (by rw [h.tallies])
  | work h => exact of_eq (by rw [h.works]; exact ⟨rfl, rfl, rfl⟩) (by rw [h.works])
  | jobReset => exact of_eq (by rw [resetJob_eq]; exact ⟨rfl, rfl, rfl⟩) (by rw [resetJob_eq]; rfl)

theorem Moves.queuesStay {s t : State} (h : Moves staged s t) : QueuesStay s t := by
  induction h with
  | refl => exact ⟨rfl, rfl, rfl, rfl⟩
  | tail _ m ih =>
    obtain ⟨rx, overflow, replies, pending⟩ := ih
    obtain ⟨rx', overflow', replies', pending'⟩ := m.queuesStay
    exact ⟨rx'.trans rx, overflow'.trans overflow, replies'.trans replies, pending'.trans pending⟩

/-! ### The host link (Chapter 12) -/

theorem acts_moves {s t : State} (h : Moves False s t) : Acts s t := .single (.moves h)

theorem act_queueReply (r : Reply) {s : State} (room : s.link.replies.length < 2) : Act s (queueReply r s) := by
  refine .queues (fun bounds => ?_) rfl
  obtain ⟨rx, overflow, -⟩ := bounds
  exact ⟨rx, overflow, by simpa [queueReply] using room⟩

theorem act_dropHead (s : State) : Act s (dropHead s) := by
  refine .queues (fun bounds => ?_) rfl
  obtain ⟨rx, overflow, replies⟩ := bounds
  exact ⟨by simp only [dropHead, List.length_tail]; omega, overflow, replies⟩

/-- A request that is served is taken, its rule applied and its reply queued (R194). -/
theorem serve_acts {kind : Request → Option Taking} (rule : ∀ r take, kind r = some take → ∀ u, Moves False u (take u).2)
    {s t : State} (h : serve kind s = .next t) : Acts s t := by
  unfold serve at h
  split at h
  next number r rest entry =>
    split at h
    next take known =>
      split at h
      next room =>
        cases h
        have applied := rule r take known (newMoment (dropHead s))
        have begun : Moves False (dropHead s) (take (newMoment (dropHead s))).2 := (moves_newMoment _).trans applied
        refine ((ReflTransGen.single (act_dropHead s)).tail (.moves begun)).tail (act_queueReply _ ?_)
        rw [begun.queuesStay.2.2.1]
        exact of_decide_eq_true room
      next => cases h; exact .refl
    next => cases h; exact .refl
  next => cases h; exact .refl

theorem serveRead_acts {kind : Request → Option (State → Answer)} {s t : State} (h : serveRead kind s = .next t) :
    Acts s t := by
  unfold serveRead at h
  split at h
  · split at h
    · split at h
      next room =>
        cases h
        exact (ReflTransGen.single (act_dropHead s)).tail (act_queueReply _ (of_decide_eq_true room))
      next => cases h; exact .refl
    · cases h; exact .refl
  · cases h; exact .refl

/-- An offered entry joins a queue that has room, or is counted (R194). -/
theorem offered_acts (e : RxEntry) (s : State) : Acts s (offered e s) := by
  have hunting : Act s { s with link := { s.link with receiver := .hunting, discarded := (offered e s).link.discarded } } := by
    refine .moves (moves_aside ?_)
    rfl
  refine (ReflTransGen.single hunting).tail (.queues (fun bounds => ?_) rfl)
  obtain ⟨rx, overflow, replies⟩ := bounds
  unfold LinkBounds offered
  dsimp only at rx overflow replies ⊢
  refine ⟨?_, ?_, replies⟩
  · split
    next joins =>
      simp only [Bool.and_eq_true, decide_eq_true_eq] at joins
      simp only [List.length_append, List.length_singleton]
      omega
    next => exact rx
  · split
    next drops =>
      simp only [Bool.and_eq_true, decide_eq_true_eq] at drops
      simp only [List.length_append, List.length_singleton]
      omega
    next => exact overflow

theorem whileInFrame_acts {due : Bool} {e : RxEntry} {s t : State} (h : whileInFrame due (endFrame e) s = .next t) :
    Acts s t := by
  unfold whileInFrame at h
  split at h
  · cases h
    rw [endFrame_eq]
    exact offered_acts e s
  · cases h
    exact .refl

theorem endBusFrame_acts {f : BusFrame → State → State} (rule : ∀ frame u, Acts u (f frame u)) {s t : State}
    (h : endBusFrame f s = .next t) : Acts s t := by
  unfold endBusFrame at h
  split at h
  · cases h
    exact (acts_moves (moves_newMoment s)).trans (rule _ _)
  · cases h
    exact .refl

theorem transmitNotice_acts {s t : State} (h : execTransmitNotice s = .next t) : Acts s t := by
  unfold execTransmitNotice at h
  split at h
  · cases h
    exact acts_moves (moves_aside rfl)
  · cases h
    exact .refl

theorem transmitReport_acts {s t : State} (h : execTransmitReport s = .next t) : Acts s t := by
  unfold execTransmitReport at h
  split at h
  next r rest _ _ _ reports =>
    cases h
    exact acts_moves ((ReflTransGen.single (.reportSent r rest reports)).trans (moves_aside rfl))
  next =>
    cases h
    exact .refl

theorem transmitReply_acts {s t : State} (h : execTransmitReply s = .next t) : Acts s t := by
  unfold execTransmitReply at h
  split at h
  next r rest _ replies =>
    cases h
    have left : Act s { s with link := { s.link with replies := rest } } := by
      refine .queues (fun bounds => ?_) rfl
      obtain ⟨rx, overflow, few⟩ := bounds
      rw [replies] at few
      exact ⟨rx, overflow, Nat.le_of_succ_le few⟩
    exact (ReflTransGen.single left).tail (.moves (moves_aside rfl))
  next =>
    cases h
    exact .refl

theorem reject_acts {s t : State} (h : execReject s = .next t) : Acts s t := by
  unfold execReject at h
  split at h
  · split at h
    next room =>
      cases h
      exact (ReflTransGen.single (act_dropHead s)).tail (act_queueReply _ (of_decide_eq_true room))
    next =>
      cases h
      exact .refl
  · cases h
    exact .refl

theorem overflow_acts {s t : State} (h : execOverflow s = .next t) : Acts s t := by
  unfold execOverflow at h
  split at h
  next number rest _ list =>
    split at h
    next room =>
      cases h
      have left : Act s { s with link := { s.link with overflow := rest } } := by
        refine .queues (fun bounds => ?_) rfl
        obtain ⟨rx, few, replies⟩ := bounds
        rw [list] at few
        exact ⟨rx, Nat.le_of_succ_le few, replies⟩
      exact (ReflTransGen.single left).tail (act_queueReply _ (of_decide_eq_true room))
    next =>
      cases h
      exact .refl
  next =>
    cases h
    exact .refl

theorem nextFree_cases {o : Next} {t : State} (h : nextFree o = .next t) :
    ∃ u, o = .next u ∧ t = { u with freeIndex := u.freeIndex + 1 } := by
  cases o with
  | next u =>
    cases h
    exact ⟨u, rfl, rfl⟩
  | fault f => cases h
  | refused r => cases h

/-- STATUS_READ is a read that takes the next free value. -/
theorem statusRead_acts {s t : State} (h : execStatusRead s = .next t) : Acts s t := by
  obtain ⟨u, read, rfl⟩ := nextFree_cases h
  exact (serveRead_acts read).tail (.moves (moves_aside rfl))

/-! ### The sends (R16 to R18) -/

/-- A send of the bus, due or not, changes no field that an invariant reads. -/
theorem sends_aside {c : Instr} (send : c = .sendCommand ∨ c = .sendIdentityRequest ∨ c = .sendPoll) {s t : State}
    (h : exec c s = .next t) : Moves False s t := by
  rcases send with rfl | rfl | rfl
  · change execSendCommand s = .next t at h
    unfold execSendCommand at h
    split at h
    · split at h
      · cases h
        exact moves_aside rfl
      · cases h
        exact .refl
    · cases h
      exact .refl
  · change execSendIdentityRequest s = .next t at h
    unfold execSendIdentityRequest at h
    split at h
    · split at h
      · cases h
        exact moves_aside rfl
      · cases h
        exact .refl
    · cases h
      exact .refl
  · change execSendPoll s = .next t at h
    unfold execSendPoll at h
    split at h
    · split at h
      · cases h
        exact moves_aside rfl
      · cases h
        exact .refl
    · cases h
      exact .refl

/-! ### The inputs, the timers and the counters' windows -/

theorem fault_acts {k : FaultCause} {due : Prop} [Decidable due] {s t : State}
    (h : (if due then (.next s : Next) else .next (handFault k (newMoment s))) = .next t) : Acts s t := by
  split at h
  · cases h
    exact .refl
  · cases h
    exact acts_moves ((moves_newMoment s).trans (moves_handFault k _))

theorem estop_acts {s t : State} (h : execEstop s = .next t) : Acts s t := by
  unfold execEstop at h
  split at h
  · cases h
    exact .refl
  · cases h
    exact acts_moves ((moves_newMoment s).tail .estop)

theorem homeMark_acts {s t : State} (h : execHomeMark s = .next t) : Acts s t := by
  unfold execHomeMark at h
  split at h
  · cases h
    exact .refl
  · cases h
    refine acts_moves (ReflTransGen.trans ?_ ((moves_takeMark _).trans (moves_handPhaseFault _ _)))
    exact moves_aside rfl

theorem chainWrap_acts {s t : State} (h : execChainWrap s = .next t) : Acts s t := by
  unfold execChainWrap at h
  split at h
  · cases h
    exact acts_moves (moves_phaseData rfl)
  · cases h
    exact .refl

theorem windowEnd_acts {i : Fin 8} {s t : State} (h : execWindowEnd i s = .next t) : Acts s t := by
  unfold execWindowEnd at h
  split at h
  · cases h
    refine acts_moves (.single (.counters (.data _ fun j => ?_)))
    by_cases same : i = j
    · subst same
      simp [Counter.windowEnded]
    · have other : i.val ≠ j.val := fun e => same (Fin.ext e)
      simp [Vector.getElem_set_ne _ _ other]
  · cases h
    exact .refl

/-! ### Every command -/

/-- The meaning of every command is made of acts. -/
theorem exec_acts {c : Instr} {s t : State} (h : exec c s = .next t) : Acts s t := by
  cases c with
  | partReset => exact .single (.partReset h)
  | frameComplete bytes => exact whileInFrame_acts h
  | frameTruncated received => exact whileInFrame_acts h
  | frameCheckError => exact whileInFrame_acts h
  | frameLengthError bodyLength kind number => exact whileInFrame_acts h
  | reject => exact reject_acts h
  | overflow => exact overflow_acts h
  | load => exact serve_acts (fun r take known u => by split at known <;> cases known; exact moves_takeLoad _ u) h
  | purge => exact serve_acts (fun r take known u => by split at known <;> cases known; exact moves_takePurge _ u) h
  | versionSet =>
    exact serve_acts (fun r take known u => by split at known <;> cases known; exact moves_takeVersionSet _ _ _ _ u) h
  | versionClear =>
    exact serve_acts (fun r take known u => by split at known <;> cases known; exact moves_takeVersionClear _ u) h
  | stationSet =>
    exact serve_acts (fun r take known u => by split at known <;> cases known; exact moves_takeStationSet _ _ _ _ _ _ u) h
  | stationClear =>
    exact serve_acts (fun r take known u => by split at known <;> cases known; exact moves_takeStationClear _ u) h
  | stationRestore =>
    exact serve_acts (fun r take known u => by split at known <;> cases known; exact moves_takeStationRestore _ u) h
  | paramSet => exact serve_acts (fun r take known u => by split at known <;> cases known; exact moves_takeParamSet _ _ u) h
  | lineStart => exact serve_acts (fun r take known u => by split at known <;> cases known; exact moves_takeLineStart u) h
  | lineDrain => exact serve_acts (fun r take known u => by split at known <;> cases known; exact moves_takeLineDrain _ u) h
  | lineStop => exact serve_acts (fun r take known u => by split at known <;> cases known; exact moves_takeLineStop u) h
  | lineHold =>
    exact serve_acts (fun r take known u => by split at known <;> cases known; exact moves_addCause (.inl rfl) u) h
  | lineResume =>
    exact serve_acts (fun r take known u => by split at known <;> cases known; exact moves_removeCause (.inl rfl) u) h
  | faultClear => exact serve_acts (fun r take known u => by split at known <;> cases known; exact moves_takeFaultClear u) h
  | jobReset => exact serve_acts (fun r take known u => by split at known <;> cases known; exact moves_takeJobReset u) h
  | stopPointSet =>
    exact serve_acts (fun r take known u => by split at known <;> cases known; exact moves_takeStopPointSet _ _ u) h
  | stopPointClear =>
    exact serve_acts (fun r take known u => by split at known <;> cases known; exact moves_setStopPoint .none u) h
  | proof => exact serve_acts (fun r take known u => by split at known <;> cases known; exact moves_takeProof u) h
  | restep => exact serve_acts (fun r take known u => by split at known <;> cases known; exact moves_takeRestep u) h
  | bundleClose =>
    exact serve_acts (fun r take known u => by split at known <;> cases known; exact moves_takeBundleClose _ u) h
  | counterSet =>
    exact serve_acts (fun r take known u => by split at known <;> cases known; exact moves_takeCounterSet _ _ _ _ _ _ _ u) h
  | counterClear =>
    exact serve_acts (fun r take known u => by split at known <;> cases known; exact moves_takeCounterClear _ u) h
  | counterUnfreeze =>
    refine serve_acts (fun r take known u => ?_) h
    split at known <;> cases known
    exact .single (.counters (.data _ fun _ => rfl))
  | statusRead => exact statusRead_acts h
  | cellRead | queueRead | stationRead | bundleRead | counterRead => exact serveRead_acts h
  | transmitReply => exact transmitReply_acts h
  | transmitNotice => exact transmitNotice_acts h
  | transmitReport => exact transmitReport_acts h
  | sendCommand => exact acts_moves (sends_aside (.inl rfl) h)
  | sendIdentityRequest => exact acts_moves (sends_aside (.inr (.inl rfl)) h)
  | sendPoll => exact acts_moves (sends_aside (.inr (.inr rfl)) h)
  | goodAnswer answer => exact endBusFrame_acts (takeAnswer_acts answer) h
  | answerTimeout | answerCheckFail => exact endBusFrame_acts (fun f u => acts_moves (moves_noAnswer f u)) h
  | pitchAdvance order =>
    cases h
    exact (acts_moves (moves_newMoment s)).tail (.advance order)
  | chainWrap => exact chainWrap_acts h
  | windowEnd counter => exact windowEnd_acts h
  | homeMark => exact homeMark_acts h
  | estop => exact estop_acts h
  | driveStart | driveStop => exact fault_acts h
  | estopRelease =>
    cases h
    exact acts_moves (.single .estopReleased)
  | homeRelease | frameStart | frameSent =>
    cases h
    exact acts_moves (moves_aside rfl)

/-- A property that does not read the queue of commands, and that every act keeps, is kept by every step. -/
theorem kept_of_acts {inv : State → Prop} (queue : ∀ s rest, inv s → inv { s with pending := rest })
    (act : ∀ s t, Act s t → inv s → inv t) : Kept inv := by
  intro s t hs h
  unfold step at h
  split at h
  · cases h
    exact hs
  next c rest _ =>
    have acts := exec_acts h
    refine ReflTransGen.head_induction_on (motive := fun u _ => inv u → inv t) acts id ?_ (queue s rest hs)
    exact fun first _ ih hu => ih (act _ _ first hu)

/-- What is no stage of a larger change is a move among all moves. -/
theorem WorkMove.all {s t : State} (h : WorkMove False s t) : WorkMove True s t := by
  cases h with
  | cells cs kept => exact .cells cs kept
  | exchangeOpened p e => exact .exchangeOpened p e
  | jobs j few => exact .jobs j few
  | loaded records allowed => exact .loaded records allowed
  | purged fromSequence => exact .purged fromSequence
  | defined v d unused => exact .defined v d unused
  | fed p n double demands c cell content => exact .fed p n double demands c cell content
  | withdrawn p c v cell content ends => exact .withdrawn p c v cell content ends
  | gatePassed p c cell content => exact .gatePassed p c cell content
  | itemDiverted p c cell content => exact .itemDiverted p c cell content
  | recordless p c cell content empty => exact .recordless p c cell content empty
  | remade p c r cause cell content record => exact .remade p c r cause cell content record
  | attemptsOver p c r cause cell content record => exact .attemptsOver p c r cause cell content record
  | itemEscaped p c cell content => exact .itemEscaped p c cell content
  | recordEscaped p c r cause cell content record => exact .recordEscaped p c r cause cell content record
  | finished p c r report cell content record => exact .finished p c r report cell content record
  | counted r unconfirmed => exact .counted r unconfirmed
  | bundleEnd reason b bundle => exact .bundleEnd reason b bundle
  | trayEnd reason t tray bundle => exact .trayEnd reason t tray bundle
  | builder b bundle tray => exact .builder b bundle tray
  | exchangeEnded _ _ stage | shifted stage | stranded _ _ _ _ stage | offered _ _ _ _ stage | proofOffered _ stage
  | trayBegin _ _ stage | bundleBegin _ _ _ stage => exact stage.elim


theorem Move.all {s t : State} (h : Move False s t) : Move True s t := by
  cases h with
  | aside h => exact .aside h
  | reportSent r rest reports => exact .reportSent r rest reports
  | cause c present owner => exact .cause c present owner
  | line h feed => exact .line h feed
  | fault k => exact .fault k
  | estop => exact .estop
  | estopReleased => exact .estopReleased
  | station h => exact .station h
  | step h => exact .step h
  | phase h => exact .phase h
  | counters h => exact .counters h
  | work h => exact .work h.all
  | jobReset idle reports => exact .jobReset idle reports

theorem Act.turn {s t : State} (h : Act s t) : Turn s t := by
  cases h with
  | moves h => exact .moves (h.lift id fun _ _ => Move.all)
  | advance order => exact .moves (moves_takePitch trivial order s)
  | result n tag o => exact .moves (moves_takeResult trivial n tag o s)
  | queues bounds h => exact .queues bounds h
  | partReset h => exact .partReset h

/-- A property that does not read the queue of commands, and that every turn keeps, is kept by every step. -/
theorem kept_of_turns {inv : State → Prop} (queue : ∀ s rest, inv s → inv { s with pending := rest })
    (turn : ∀ s t, Turn s t → inv s → inv t) : Kept inv := kept_of_acts queue fun s t h => turn s t h.turn

end Sys2Proof.Machine
end

section
/-! The line stays consistent (O55): a fault ends in FAULTED with both timers stopped, every other change of the line
state sets or ends the timer and the drain option that belong to it, and no other move reads or sets them. -/

namespace Sys2Proof.Machine

variable {staged : Prop}

/-- The invariant of O55. -/
def LineConsistent (s : State) : Prop := EstopHalts s ∧ TimersFollow s

/-- From s to t the line's state, timers and drain option stay, and the level of ESTOP. -/
def LineStays (s t : State) : Prop :=
  t.estop = s.estop ∧ t.line.state = s.line.state ∧ t.line.startTimer = s.line.startTimer
    ∧ t.line.stopTimer = s.line.stopTimer ∧ t.line.drain = s.line.drain

theorem LineStays.trans {s t u : State} (h : LineStays s t) (k : LineStays t u) : LineStays s u := by
  obtain ⟨a, b, c, d, e⟩ := h
  obtain ⟨a', b', c', d', e'⟩ := k
  exact ⟨a'.trans a, b'.trans b, c'.trans c, d'.trans d, e'.trans e⟩

theorem LineConsistent.of_stays {s t : State} (h : LineConsistent s) (stays : LineStays s t) : LineConsistent t := by
  obtain ⟨estop, state, start, stop, drain⟩ := stays
  unfold LineConsistent EstopHalts TimersFollow at *
  rw [estop, state, start, stop, drain]
  exact h

theorem Announces.lineStays {s t : State} (h : Announces s t) : LineStays s t := by
  unfold Announces at h
  refine ⟨?_, ?_, ?_, ?_, ?_⟩ <;> rw [h]

/-- A fault leaves the line consistent whatever the level of ESTOP: it is FAULTED, without timer and drain. -/
theorem lineConsistent_handFault (k : FaultCause) {s : State} (timers : TimersFollow s) :
    LineConsistent (handFault k s) := by
  have state : (handFault k s).line.state = .faulted := (faultTaken_handFault k s).1
  refine ⟨fun _ => state, ?_⟩
  by_cases faulted : s.line.state = .faulted
  · rw [handFault_faulted faulted]
    exact timers
  · unfold handFault enterFaulted TimersFollow
    rw [if_neg faulted]
    simp [changeLine]

theorem lineConsistent_changeLine {s : State} {l : Line} (h : LineMove s l) (hs : LineConsistent s) :
    LineConsistent (changeLine l s) := by
  obtain ⟨halts, timers⟩ := hs
  unfold EstopHalts TimersFollow at *
  cases h with
  | start _ _ before after runs other drain =>
    simp_all [LineConsistent, EstopHalts, TimersFollow, changeLine]
  | run before after ends other drain => simp_all [LineConsistent, EstopHalts, TimersFollow, changeLine]
  | drain before after start stop option => simp_all [LineConsistent, EstopHalts, TimersFollow, changeLine]
  | stop before after ends runs drain =>
    rcases before with before | before | before <;>
      simp_all [LineConsistent, EstopHalts, TimersFollow, changeLine]
  | halt before after other ends drain => simp_all [LineConsistent, EstopHalts, TimersFollow, changeLine]
  | clear released before after start stop drain => simp_all [LineConsistent, EstopHalts, TimersFollow, changeLine]

theorem lineConsistent_station {s t : State} (h : StationMove s t) (hs : LineConsistent s) : LineConsistent t := by
  cases h with
  | @changed n old new =>
    have told : LineConsistent (announceStation n new s) :=
      hs.of_stays (LineStays.trans (t := putStation n (some new) s) ⟨rfl, rfl, rfl, rfl, rfl⟩
        (announces_announceStation n new s).lineStays)
    rcases stationChanged_cases n old new s with ⟨e, -⟩ | e | e
    · exact e ▸ hs.of_stays ⟨rfl, rfl, rfl, rfl, rfl⟩
    · exact e ▸ told
    · exact e ▸ lineConsistent_handFault _ told.2
  | motion => exact hs.of_stays ⟨rfl, rfl, rfl, rfl, rfl⟩
  | configured => exact hs.of_stays (by simp [LineStays, configure, dropAboveS, dropFrames])
  | cleared => exact hs.of_stays (by simp [LineStays, configure, dropAboveS, dropFrames])

theorem Move.lineConsistent {s t : State} (h : Move staged s t) (hs : LineConsistent s) : LineConsistent t := by
  cases h with
  | aside h => exact hs.of_stays (by unfold Aside at h; refine ⟨?_, ?_, ?_, ?_, ?_⟩ <;> rw [h])
  | reportSent => exact hs.of_stays (by refine ⟨?_, ?_, ?_, ?_, ?_⟩ <;> rw [dropReport_eq])
  | cause c present => exact hs.of_stays (announces_putCause c present s).lineStays
  | line h => exact lineConsistent_changeLine h hs
  | fault k => exact lineConsistent_handFault k hs.2
  | estop => exact lineConsistent_handFault .estop (s := { s with estop := true }) hs.2
  | estopReleased => exact ⟨fun asserted => absurd asserted Bool.false_ne_true, hs.2⟩
  | station h => exact lineConsistent_station h hs
  | step h => exact hs.of_stays (by refine ⟨?_, ?_, ?_, ?_, ?_⟩ <;> rw [h.foot])
  | phase h => exact hs.of_stays (by refine ⟨?_, ?_, ?_, ?_, ?_⟩ <;> rw [h.foot])
  | counters h => exact hs.of_stays (by refine ⟨?_, ?_, ?_, ?_, ?_⟩ <;> rw [h.tallies])
  | work h => exact hs.of_stays (by refine ⟨?_, ?_, ?_, ?_, ?_⟩ <;> rw [h.works])
  | jobReset => exact hs.of_stays (by refine ⟨?_, ?_, ?_, ?_, ?_⟩ <;> rw [resetJob_eq] <;> rfl)

/-- What a part reset leaves: the reset state, and with ESTOP asserted the fault ESTOP on it (R168, R178). -/
theorem partReset_cases {s t : State} (h : execPartReset s = .next t) :
    ∃ fresh : State, fresh = { State.reset with estop := s.estop, home := s.home, freeIndex := s.freeIndex, pending := s.pending }
      ∧ ((s.estop = false ∧ t = fresh) ∨ (s.estop = true ∧ t = handFault .estop fresh)) := by
  refine ⟨_, rfl, ?_⟩
  unfold execPartReset at h
  cases asserted : s.estop <;> simp only [asserted, Bool.false_eq_true, if_false, if_true] at h <;> cases h
  · exact .inl ⟨rfl, rfl⟩
  · exact .inr ⟨rfl, rfl⟩

/-- A property that the reset state has, that a fault keeps, and that reads neither the inputs nor the model's own
fields, is left by a part reset. -/
theorem partReset_of_reset {inv : State → Prop} {s t : State} (h : execPartReset s = .next t)
    (reset : ∀ estop home freeIndex pending, inv { State.reset with estop := estop, home := home, freeIndex := freeIndex, pending := pending })
    (fault : ∀ u, inv u → inv (handFault .estop u)) : inv t := by
  obtain ⟨fresh, rfl, ⟨-, rfl⟩ | ⟨-, rfl⟩⟩ := partReset_cases h
  · exact reset _ _ _ _
  · exact fault _ (reset _ _ _ _)

theorem timersFollow_reset (estop home : Bool) (freeIndex : Nat) (pending : List Instr) :
    TimersFollow { State.reset with estop := estop, home := home, freeIndex := freeIndex, pending := pending } := by
  simp [TimersFollow, State.reset, Line.reset]

theorem Turn.lineConsistent {s t : State} (h : Turn s t) (hs : LineConsistent s) : LineConsistent t := by
  cases h with
  | moves h => exact keeps_of_moves (fun _ _ => Move.lineConsistent) h hs
  | queues _ h => exact hs.of_stays (by refine ⟨?_, ?_, ?_, ?_, ?_⟩ <;> rw [h])
  | partReset h =>
    obtain ⟨fresh, rfl, ⟨released, rfl⟩ | ⟨-, rfl⟩⟩ := partReset_cases h
    · exact ⟨fun asserted => absurd (released.symm.trans asserted) Bool.false_ne_true, timersFollow_reset _ _ _ _⟩
    · exact lineConsistent_handFault _ (timersFollow_reset _ _ _ _)

/-- Settles O55: a fault, a change of the line state and a part reset set timers and drain option together with the
state; nothing else moves them. -/
theorem lineStaysConsistent : Obligations.LineStaysConsistent :=
  kept_of_turns (inv := LineConsistent) (fun _ _ h => h) fun _ _ => Turn.lineConsistent

end Sys2Proof.Machine
end

section
/-! The causes of the suppression set stand with their owners' states (O56). A move of the owner sets its cause with
its state, a move of another block leaves both, and a job reset sets the whole set anew. -/

namespace Sys2Proof.Machine

variable {staged : Prop}

/-! ### The suppression set after a job reset (R181) -/

/-- A fold that puts some STATION(n) causes as a test says moves no other cause. -/
theorem putStations_has (test : SlotNo → Bool) (l : List SlotNo) (f : FeedSet) (c : FeedCause) :
    (l.foldl (fun f n => f.put (.station n) (test n)) f).has c
      = match c with
        | .station n => if n ∈ l then test n else f.has c
        | _ => f.has c := by
  induction l generalizing f with
  | nil => cases c <;> simp
  | cons m l ih =>
    rw [List.foldl_cons, ih]
    cases c with
    | station n =>
      by_cases same : n = m
      · subst same
        simp [FeedSet.has_put]
      · simp [FeedSet.has_put, same]
    | _ => simp [FeedSet.has_put]

theorem jobFeed_has (s : State) (c : FeedCause) : (jobFeed s).has c = jobCause s c := by
  unfold jobFeed
  rw [putStations_has (fun n => jobCause s (.station n))]
  cases c with
  | station n => simp [allSlots]
  | _ => simp [FeedSet.has_put, FeedSet.has_empty, jobCause]

/-- After a job reset a cause stands as R181 says of the state it leaves. -/
theorem resetJob_has (s : State) (c : FeedCause) : (resetJob s).line.feed.has c = jobCause (resetJob s) c := by
  have set : (resetJob s).line.feed = jobFeed (clearPhase (clearStep (clearBlocks s))) := by
    unfold resetJob
    rw [resetFeed_eq]
  have phase : (resetJob s).phase = (clearPhase (clearStep (clearBlocks s))).phase := by
    unfold resetJob
    rw [resetFeed_eq]
  have stations : (resetJob s).stations = (clearPhase (clearStep (clearBlocks s))).stations := by
    unfold resetJob
    rw [resetFeed_eq]
  rw [set, jobFeed_has]
  cases c <;> simp [jobCause, suppresses, stationAt, phase, stations]

theorem dropReport_has (rest : List Report) (s : State) {c : FeedCause} (other : c ≠ .backlog) :
    (dropReport rest s).line.feed.has c = s.line.feed.has c := by
  unfold dropReport
  dsimp only
  split
  · simp [removeCause_has, other]
  · rfl

theorem Aside.feed {s t : State} (h : Aside s t) : t.line.feed = s.line.feed := by
  unfold Aside at h
  rw [h]

/-! ### What the moves of the stations leave of the set -/

theorem stationChanged_has (n : SlotNo) (old new : Station) (s : State) {c : FeedCause} (other : ∀ m, c ≠ .station m) :
    (stationChanged n old new s).line.feed.has c = s.line.feed.has c := by
  have told : (announceStation n new s).line.feed.has c = s.line.feed.has c := by
    rw [announceStation_has, if_neg fun h => other n h.1]
  rcases stationChanged_cases n old new s with ⟨e, -⟩ | e | e
  · rw [e, putStation_line]
  · rw [e, told]
  · rw [e, handFault_feed, told]

theorem configure_feed (n : SlotNo) (st : Option Station) (s : State) : (configure n st s).line.feed = s.line.feed := rfl

theorem StationMove.has {s t : State} (h : StationMove s t) {c : FeedCause} (other : ∀ m, c ≠ .station m) :
    t.line.feed.has c = s.line.feed.has c := by
  cases h with
  | changed => exact stationChanged_has _ _ _ s other
  | motion => rfl
  | configured => rw [putCause_has, if_neg (other _), configure_feed]
  | cleared => rw [removeCause_has, if_neg (other _), configure_feed]

/-- A cause that no owner but a monitor, the station table or the counters hands (10.2). -/
def FeedCause.owned (c : FeedCause) : Prop := c ≠ .hostHold ∧ c ≠ .stopPoint ∧ c ≠ .backlog

theorem putCause_has_owned {c d : FeedCause} (owner : c = .hostHold ∨ c = .stopPoint) (owned : d.owned) (b : Bool)
    (s : State) : (putCause c b s).line.feed.has d = s.line.feed.has d := by
  rw [putCause_has, if_neg]
  rintro rfl
  exact owner.elim owned.1 owned.2.1

/-! ### STEP and PHASE -/

/-- A move leaves the step monitor and its cause, or is the monitor's own, or is a job reset. -/
theorem Move.step_cases {s t : State} (h : Move staged s t) :
    (t.step = s.step ∧ t.line.feed.has .step = s.line.feed.has .step) ∨ StepMove s t ∨ t = resetJob s := by
  have owned : FeedCause.step.owned := ⟨by simp, by simp, by simp⟩
  cases h with
  | aside h => exact .inl ⟨by rw [h], by rw [h.feed]⟩
  | reportSent => exact .inl ⟨by rw [dropReport_eq], dropReport_has _ s owned.2.2⟩
  | cause d present owner => exact .inl ⟨by simp, putCause_has_owned owner owned present s⟩
  | line h feed => exact .inl ⟨rfl, congrArg (FeedSet.has · .step) feed⟩
  | fault k => exact .inl ⟨by simp, by rw [handFault_feed]⟩
  | estop => exact .inl ⟨by simp, by rw [handFault_feed]⟩
  | estopReleased => exact .inl ⟨rfl, rfl⟩
  | station h => exact .inl ⟨by rw [h.restations], h.has (by simp)⟩
  | step h => exact .inr (.inl h)
  | phase h => exact .inl ⟨by rw [h.foot], h.has (by simp)⟩
  | counters h => exact .inl ⟨by rw [h.tallies], h.has (by simp)⟩
  | work h => exact .inl ⟨by rw [h.works], h.has owned.2.2⟩
  | jobReset => exact .inr (.inr rfl)

theorem Move.stepCause {s t : State} (h : Move staged s t) (hs : StepCause s) : StepCause t := by
  rcases h.step_cases with ⟨step, has⟩ | m | rfl
  · unfold StepCause at *
    rwa [step, has]
  · cases m with
    | data m state => exact hs.trans state.symm
    | lost m state => simp [StepCause, addCause_has, state]
    | found m state => simp [StepCause, removeCause_has, state]
  · have state : (resetJob s).step.state ≠ .outOfStep := by
      rw [resetJob_eq]
      exact stepStateAtReset_ne _
    unfold StepCause
    rw [resetJob_has]
    exact iff_of_false Bool.false_ne_true state

/-- A move leaves the phase monitor and its cause, or is the monitor's own, or is a job reset. -/
theorem Move.phase_cases {s t : State} (h : Move staged s t) :
    (t.phase = s.phase ∧ t.line.feed.has .phase = s.line.feed.has .phase) ∨ PhaseMove s t ∨ t = resetJob s := by
  have owned : FeedCause.phase.owned := ⟨by simp, by simp, by simp⟩
  cases h with
  | aside h => exact .inl ⟨by rw [h], by rw [h.feed]⟩
  | reportSent => exact .inl ⟨by rw [dropReport_eq], dropReport_has _ s owned.2.2⟩
  | cause d present owner => exact .inl ⟨by simp, putCause_has_owned owner owned present s⟩
  | line h feed => exact .inl ⟨rfl, congrArg (FeedSet.has · .phase) feed⟩
  | fault k => exact .inl ⟨by simp, by rw [handFault_feed]⟩
  | estop => exact .inl ⟨by simp, by rw [handFault_feed]⟩
  | estopReleased => exact .inl ⟨rfl, rfl⟩
  | station h => exact .inl ⟨by rw [h.restations], h.has (by simp)⟩
  | step h => exact .inl ⟨by rw [h.foot], h.has (by simp)⟩
  | phase h => exact .inr (.inl h)
  | counters h => exact .inl ⟨by rw [h.tallies], h.has (by simp)⟩
  | work h => exact .inl ⟨by rw [h.works], h.has owned.2.2⟩
  | jobReset => exact .inr (.inr rfl)

theorem suppresses_iff (p : PhaseState) : p.suppresses = true ↔ p = .seeking ∨ p = .acquiring ∨ p = .lost := by
  cases p <;> simp [PhaseState.suppresses]

theorem Move.phaseCause {s t : State} (h : Move staged s t) (hs : PhaseCause s) : PhaseCause t := by
  rcases h.phase_cases with ⟨phase, has⟩ | m | rfl
  · unfold PhaseCause at *
    rwa [phase, has]
  · cases m with
    | data m state =>
      unfold PhaseCause at *
      rw [← suppresses_iff] at *
      rwa [state]
    | changed m =>
      unfold PhaseCause
      rw [putCause_has, if_pos rfl, putCause_phase, suppresses_iff]
  · unfold PhaseCause
    rw [resetJob_has, ← suppresses_iff]
    rfl

/-! ### STATION(n) -/

/-- A move leaves the station table and its causes, or is the table's own, or is a job reset. -/
theorem Move.station_cases {s t : State} (h : Move staged s t) :
    (t.stations = s.stations ∧ ∀ n, t.line.feed.has (.station n) = s.line.feed.has (.station n)) ∨ StationMove s t
      ∨ t = resetJob s := by
  have owned (n : SlotNo) : (FeedCause.station n).owned := ⟨by simp, by simp, by simp⟩
  cases h with
  | aside h => exact .inl ⟨by rw [h], fun _ => by rw [h.feed]⟩
  | reportSent => exact .inl ⟨by rw [dropReport_eq], fun n => dropReport_has _ s (owned n).2.2⟩
  | cause d present owner => exact .inl ⟨by simp, fun n => putCause_has_owned owner (owned n) present s⟩
  | line h feed => exact .inl ⟨rfl, fun n => congrArg (FeedSet.has · (.station n)) feed⟩
  | fault k => exact .inl ⟨by simp, fun _ => by rw [handFault_feed]⟩
  | estop => exact .inl ⟨by simp, fun _ => by rw [handFault_feed]⟩
  | estopReleased => exact .inl ⟨rfl, fun _ => rfl⟩
  | station h => exact .inr (.inl h)
  | step h => exact .inl ⟨by rw [h.foot], fun _ => h.has (by simp)⟩
  | phase h => exact .inl ⟨by rw [h.foot], fun _ => h.has (by simp)⟩
  | counters h => exact .inl ⟨by rw [h.tallies], fun _ => h.has (by simp)⟩
  | work h => exact .inl ⟨by rw [h.works], fun n => h.has (owned n).2.2⟩
  | jobReset => exact .inr (.inr rfl)

theorem suppresses_exists (s : State) (n : SlotNo) :
    suppresses s n = true ↔ ∃ st, stationAt s n = some st ∧ st.role.feeding = true ∧ st.usable = false := by
  unfold suppresses
  cases stationAt s n <;> simp

/-- The causes of the station table stand as they should, one slot at a time. -/
theorem stationCauses_iff (s : State) : StationCauses s ↔ ∀ n, s.line.feed.has (.station n) = suppresses s n := by
  exact forall_congr' fun n => by rw [← suppresses_exists, ← Bool.eq_iff_iff]

theorem suppresses_congr {s t : State} (h : t.stations = s.stations) (n : SlotNo) : suppresses t n = suppresses s n := by
  unfold suppresses stationAt
  rw [h]

/-- A slot whose entry is put anew, with its cause as the new entry asks, and every other slot as it was. -/
theorem stationCauses_put {s t : State} {n : SlotNo} {st : Option Station} (hs : StationCauses s)
    (table : t.stations = (putStation n st s).stations)
    (own : t.line.feed.has (.station n) = st.any fun st => st.role.feeding && !st.usable)
    (others : ∀ m, m ≠ n → t.line.feed.has (.station m) = s.line.feed.has (.station m)) : StationCauses t := by
  rw [stationCauses_iff] at *
  intro m
  rw [suppresses_congr table]
  by_cases same : m = n
  · subst same
    rw [own, suppresses, stationAt_putStation]
  · rw [others m same, hs m, suppresses, suppresses, stationAt_putStation_other same]

theorem handFault_stationCauses {k : FaultCause} {s : State} (hs : StationCauses s) : StationCauses (handFault k s) := by
  unfold StationCauses stationAt at *
  rwa [handFault_feed, handFault_stations]

theorem usable_congr {old new : Station} (recorded : old.recorded = new.recorded) (health : old.health = new.health) :
    new.usable = old.usable := by
  unfold Station.usable
  rw [recorded, health]

theorem stationCauses_announceStation {n : SlotNo} {old new : Station} {s : State} (entry : stationAt s n = some old)
    (role : new.role = old.role) (hs : StationCauses s) : StationCauses (announceStation n new s) := by
  refine stationCauses_put (n := n) (st := some new) hs ?_ ?_ fun m other => ?_
  · rw [announces_announceStation n new s]
  · rw [announceStation_has]
    cases feeding : new.role.feeding with
    | true => simp [feeding]
    | false =>
      have absent : suppresses s n = false := by simp [suppresses, entry, ← role, feeding]
      simp [feeding, (stationCauses_iff s).mp hs, absent]
  · rw [announceStation_has, if_neg (by simp [other])]

theorem StationMove.stationCauses {s t : State} (h : StationMove s t) (hs : StationCauses s) : StationCauses t := by
  cases h with
  | @changed n old new entry role =>
    have told := stationCauses_announceStation (new := new) entry role hs
    rcases stationChanged_cases n old new s with ⟨e, recorded, health⟩ | e | e
    · rw [e]
      refine stationCauses_put (n := n) (st := some new) hs rfl ?_ fun _ _ => rfl
      simp [(stationCauses_iff s).mp hs, suppresses, entry, role, usable_congr recorded health]
    · rwa [e]
    · rw [e]
      exact handFault_stationCauses told
  | @motion n st entry m =>
    refine stationCauses_put (n := n) hs rfl ?_ fun _ _ => rfl
    simp [(stationCauses_iff s).mp hs, suppresses, entry, Station.usable]
  | @configured u =>
    refine stationCauses_put (n := u.slot) (st := some u.station) hs ?_ ?_ fun m other => ?_
    · rw [putCause_stations]
      rfl
    · simp [putCause_has, Station.usable, SlotSetup.station]
    · rw [putCause_has, if_neg (by simp [other]), configure_feed]
  | cleared n =>
    refine stationCauses_put (n := n) (st := none) hs ?_ ?_ fun m other => ?_
    · rw [removeCause_stations]
      rfl
    · simp [removeCause_has]
    · rw [removeCause_has, if_neg (by simp [other]), configure_feed]

theorem Move.stationCauses {s t : State} (h : Move staged s t) (hs : StationCauses s) : StationCauses t := by
  rcases h.station_cases with ⟨table, has⟩ | m | rfl
  · rw [stationCauses_iff] at *
    exact fun n => by rw [has, hs, suppresses_congr table]
  · exact m.stationCauses hs
  · exact (stationCauses_iff _).mpr fun n => resetJob_has s (.station n)

/-! ### COUNTER(n) -/

/-- A move leaves the counter block and its causes, or is the block's own, or is a job reset. -/
theorem Move.counter_cases {s t : State} (h : Move staged s t) :
    (t.counters = s.counters ∧ ∀ i, t.line.feed.has (.counter i) = s.line.feed.has (.counter i)) ∨ CounterMove s t
      ∨ t = resetJob s := by
  have owned (i : Fin 8) : (FeedCause.counter i).owned := ⟨by simp, by simp, by simp⟩
  cases h with
  | aside h => exact .inl ⟨by rw [h], fun _ => by rw [h.feed]⟩
  | reportSent => exact .inl ⟨by rw [dropReport_eq], fun n => dropReport_has _ s (owned n).2.2⟩
  | cause d present owner => exact .inl ⟨by simp, fun n => putCause_has_owned owner (owned n) present s⟩
  | line h feed => exact .inl ⟨rfl, fun n => congrArg (FeedSet.has · (.counter n)) feed⟩
  | fault k => exact .inl ⟨by simp, fun _ => by rw [handFault_feed]⟩
  | estop => exact .inl ⟨by simp, fun _ => by rw [handFault_feed]⟩
  | estopReleased => exact .inl ⟨rfl, fun _ => rfl⟩
  | station h => exact .inl ⟨by rw [h.restations], fun _ => h.has (by simp)⟩
  | step h => exact .inl ⟨by rw [h.foot], fun _ => h.has (by simp)⟩
  | phase h => exact .inl ⟨by rw [h.foot], fun _ => h.has (by simp)⟩
  | counters h => exact .inr (.inl h)
  | work h => exact .inl ⟨by rw [h.works], fun n => h.has (owned n).2.2⟩
  | jobReset => exact .inr (.inr rfl)

theorem counterCauses_iff (s : State) :
    CounterCauses s ↔ ∀ i : Fin 8, s.line.feed.has (.counter i) = (s.counters.all[i]).hold := by
  exact forall_congr' fun i => Bool.eq_iff_iff.symm

/-- Announcing some counters adds the causes of those among them that newly hold (R186). -/
theorem announceCounters_has (before : Vector Counter 8) (l : List (Fin 8)) (s : State) (i : Fin 8) :
    (l.foldl (announceCounter before) s).line.feed.has (.counter i)
      = (s.line.feed.has (.counter i) || (decide (i ∈ l) && ((s.counters.all[i]).holds && !(before[i]).hold))) := by
  have one (j : Fin 8) (u : State) : (announceCounter before u j).line.feed.has (.counter i)
      = (u.line.feed.has (.counter i) || (decide (i = j) && ((u.counters.all[i]).holds && !(before[i]).hold))) := by
    unfold announceCounter
    dsimp only
    by_cases same : i = j
    · subst same
      rw [decide_eq_true rfl, Bool.true_and]
      split
      · split
        next added => rw [addCause_has, if_pos rfl, added, Bool.or_true]
        next kept => rw [Bool.eq_false_iff.mpr kept, Bool.or_false, raise_line]
      next setup =>
        have never : (u.counters.all[i]).holds = false := by rw [Counter.holds, setup, Option.any_none]
        rw [never, Bool.false_and, Bool.or_false]
    · split
      · split
        · simp [addCause_has, same]
        · simp [same]
      · simp [same]
  induction l generalizing s with
  | nil => simp
  | cons j l ih =>
    rw [List.foldl_cons, ih, one, (announces_announceCounter before s j).counters_eq]
    by_cases same : i = j
    · subst same
      by_cases later : i ∈ l <;> simp [later]
    · simp [same]

theorem starting_hold (c : Counter) : c.starting.hold = c.hold := by
  unfold Counter.starting
  split <;> rfl

theorem counts_of_reaches {e : TallyEvent} {slot : Option SlotNo} {c : Counter} (h : c.reaches e slot = true) :
    c.counts e slot = true := by
  unfold Counter.reaches at h
  split at h
  · simp only [Bool.and_eq_true] at h
    exact h.1.1.1
  · cases h

theorem taking_hold (e : TallyEvent) (slot : Option SlotNo) (c : Counter) :
    (c.taking e slot).hold = (c.hold || (c.reaches e slot && c.holds)) := by
  unfold Counter.taking
  split
  · rfl
  next uncounted =>
    have missed : c.reaches e slot = false := Bool.eq_false_iff.mpr fun h => uncounted (counts_of_reaches h)
    simp [missed]

theorem taking_setup (e : TallyEvent) (slot : Option SlotNo) (c : Counter) : (c.taking e slot).setup = c.setup := by
  unfold Counter.taking
  split <;> rfl

theorem starting_setup (c : Counter) : c.starting.setup = c.setup := by
  unfold Counter.starting
  split <;> rfl

/-- One counter after an event: its hold is set where it reaches with action NOTICE_HOLD, its setup stays. -/
theorem countersAfter_hold (e : TallyEvent) (slot : Option SlotNo) (cs : Vector Counter 8) (i : Fin 8) :
    ((countersAfter e slot cs)[i]).hold = ((cs[i]).hold || ((cs[i]).reaches e slot && (cs[i]).holds)) := by
  simp only [countersAfter, Fin.getElem_fin, Vector.getElem_ofFn]
  split
  · rw [starting_hold, taking_hold]
  · rw [taking_hold]

theorem countersAfter_holds (e : TallyEvent) (slot : Option SlotNo) (cs : Vector Counter 8) (i : Fin 8) :
    ((countersAfter e slot cs)[i]).holds = (cs[i]).holds := by
  simp only [countersAfter, Fin.getElem_fin, Vector.getElem_ofFn, Counter.holds]
  split
  · rw [starting_setup, taking_setup]
  · rw [taking_setup]

theorem counterCauses_tally (e : TallyEvent) (slot : Option SlotNo) {s : State} (hs : CounterCauses s) :
    CounterCauses (tally e slot s) := by
  rw [counterCauses_iff] at *
  intro i
  rw [tally_counters]
  unfold tally blockAfter
  split
  · exact hs i
  · dsimp only
    rw [announceCounters_has, countersAfter_hold, countersAfter_holds, hs i]
    have member : decide (i ∈ reached e slot s.counters.all) = (s.counters.all[i]).reaches e slot := by
      simp [reached]
    rw [member]
    cases (s.counters.all[i]).hold <;> simp

theorem CounterMove.counterCauses {s t : State} (h : CounterMove s t) (hs : CounterCauses s) : CounterCauses t := by
  cases h with
  | event e slot => exact counterCauses_tally e slot hs
  | data cs held =>
    rw [counterCauses_iff] at *
    exact fun i => (hs i).trans (held i).symm
  | releasedHold i c free =>
    rw [counterCauses_iff] at *
    intro j
    rw [giveUpHold_counters]
    by_cases same : j = i
    · subst same
      have own : ((putCounter j c s).counters.all[j]).hold = false := by simp [putCounter, free]
      rw [own]
      cases held : (s.counters.all[j]).hold with
      | false => exact (hs j).trans held
      | true => simp [giveUpHold, removeCause_has]
    · have kept : ((putCounter i c s).counters.all[j]).hold = (s.counters.all[j]).hold := by
        have other : i.val ≠ j.val := fun e => same (Fin.ext e.symm)
        simp [putCounter, Vector.getElem_set_ne _ _ other]
      rw [kept, ← hs j]
      unfold giveUpHold
      split
      · rw [removeCause_has, if_neg (by simp [same])]
        rfl
      · rfl

theorem Move.counterCauses {s t : State} (h : Move staged s t) (hs : CounterCauses s) : CounterCauses t := by
  rcases h.counter_cases with ⟨block, has⟩ | m | rfl
  · rw [counterCauses_iff] at *
    exact fun i => by rw [has, hs, block]
  · exact m.counterCauses hs
  · rw [counterCauses_iff]
    intro i
    have cleared : ((resetJob s).counters.all[i]).hold = false := by
      rw [resetJob_eq]
      simp [clearBlocks, Counter.jobReset]
    rw [resetJob_has, cleared]
    rfl

/-! ### Part reset, and every step -/

theorem feed_reset (c : FeedCause) : State.reset.line.feed.has c = false := FeedSet.has_empty c

theorem Turn.causes {s t : State} (h : Turn s t) (hs : StepCause s ∧ PhaseCause s) : StepCause t ∧ PhaseCause t := by
  cases h with
  | moves h =>
    exact keeps_of_moves (inv := fun s => StepCause s ∧ PhaseCause s)
      (fun _ _ m hs => ⟨m.stepCause hs.1, m.phaseCause hs.2⟩) h hs
  | queues _ h =>
    rw [h]
    exact hs
  | partReset h =>
    refine partReset_of_reset (inv := fun s => StepCause s ∧ PhaseCause s) h (fun _ _ _ _ => ?_) fun u hu => ?_
    · exact ⟨iff_of_false (by simp [feed_reset]) (by simp [State.reset, StepMonitor.cleared]),
        iff_of_false (by simp [feed_reset]) (by simp [State.reset, PhaseMonitor.cleared])⟩
    · exact ⟨(Move.fault (staged := True) .estop).stepCause hu.1, (Move.fault (staged := True) .estop).phaseCause hu.2⟩

theorem Turn.stationCauses {s t : State} (h : Turn s t) (hs : StationCauses s) : StationCauses t := by
  cases h with
  | moves h => exact keeps_of_moves (fun _ _ => Move.stationCauses) h hs
  | queues _ h =>
    rw [h]
    exact hs
  | partReset h =>
    refine partReset_of_reset h (fun _ _ _ _ => ?_) fun u => handFault_stationCauses
    exact fun n => iff_of_false (by simp [feed_reset]) (by simp [State.reset, stationAt])

theorem Turn.counterCauses {s t : State} (h : Turn s t) (hs : CounterCauses s) : CounterCauses t := by
  cases h with
  | moves h => exact keeps_of_moves (fun _ _ => Move.counterCauses) h hs
  | queues _ h =>
    rw [h]
    exact hs
  | partReset h =>
    refine partReset_of_reset h (fun _ _ _ _ => ?_) fun u => (Move.fault (staged := True) .estop).counterCauses
    exact fun i => iff_of_false (by simp [feed_reset]) (by simp [State.reset, Counter.unconfigured])

/-- Settles O56: each of the four owners hands its causes with the changes of its state. -/
theorem causesStand : Obligations.CausesStand :=
  ⟨kept_of_turns (inv := fun s => StepCause s ∧ PhaseCause s) (fun _ _ h => h) fun _ _ => Turn.causes,
    kept_of_turns (inv := StationCauses) (fun _ _ h => h) fun _ _ => Turn.stationCauses,
    kept_of_turns (inv := CounterCauses) (fun _ _ h => h) fun _ _ => Turn.counterCauses⟩

end Sys2Proof.Machine
end

section
/-! The host link stays bounded (O59): only the entries and replies of the host link move its queues, each within its
bound, and BACKLOG is added by the report that makes 64 and removed by the one that leaves 32. -/

namespace Sys2Proof.Machine

variable {staged : Prop}

theorem BacklogCause.of_same {s t : State} (h : BacklogCause s) (reports : t.link.reports = s.link.reports)
    (has : t.line.feed.has .backlog = s.line.feed.has .backlog) : BacklogCause t := by
  unfold BacklogCause at *
  rwa [reports, has]

theorem BacklogCause.queueReport {s : State} (h : BacklogCause s) (r : Report) : BacklogCause (queueReport r s) := by
  obtain ⟨many, few⟩ := h
  unfold BacklogCause
  rw [queueReport_link_reports, queueReport_has, List.length_append, List.length_singleton]
  refine ⟨fun above => ?_, fun below => ?_⟩
  · split
    · rfl
    next other => exact many (by simp only [true_and] at other; omega)
  · rw [if_neg (by omega), few (by omega)]

theorem BacklogCause.dropReport {s : State} (h : BacklogCause s) {r : Report} {rest : List Report}
    (reports : s.link.reports = r :: rest) : BacklogCause (dropReport rest s) := by
  obtain ⟨many, few⟩ := h
  rw [reports, List.length_cons] at many few
  have left : (Machine.dropReport rest s).link.reports = rest := by rw [dropReport_eq]
  have has : (Machine.dropReport rest s).line.feed.has .backlog
      = if rest.length = 32 then false else s.line.feed.has .backlog := by
    unfold Machine.dropReport
    dsimp only
    split
    · simp [removeCause_has]
    · rfl
  unfold BacklogCause
  rw [left, has]
  refine ⟨fun above => ?_, fun below => ?_⟩
  · rw [if_neg (by omega), many (by omega)]
  · split
    · rfl
    · exact few (by omega)

/-- A move of records, cells and bundles queues a report last, queues it before it closes what is reported, or
queues none. -/
theorem WorkMove.backlog {s t : State} (h : WorkMove staged s t) (hs : BacklogCause s) : BacklogCause t := by
  cases h with
  | loaded records => exact hs.of_same (by rw [acceptRecords_eq]) (by rw [acceptRecords_eq])
  | purged n => exact hs.of_same (by unfold purgeQueue; rw [releaseAll_eq]; rfl) (by unfold purgeQueue; rw [releaseAll_eq]; rfl)
  | stranded | attemptsOver | finished | recordEscaped | remade =>
    refine BacklogCause.queueReport ?_ _
    exact hs.of_same rfl rfl
  | bundleEnd | trayEnd => exact (hs.queueReport _).of_same rfl rfl
  | withdrawn p c v =>
    refine hs.of_same ?_ ?_ <;> (unfold offerBack; dsimp only; split <;> rfl)
  | _ => exact hs.of_same rfl rfl

theorem Move.backlog {s t : State} (h : Move staged s t) (hs : BacklogCause s) : BacklogCause t := by
  cases h with
  | aside h => exact hs.of_same (by rw [h]) (by rw [h.feed])
  | reportSent r rest reports => exact hs.dropReport reports
  | cause d present owner =>
    refine hs.of_same (by simp) ?_
    rw [putCause_has, if_neg]
    rintro rfl
    simp at owner
  | line h feed => exact hs.of_same rfl (congrArg (FeedSet.has · .backlog) feed)
  | fault k => exact hs.of_same (by simp) (by rw [handFault_feed])
  | estop => exact hs.of_same (by simp) (by rw [handFault_feed])
  | estopReleased => exact hs.of_same rfl rfl
  | station h => exact hs.of_same (by rw [h.restations]) (h.has (by simp))
  | step h => exact hs.of_same (by rw [h.foot]) (h.has (by simp))
  | phase h => exact hs.of_same (by rw [h.foot]) (h.has (by simp))
  | counters h => exact hs.of_same (by rw [h.tallies]) (h.has (by simp))
  | work h => exact h.backlog hs
  | jobReset idle reports =>
    have none : (resetJob s).link.reports = [] := by rw [resetJob_eq]; exact reports
    unfold BacklogCause
    rw [resetJob_has, none]
    exact ⟨fun many => absurd many (by simp), fun _ => rfl⟩

theorem LinkBounds.of_queuesStay {s t : State} (h : LinkBounds s) (stay : QueuesStay s t) : LinkBounds t := by
  obtain ⟨rx, overflow, replies, -⟩ := stay
  unfold LinkBounds at *
  rwa [rx, overflow, replies]

theorem Turn.hostLink {s t : State} (h : Turn s t) (hs : LinkBounds s ∧ BacklogCause s) :
    LinkBounds t ∧ BacklogCause t := by
  obtain ⟨bounds, backlog⟩ := hs
  cases h with
  | moves h => exact ⟨bounds.of_queuesStay h.queuesStay, keeps_of_moves (fun _ _ => Move.backlog) h backlog⟩
  | queues keep h => exact ⟨keep bounds, backlog.of_same (by rw [h]) (by rw [h])⟩
  | partReset h =>
    refine partReset_of_reset (inv := fun s => LinkBounds s ∧ BacklogCause s) h (fun _ _ _ _ => ?_) fun u hu => ?_
    · exact ⟨by simp [LinkBounds, State.reset, HostLink.reset], by simp [BacklogCause, State.reset, HostLink.reset, Line.reset, FeedSet.has_empty]⟩
    · exact ⟨hu.1.of_queuesStay (Move.fault (staged := True) .estop).queuesStay, (Move.fault (staged := True) .estop).backlog hu.2⟩

/-- Settles O59: the queues move within their bounds, and BACKLOG moves at its two thresholds alone. -/
theorem hostLinkStaysBounded : Obligations.HostLinkStaysBounded :=
  kept_of_turns (inv := fun s => LinkBounds s ∧ BacklogCause s) (fun _ _ h => h) fun _ _ => Turn.hostLink

end Sys2Proof.Machine
end

section
/-! The tags of the track stay in order (O60): the shift gives the new cell the next tag and moves every other cell one
position up, and no other move changes a tag, a position or the number of cells, but to drop cells at the end. -/

namespace Sys2Proof.Machine

variable {staged : Prop}

/-- Every configured position is one of 0 to 63 (R2, R44). -/
def PositionsBounded (s : State) : Prop := ∀ n st p, stationAt s n = some st → st.position = some p → p ≤ 63

/-- The tags of some cells, from position 0 on, are the tags given last (R46). -/
def TagsFrom (next : Tag) (tags : List Tag) : Prop := ∀ p t, tags[p]? = some t → t = next - 1 - BitVec.ofNat 8 p

/-- The tags of the cells, from position 0 on. -/
def cellTags (s : State) : List Tag := s.track.cells.map (·.tag)

theorem trackTags_iff (s : State) :
    TrackTags s ↔ PositionsBounded s ∧ (cellTags s).length ≤ 64 ∧ TagsFrom s.track.nextTag (cellTags s) := by
  simp [TrackTags, PositionsBounded, TagsFrom, cellTags]

/-- From s to t the positions stay, and of the tags at most the last ones have gone. -/
theorem TrackTags.of_prefix {s t : State} (h : TrackTags s) (positions : PositionsBounded s → PositionsBounded t)
    (tags : cellTags t <+: cellTags s) (next : t.track.nextTag = s.track.nextTag) : TrackTags t := by
  rw [trackTags_iff] at *
  obtain ⟨bounded, few, given⟩ := h
  refine ⟨positions bounded, tags.length_le.trans few, fun p tag here => ?_⟩
  obtain ⟨gone, all⟩ := tags
  rw [next]
  refine given p tag ?_
  rwa [← all, List.getElem?_append_left (List.getElem?_eq_some_iff.mp here).1]

theorem TrackTags.of_same {s t : State} (h : TrackTags s) (table : t.stations = s.stations) (tags : cellTags t = cellTags s)
    (next : t.track.nextTag = s.track.nextTag) : TrackTags t := by
  refine h.of_prefix (fun bounded => ?_) (tags ▸ List.prefix_refl _) next
  unfold PositionsBounded stationAt at *
  rwa [table]

theorem tags_modify {f : Cell → Cell} (tag : ∀ c, (f c).tag = c.tag) (p : Nat) (l : List Cell) :
    (l.modify p f).map (·.tag) = l.map (·.tag) := by
  refine List.ext_getElem? fun i => ?_
  simp only [List.getElem?_map, List.getElem?_modify]
  cases l[i]? with
  | none => rfl
  | some c =>
    by_cases here : p = i
    · simp [here, tag]
    · simp [here]

theorem cellTags_modifyCell {f : Cell → Cell} (tag : ∀ c, (f c).tag = c.tag) (p : Nat) (s : State) :
    cellTags (modifyCell p f s) = cellTags s := tags_modify tag p _

/-- The highest position the stacker can have is 63, with or without one (R44). -/
theorem stackerPosition_le {s : State} (h : PositionsBounded s) : stackerPosition s ≤ 63 := by
  unfold stackerPosition positionWith positionOf
  cases slot : slotWith s .stacker with
  | none => simp
  | some n =>
    cases entry : stationAt s n with
    | none => simp [entry]
    | some st =>
      cases place : st.position with
      | none => simp [entry, place]
      | some p => simpa [entry, place] using h n st p entry place

theorem trackTags_shift {s : State} (h : TrackTags s) : TrackTags (shift s) := by
  rw [trackTags_iff] at *
  obtain ⟨bounded, few, given⟩ := h
  have tags : cellTags (shift s) = s.track.nextTag :: (cellTags s).take (stackerPosition s) := by
    simp [cellTags, shift, Cell.new]
  refine ⟨bounded, ?_, fun p tag here => ?_⟩
  · have := stackerPosition_le bounded
    rw [tags, List.length_cons, List.length_take]
    omega
  · have next : (shift s).track.nextTag = s.track.nextTag + 1 := rfl
    rw [tags] at here
    rw [next]
    cases p with
    | zero =>
      obtain rfl : s.track.nextTag = tag := by simpa using here
      simp
    | succ p =>
      rw [List.getElem?_cons_succ, List.getElem?_take] at here
      split at here
      · have one : BitVec.ofNat 8 1 = 1 := rfl
        rw [given p tag here, BitVec.ofNat_add, one]
        ring
      · cases here

theorem withoutRecord_tag (c : Cell) : c.withoutRecord.tag = c.tag := by
  unfold Cell.withoutRecord
  split <;> rfl

theorem fedBy_tag (n : SlotNo) (double : Bool) (demands : List Demand) (c : Cell) : (c.fedBy n double demands).tag = c.tag := by
  unfold Cell.fedBy
  dsimp only
  split
  · split
    · exact (condemn_fixed _ _).1
    · rfl
  · split <;> rfl

theorem cellsKept_tags {l k : List Cell} (h : List.Forall₂ CellKept l k) : k.map (·.tag) = l.map (·.tag) := by
  induction h with
  | nil => rfl
  | cons kept _ ih => rw [List.map_cons, List.map_cons, kept.1, ih]

theorem WorkMove.trackTags {s t : State} (h : WorkMove staged s t) (hs : TrackTags s) : TrackTags t := by
  have same (f : Cell → Cell) (tag : ∀ c, (f c).tag = c.tag) (p : Nat) (u : State) (hu : TrackTags u) :
      TrackTags (modifyCell p f u) := hu.of_same rfl (cellTags_modifyCell tag p u) rfl
  have quiet {u v : State} (hu : TrackTags u) (table : v.stations = u.stations) (track : v.track = u.track) : TrackTags v :=
    hu.of_same table (by unfold cellTags; rw [track]) (by rw [track])
  have diverted (p : Nat) : TrackTags (divertRecord p s) :=
    same (fun c => { c.withoutRecord with content := .diverted }) withoutRecord_tag p s hs
  have vacated (p : Nat) (u : State) (hu : TrackTags u) : TrackTags (modifyCell p Cell.withoutRecord u) :=
    same _ withoutRecord_tag p u hu
  cases h with
  | cells cs kept => exact hs.of_same rfl (cellsKept_tags kept) rfl
  | exchangeEnded p n => exact same (Cell.endExchange n) (fun _ => rfl) p s hs
  | exchangeOpened p e => exact same (fun c => { c with exchanges := c.exchanges ++ [e] }) (fun _ => rfl) p s hs
  | shifted => exact trackTags_shift hs
  | loaded records => exact quiet hs (by rw [acceptRecords_eq]) (by rw [acceptRecords_eq])
  | purged n => exact quiet hs (by unfold purgeQueue; rw [releaseAll_eq]; rfl) (by unfold purgeQueue; rw [releaseAll_eq]; rfl)
  | stranded r => exact quiet hs (by simp [reportGone, releaseVersion]) (by simp [reportGone, releaseVersion])
  | offered head => exact same (fun c => { c with content := .offered, record := some head }) (fun _ => rfl) 0 _ (quiet hs rfl rfl)
  | proofOffered => exact same (fun c => { c with content := .offered, proofOffer := true }) (fun _ => rfl) 0 s hs
  | fed p n double demands => exact same _ (fedBy_tag n double demands) p s hs
  | withdrawn p c v =>
    have emptied := same (Cell.offerWithdrawn v) (fun c => withoutRecord_tag c) p s hs
    unfold offerBack
    dsimp only
    split
    · exact quiet emptied rfl rfl
    · exact emptied
  | gatePassed p => exact same (fun c => { c with content := .passed }) (fun _ => rfl) p s hs
  | itemDiverted p => exact same (fun c => { c with content := .diverted }) (fun _ => rfl) p s hs
  | recordless p => exact diverted p
  | remade p => exact quiet (diverted p) (by simp [remakeBack]) (by simp [remakeBack])
  | attemptsOver p =>
    exact quiet (diverted p) (by simp [reportGone, releaseVersion]) (by simp [reportGone, releaseVersion])
  | itemEscaped p => exact same (fun c => { c with content := .passed, escaped := true }) (fun _ => rfl) p s hs
  | recordEscaped p =>
    have escaped := same (fun c => { c with content := .passed, escaped := true }) (fun _ => rfl) p s hs
    exact quiet (vacated p _ escaped) (by simp [finishRecord, releaseVersion, setEscaped])
      (by simp [finishRecord, releaseVersion, setEscaped])
  | finished p =>
    exact quiet (vacated p s hs) (by simp [finishRecord, releaseVersion]) (by simp [finishRecord, releaseVersion])
  | bundleEnd | trayEnd => exact quiet hs (queueReport_stations _ s) (queueReport_track _ s)
  | jobs | defined | counted | trayBegin | bundleBegin | builder => exact hs.of_same rfl rfl rfl

/-- A slot whose new entry stands at 0 to 63 keeps the positions bounded (R2). -/
theorem PositionsBounded.put {s t : State} {n : SlotNo} {st : Option Station} (h : PositionsBounded s)
    (table : t.stations = (putStation n st s).stations) (bounded : ∀ u p, st = some u → u.position = some p → p ≤ 63) :
    PositionsBounded t := by
  intro m u p entry place
  have there : stationAt (putStation n st s) m = some u := by
    unfold stationAt at *
    rwa [table] at entry
  by_cases same : m = n
  · subst same
    rw [stationAt_putStation] at there
    exact bounded u p there place
  · rw [stationAt_putStation_other same] at there
    exact h m u p there place

theorem stationChanged_track (n : SlotNo) (old new : Station) (s : State) :
    (stationChanged n old new s).track = s.track := by
  have told : (announceStation n new s).track = s.track := by
    rw [announces_announceStation n new s]
    rfl
  rcases stationChanged_cases n old new s with ⟨e, -⟩ | e | e
  · rw [e, putStation_track]
  · rw [e, told]
  · rw [e, handFault_track, told]

theorem StationMove.trackTags {s t : State} (h : StationMove s t) (hs : TrackTags s) : TrackTags t := by
  have configured (n : SlotNo) (st : Option Station) (s : State) : cellTags (configure n st s) <+: cellTags s := by
    simp only [cellTags, configure, raise_track, dropAboveS]
    exact List.IsPrefix.map _ (List.take_prefix _ _)
  cases h with
  | @changed n old new entry role position =>
    have tags : cellTags (stationChanged n old new s) = cellTags s := by
      unfold cellTags
      rw [stationChanged_track]
    refine hs.of_prefix (fun bounded => ?_) (tags ▸ List.prefix_refl _) (by rw [stationChanged_track])
    refine bounded.put (stationChanged_stations n old new s) fun u p here place => ?_
    cases here
    exact bounded n old p entry (position ▸ place)
  | @motion n st entry m =>
    refine hs.of_prefix (fun bounded => ?_) (List.prefix_refl _) rfl
    refine bounded.put (n := n) rfl fun u p here place => ?_
    cases here
    exact bounded n st p entry place
  | @configured u _ _ _ near =>
    refine hs.of_prefix (fun bounded => ?_) ?_ (by rw [putCause_track]; rfl)
    · refine bounded.put (n := u.slot) (st := some u.station) (by rw [putCause_stations]; rfl) fun v p here place => ?_
      cases here
      exact near p place
    · unfold cellTags at *
      rw [putCause_track]
      exact configured _ _ s
  | cleared n =>
    refine hs.of_prefix (fun bounded => ?_) ?_ (by rw [removeCause_track]; rfl)
    · exact bounded.put (n := n) (st := none) (by rw [removeCause_stations]; rfl) fun _ _ here => by cases here
    · unfold cellTags at *
      rw [removeCause_track]
      exact configured _ _ s

theorem Move.trackTags {s t : State} (h : Move staged s t) (hs : TrackTags s) : TrackTags t := by
  have quiet {v : State} (table : v.stations = s.stations) (cells : v.track.cells = s.track.cells)
      (next : v.track.nextTag = s.track.nextTag) : TrackTags v := hs.of_same table (by unfold cellTags; rw [cells]) next
  cases h with
  | aside h => exact quiet (by rw [h]) (by rw [h]) (by rw [h])
  | reportSent => exact quiet (by rw [dropReport_eq]) (by rw [dropReport_eq]) (by rw [dropReport_eq])
  | cause => exact quiet (by simp) (by simp) (by simp)
  | line | estopReleased => exact quiet rfl rfl rfl
  | fault | estop => exact quiet (by simp) (by simp) (by simp)
  | station h => exact h.trackTags hs
  | step h => exact quiet (by rw [h.foot]) (by rw [h.foot]) (by rw [h.foot])
  | phase h => exact quiet (by rw [h.foot]) (by rw [h.foot]) (by rw [h.foot])
  | counters h => exact quiet (by rw [h.tallies]) (by rw [h.tallies]) (by rw [h.tallies])
  | work h => exact h.trackTags hs
  | jobReset =>
    refine hs.of_prefix (fun bounded => ?_) ?_ (by rw [resetJob_eq]; rfl)
    · have table : (resetJob s).stations = s.stations := by rw [resetJob_eq]; rfl
      unfold PositionsBounded stationAt at *
      rwa [table]
    · have cells : cellTags (resetJob s) = [] := by unfold cellTags; rw [resetJob_eq]; rfl
      exact ⟨cellTags s, by rw [cells, List.nil_append]⟩

theorem Turn.trackTags {s t : State} (h : Turn s t) (hs : TrackTags s) : TrackTags t := by
  cases h with
  | moves h => exact keeps_of_moves (fun _ _ => Move.trackTags) h hs
  | queues _ h => exact hs.of_same (by rw [h]) (by unfold cellTags; rw [h]) (by rw [h])
  | partReset h =>
    refine partReset_of_reset h (fun _ _ _ _ => ?_) fun u => (Move.fault (staged := True) .estop).trackTags
    simp [TrackTags, State.reset, stationAt]

/-- Settles O60: the shift alone gives tags, and a configuration within 0 to 63 alone gives positions. -/
theorem trackTagsInOrder : Obligations.TrackTagsInOrder :=
  kept_of_turns (inv := TrackTags) (fun _ _ h => h) fun _ _ => Turn.trackTags

end Sys2Proof.Machine
end

section
/-! Records stay in place (O57): each move of a cell keeps what its content says of its record, a fresh record
passes between queue and offered cell one for one, a print job begins below two, and an open bundle is closed before
its tray. -/

namespace Sys2Proof.Machine

variable {staged : Prop}

/-! ### Lists of cells -/

theorem forall_modify {P : Cell → Prop} {f : Cell → Cell} {p : Nat} {l : List Cell} (all : ∀ c ∈ l, P c)
    (here : ∀ c, l[p]? = some c → P c → P (f c)) : ∀ c ∈ l.modify p f, P c := by
  intro d member
  obtain ⟨i, at_i⟩ := List.mem_iff_getElem?.mp member
  rw [List.getElem?_modify] at at_i
  cases old : l[i]? with
  | none => simp [old] at at_i
  | some c =>
    have sound := all c (List.mem_of_getElem? old)
    rw [old] at at_i
    by_cases same : p = i
    · subst same
      obtain rfl : f c = d := by simpa using at_i
      exact here c old sound
    · obtain rfl : c = d := by simpa [same] using at_i
      exact sound

/-- Counting cells before and after one of them is changed. -/
theorem countP_modify {P : Cell → Bool} {f : Cell → Cell} {p : Nat} {l : List Cell} {c : Cell} (here : l[p]? = some c) :
    (l.modify p f).countP P + (if P c then 1 else 0) = l.countP P + (if P (f c) then 1 else 0) := by
  induction l generalizing p with
  | nil => cases here
  | cons x l ih =>
    cases p with
    | zero =>
      obtain rfl : x = c := by simpa using here
      rw [List.modify_zero_cons, List.countP_cons, List.countP_cons]
      omega
    | succ p =>
      have rest := ih (p := p) (by simpa using here)
      rw [List.modify_succ_cons, List.countP_cons, List.countP_cons]
      omega

/-- A change of a cell raises a count by one at most, and not at all where the changed cell does not count. -/
theorem countP_modify_le {P : Cell → Bool} {f : Cell → Cell} {p : Nat} (l : List Cell) {k : Nat}
    (here : ∀ c, l[p]? = some c → (if P (f c) then 1 else 0) ≤ (if P c then 1 else 0) + k) :
    (l.modify p f).countP P ≤ l.countP P + k := by
  cases old : l[p]? with
  | none =>
    have out : l.length ≤ p := List.getElem?_eq_none_iff.mp old
    rw [List.modify_eq_self out]
    omega
  | some c =>
    have count := countP_modify (P := P) (f := f) old
    have := here c old
    omega

/-! ### Records by content (R47) -/

/-- What the content of a cell says of its record (R47). -/
def CellSound (c : Cell) : Prop :=
  (c.content = .offered → (c.record = none ↔ c.proofOffer = true))
    ∧ (c.content = .bound ∨ c.content = .condemned → c.record ≠ none)
    ∧ (c.content = .empty ∨ c.content = .void ∨ c.content = .proof ∨ c.content = .diverted → c.record = none)
    ∧ (c.escaped = true → c.content = .passed ∧ c.record = none)
    ∧ (c.proofOffer = true → c.content = .offered)

theorem recordByContent_iff (s : State) : RecordByContent s ↔ ∀ c ∈ s.track.cells, CellSound c := Iff.rfl

/-- A kept cell comes from a cell of the old track. -/
theorem exists_of_cellsKept {l k : List Cell} (kept : List.Forall₂ CellKept l k) {d : Cell} (member : d ∈ k) :
    ∃ c ∈ l, CellKept c d := by
  induction kept with
  | nil => cases member
  | cons one _ ih =>
    rcases List.mem_cons.mp member with rfl | later
    · exact ⟨_, List.mem_cons_self, one⟩
    · obtain ⟨c, there, same⟩ := ih later
      exact ⟨c, List.mem_cons_of_mem _ there, same⟩

theorem RecordByContent.of_cells {s t : State} (h : RecordByContent s) (cells : t.track.cells = s.track.cells) :
    RecordByContent t := by
  unfold RecordByContent at *
  rwa [cells]

theorem RecordByContent.modify {s : State} (h : RecordByContent s) {f : Cell → Cell} {p : Nat}
    (here : ∀ c, s.track.cells[p]? = some c → CellSound c → CellSound (f c)) : RecordByContent (modifyCell p f s) :=
  forall_modify h here

theorem CellSound.kept {c d : Cell} (h : CellSound c) (kept : CellKept c d) : CellSound d := by
  obtain ⟨-, record, offer, escaped, -, content⟩ := kept
  unfold CellSound at *
  rw [record, offer, escaped]
  rcases content with same | ⟨bound, condemned⟩
  · rwa [same]
  · simp_all

theorem cellSound_new (tag : Tag) : CellSound (Cell.new tag) := by simp [CellSound, Cell.new]

/-- An offered cell ends its offer without an item (R79 to R81). -/
theorem cellSound_offerWithdrawn {c : Cell} (h : CellSound c) (content : c.content = .offered) {v : Content}
    (ends : v = .empty ∨ v = .void) : CellSound (c.offerWithdrawn v) := by
  unfold CellSound Cell.offerWithdrawn Cell.withoutRecord at *
  cases record : c.record <;> rcases ends with rfl | rfl <;> simp_all

/-- An offered cell is fed (R77, R78, R81). -/
theorem cellSound_fedBy {c : Cell} (h : CellSound c) (content : c.content = .offered) (n : SlotNo) (double : Bool)
    (demands : List Demand) : CellSound (c.fedBy n double demands) := by
  have escaped : c.escaped = false := by
    by_contra other
    simp [h.2.2.2.1 (Bool.eq_true_of_not_eq_false other)] at content
  unfold Cell.fedBy
  dsimp only
  cases record : c.record with
  | none =>
    rw [Option.isSome_none, if_neg Bool.false_ne_true]
    split <;> simp [CellSound, Cell.offerTaken, Cell.laterFault, record, escaped]
  | some r =>
    have taken : CellSound { c.offerTaken .bound with demands := demands } := by
      cases mark : c.offerMark <;> simp [CellSound, Cell.offerTaken, record, escaped, mark]
    rw [Option.isSome_some, if_pos rfl]
    split
    · exact taken.kept (cellKept_condemn _ _)
    · exact taken

/-- The record of a cell leaves it with its diversion (R140). -/
theorem cellSound_divert {c : Cell} (h : CellSound c) (content : c.content = .condemned) :
    CellSound { c.withoutRecord with content := .diverted } := by
  unfold CellSound Cell.withoutRecord at *
  cases record : c.record <;> simp_all

/-- The record of a passed cell leaves it (R47). -/
theorem cellSound_finish {c : Cell} (h : CellSound c) (content : c.content = .passed) : CellSound c.withoutRecord := by
  unfold CellSound Cell.withoutRecord at *
  cases record : c.record <;> simp_all

theorem recordByContent_queueReport (r : Report) {s : State} (h : RecordByContent s) : RecordByContent (queueReport r s) :=
  h.of_cells (by simp)

theorem WorkMove.recordByContent {s t : State} (h : WorkMove staged s t) (hs : RecordByContent s) : RecordByContent t := by
  have diverted (p : Nat) (c : Cell) (cell : s.track.cells[p]? = some c) (content : c.content = .condemned) :
      RecordByContent (divertRecord p s) := by
    refine hs.modify fun d here sound => ?_
    obtain rfl : c = d := Option.some.inj (cell.symm.trans here)
    exact cellSound_divert sound content
  cases h with
  | cells cs kept =>
    intro d member
    obtain ⟨c, old, k⟩ := exists_of_cellsKept kept member
    exact (show CellSound c from hs c old).kept k
  | exchangeEnded p n => exact hs.modify fun c _ sound => sound
  | exchangeOpened p e => exact hs.modify fun c _ sound => sound
  | shifted =>
    intro c member
    rcases List.mem_cons.mp member with rfl | old
    · exact cellSound_new _
    · exact hs c (List.mem_of_mem_take old)
  | loaded records => exact hs.of_cells (by rw [acceptRecords_eq])
  | purged n => exact hs.of_cells (by unfold purgeQueue; rw [releaseAll_eq]; rfl)
  | stranded r => exact recordByContent_queueReport _ (hs.of_cells rfl)
  | offered head rest queue free =>
    refine RecordByContent.modify (s := setQueue s.intake.queue.tail s) hs fun c here sound => ?_
    obtain ⟨empty, -⟩ := free c here
    unfold CellSound at *
    simp_all
  | proofOffered free =>
    refine hs.modify fun c here sound => ?_
    obtain ⟨empty, -⟩ := free c here
    unfold CellSound at *
    simp_all
  | fed p n double demands c cell content =>
    refine hs.modify fun d here sound => ?_
    obtain rfl : c = d := Option.some.inj (cell.symm.trans here)
    exact cellSound_fedBy sound content n double demands
  | withdrawn p c v cell content ends =>
    have emptied : RecordByContent (modifyCell p (Cell.offerWithdrawn v) s) := by
      refine hs.modify fun d here sound => ?_
      obtain rfl : c = d := Option.some.inj (cell.symm.trans here)
      exact cellSound_offerWithdrawn sound content ends
    unfold offerBack
    dsimp only
    split
    · exact emptied.of_cells rfl
    · exact emptied
  | gatePassed p c cell content =>
    refine hs.modify fun d here sound => ?_
    obtain rfl : c = d := Option.some.inj (cell.symm.trans here)
    unfold CellSound at *
    simp_all
  | itemDiverted p c cell content =>
    refine hs.modify fun d here sound => ?_
    obtain rfl : c = d := Option.some.inj (cell.symm.trans here)
    unfold CellSound at *
    rcases content with content | content <;> simp_all
  | recordless p c cell content => exact diverted p c cell content
  | remade p c r cause cell content =>
    exact recordByContent_queueReport _ ((diverted p c cell content).of_cells rfl)
  | attemptsOver p c r cause cell content =>
    exact recordByContent_queueReport _ ((diverted p c cell content).of_cells rfl)
  | itemEscaped p c cell content =>
    refine hs.modify fun d here sound => ?_
    obtain rfl : c = d := Option.some.inj (cell.symm.trans here)
    unfold CellSound at *
    rcases content with content | content | content <;> simp_all
  | recordEscaped p c r cause cell content record =>
    refine recordByContent_queueReport _ (RecordByContent.of_cells (s := modifyCell p Cell.withoutRecord (setEscaped p s)) ?_ rfl)
    unfold setEscaped
    rw [modifyCell_modifyCell]
    refine hs.modify fun d here sound => ?_
    obtain rfl : c = d := Option.some.inj (cell.symm.trans here)
    unfold CellSound Cell.withoutRecord at *
    simp_all
  | finished p c r report cell content =>
    refine recordByContent_queueReport _ (RecordByContent.of_cells (s := modifyCell p Cell.withoutRecord s) ?_ rfl)
    refine hs.modify fun d here sound => ?_
    obtain rfl : c = d := Option.some.inj (cell.symm.trans here)
    exact cellSound_finish sound content
  | bundleEnd | trayEnd => exact hs.of_cells (congrArg (·.cells) (queueReport_track _ s))
  | jobs | defined | counted | trayBegin | bundleBegin | builder => exact hs.of_cells rfl

/-! ### The fresh count (R27, R28) -/

/-- The cell is offered with a FRESH record (R27). -/
def Cell.offersFresh (c : Cell) : Bool := c.content == .offered && c.record.any Record.isFresh

theorem freshCount_eq (s : State) :
    freshCount s = s.intake.queue.countP Record.isFresh + s.track.cells.countP Cell.offersFresh := rfl

theorem freshCount_congr {s t : State} (queue : t.intake.queue = s.intake.queue) (cells : t.track.cells = s.track.cells) :
    freshCount t = freshCount s := by
  unfold freshCount
  rw [queue, cells]

theorem freshCount_queueReport (r : Report) (s : State) : freshCount (queueReport r s) = freshCount s :=
  freshCount_congr (by simp) (by simp)

/-- A changed cell that does not offer a FRESH record leaves the fresh count or lowers it. -/
theorem freshCount_modify {s : State} {f : Cell → Cell} {p : Nat}
    (here : ∀ c, s.track.cells[p]? = some c → (f c).offersFresh = true → c.offersFresh = true) :
    freshCount (modifyCell p f s) ≤ freshCount s := by
  refine Nat.add_le_add_left (countP_modify_le (P := Cell.offersFresh) (k := 0) s.track.cells fun c old => ?_) _
  have kept := here c old
  by_cases fresh : (f c).offersFresh = true
  · rw [if_pos fresh, if_pos (kept fresh)]
  · rw [if_neg fresh]
    omega

theorem offersFresh_kept {c d : Cell} (kept : CellKept c d) : d.offersFresh = c.offersFresh := by
  obtain ⟨-, record, -, -, -, content⟩ := kept
  unfold Cell.offersFresh
  rw [record]
  rcases content with same | ⟨bound, condemned⟩
  · rw [same]
  · rw [bound, condemned]
    rfl

theorem countP_kept {l k : List Cell} (kept : List.Forall₂ CellKept l k) :
    k.countP Cell.offersFresh = l.countP Cell.offersFresh := by
  induction kept with
  | nil => rfl
  | cons one _ ih => rw [List.countP_cons, List.countP_cons, ih, offersFresh_kept one]

/-- Accepted records join the tail of the queue in their order (R26). -/
theorem acceptRecords_queue (records : List LoadRecord) (s : State) :
    (records.foldl acceptRecord s).intake.queue = s.intake.queue ++ records.map LoadRecord.accepted := by
  induction records generalizing s with
  | nil => simp
  | cons r rest ih =>
    rw [List.foldl_cons, ih]
    simp [acceptRecord, setRefCount]

/-- A LOAD is accepted where the room holds it (R23, case 7). -/
theorem room_of_loadRefusal {s : State} {records : List LoadRecord} (allowed : loadRefusal s records = none) :
    freshCount s + records.length ≤ 256 := by
  unfold loadRefusal at allowed
  repeat' split at allowed
  all_goals cases allowed
  omega

theorem fedBy_content (n : SlotNo) (double : Bool) (demands : List Demand) (c : Cell) :
    (c.fedBy n double demands).content ≠ .offered := by
  have taken (v : Content) (other : v ≠ .offered) : (c.offerTaken v).content ≠ .offered := by
    unfold Cell.offerTaken
    dsimp only
    split
    · simp
    · exact other
  unfold Cell.fedBy
  dsimp only
  split
  · split
    · rw [(condemn_content _ _).1]
      split
      · simp
      · exact taken .bound (by simp)
    · exact taken .bound (by simp)
  · split
    · exact taken .proof (by simp)
    · exact taken .proof (by simp)

theorem offersFresh_of_content {c : Cell} (other : c.content ≠ .offered) : c.offersFresh = false := by
  simp [Cell.offersFresh, other]

/-- A returned remake is one entry more of the queue (R32). -/
theorem insertRemake_perm (r : Record) (l : List Record) : List.Perm (insertRemake r l) (r :: l) := by
  induction l with
  | nil => exact List.Perm.refl _
  | cons x xs ih =>
    unfold insertRemake
    split
    · exact (ih.cons x).trans (List.Perm.swap r x xs)
    · exact List.Perm.refl _

theorem WorkMove.freshCount {s t : State} (h : WorkMove staged s t) (hs : freshCount s ≤ 256) : freshCount t ≤ 256 := by
  have changed {p : Nat} {f : Cell → Cell} (u : State) (other : ∀ c, (f c).content ≠ .offered) :
      Machine.freshCount (modifyCell p f u) ≤ Machine.freshCount u := by
    refine freshCount_modify fun c _ fresh => ?_
    rw [offersFresh_of_content (other c)] at fresh
    cases fresh
  have same {u : State} (queue : u.intake.queue = s.intake.queue) (cells : u.track.cells = s.track.cells) :
      Machine.freshCount u ≤ 256 := (freshCount_congr queue cells).trans_le hs
  have diverted (p : Nat) : Machine.freshCount (divertRecord p s) ≤ Machine.freshCount s :=
    changed (f := fun c => { c.withoutRecord with content := .diverted }) s fun _ => by simp
  have vacated (p : Nat) (u : State) : Machine.freshCount (modifyCell p Cell.withoutRecord u) ≤ Machine.freshCount u := by
    refine freshCount_modify fun c _ fresh => ?_
    unfold Cell.withoutRecord at fresh
    split at fresh
    · simp [Cell.offersFresh] at fresh
    · exact fresh
  cases h with
  | cells cs kept =>
    rw [freshCount_eq] at *
    rwa [countP_kept kept]
  | exchangeEnded p n => exact (freshCount_modify (f := Cell.endExchange n) fun c _ fresh => fresh).trans hs
  | exchangeOpened p e =>
    exact (freshCount_modify (f := fun c => { c with exchanges := c.exchanges ++ [e] }) fun c _ fresh => fresh).trans hs
  | shifted =>
    refine le_trans (Nat.add_le_add_left ?_ _) hs
    have new : (Cell.new s.track.nextTag).offersFresh = false := rfl
    change List.countP Cell.offersFresh (Cell.new s.track.nextTag :: s.track.cells.take (stackerPosition s)) ≤ _
    rw [List.countP_cons, new]
    exact (List.take_sublist _ _).countP_le
  | loaded records allowed =>
    have room := room_of_loadRefusal allowed
    have cells : (records.foldl acceptRecord s).track.cells = s.track.cells := by rw [acceptRecords_eq]
    have joined := List.countP_le_length (p := Record.isFresh) (l := records.map LoadRecord.accepted)
    rw [List.length_map] at joined
    rw [freshCount_eq] at *
    rw [acceptRecords_queue, cells, List.countP_append]
    omega
  | purged n =>
    refine le_trans ?_ hs
    have cells : (purgeQueue n s).track.cells = s.track.cells := by unfold purgeQueue; rw [releaseAll_eq]; rfl
    have queue : (purgeQueue n s).intake.queue = s.intake.queue.filter (!Machine.purged n ·) := by
      unfold purgeQueue
      rw [releaseAll_eq]
      rfl
    rw [freshCount_eq, freshCount_eq, cells, queue]
    exact Nat.add_le_add_right List.filter_sublist.countP_le _
  | stranded r =>
    refine le_trans ?_ hs
    rw [reportGone, freshCount_queueReport]
    exact Nat.add_le_add_right (List.tail_sublist _).countP_le _
  | offered head rest queue free =>
    have front := countP_modify_le (P := Cell.offersFresh) (p := 0)
      (f := fun c => { c with content := .offered, record := some head }) s.track.cells
      (k := if head.isFresh then 1 else 0) fun c _ => by simp [Cell.offersFresh]
    rw [freshCount_eq, queue, List.countP_cons] at hs
    rw [freshCount_eq]
    change (s.intake.queue.tail).countP Record.isFresh + (s.track.cells.modify 0 _).countP Cell.offersFresh ≤ 256
    rw [queue, List.tail_cons]
    omega
  | proofOffered free =>
    refine (freshCount_modify (f := fun c => { c with content := .offered, proofOffer := true }) fun c here fresh => ?_).trans hs
    have recordless : c.record = none := (free c here).2
    simp [Cell.offersFresh, recordless] at fresh
  | fed p n double demands => exact (changed s (fedBy_content n double demands)).trans hs
  | withdrawn p c v cell content ends =>
    have other : (c.offerWithdrawn v).offersFresh = false := by
      refine offersFresh_of_content ?_
      rcases ends with rfl | rfl <;> simp [Cell.offerWithdrawn]
    have count := countP_modify (P := Cell.offersFresh) (f := Cell.offerWithdrawn v) cell
    rw [other] at count
    rw [freshCount_eq] at hs
    cases record : c.record with
    | none =>
      refine ((freshCount_congr ?_ ?_).trans_le (changed (f := Cell.offerWithdrawn v) (p := p) s ?_)).trans hs
      · simp [offerBack, record]
      · simp [offerBack, record]
      · intro d
        rcases ends with rfl | rfl <;> simp [Cell.offerWithdrawn]
    | some r =>
      have offers : c.offersFresh = r.isFresh := by simp [Cell.offersFresh, content, record]
      have back : Machine.freshCount (offerBack p c v s)
          = (r :: s.intake.queue).countP Record.isFresh + (s.track.cells.modify p (Cell.offerWithdrawn v)).countP Cell.offersFresh := by
        simp [offerBack, record, freshCount_eq, setQueue, modifyCell]
      rw [offers] at count
      rw [back, List.countP_cons]
      simp only [Bool.false_eq_true, if_false] at count
      omega
  | gatePassed p => exact (changed (f := fun c => { c with content := .passed }) s fun _ => by simp).trans hs
  | itemDiverted p => exact (changed (f := fun c => { c with content := .diverted }) s fun _ => by simp).trans hs
  | recordless p => exact (diverted p).trans hs
  | remade p c r =>
    refine le_trans ?_ ((diverted p).trans hs)
    have remade (a : Nat) : ({ r with attempts := a, kind := .remake } : Record).isFresh = false := rfl
    rw [remakeBack, freshCount_queueReport, freshCount_eq, freshCount_eq]
    refine Nat.add_le_add_right (le_of_eq ?_) _
    change List.countP Record.isFresh (insertRemake _ _) = _
    rw [(insertRemake_perm _ _).countP_eq, List.countP_cons, remade]
    simp
  | attemptsOver p =>
    rw [reportGone, freshCount_queueReport]
    exact (diverted p).trans hs
  | itemEscaped p =>
    exact (changed (f := fun c => { c with content := .passed, escaped := true }) s fun _ => by simp).trans hs
  | recordEscaped p c r cause =>
    rw [finishRecord, freshCount_queueReport]
    refine (vacated p (setEscaped p s)).trans (le_trans ?_ hs)
    exact changed (f := fun c => { c with content := .passed, escaped := true }) s fun _ => by simp
  | finished p =>
    rw [finishRecord, freshCount_queueReport]
    exact (vacated p s).trans hs
  | bundleEnd => exact same (by simp [bundleClosed]) (by simp [bundleClosed])
  | trayEnd => exact same (by simp [trayClosed]) (by simp [trayClosed])
  | jobs | defined | counted | trayBegin | bundleBegin | builder => exact same rfl rfl

/-! ### The printer's jobs (R67) -/

theorem WorkMove.printJobs {s t : State} (h : WorkMove staged s t) (hs : s.track.printJobs ≤ 2) : t.track.printJobs ≤ 2 := by
  have quiet {u v : State} (track : v.track = u.track) (few : u.track.printJobs ≤ 2) : v.track.printJobs ≤ 2 := by rwa [track]
  cases h with
  | jobs j few => exact few.elim (fun less => less.trans hs) id
  | loaded records => exact quiet (by rw [acceptRecords_eq]) hs
  | purged n => exact quiet (by unfold purgeQueue; rw [releaseAll_eq]; rfl) hs
  | withdrawn p c v =>
    unfold offerBack
    dsimp only
    split <;> exact hs
  | stranded | attemptsOver | finished | recordEscaped | remade => exact quiet (queueReport_track _ _) hs
  | bundleEnd | trayEnd => exact quiet (queueReport_track _ s) hs
  | _ => exact hs

/-! ### Bundle and tray (R155) -/

theorem BundleInTray.of_bundles {s t : State} (h : BundleInTray s) (bundles : t.bundles = s.bundles) : BundleInTray t := by
  unfold BundleInTray at *
  rwa [bundles]

theorem bundleInTray_of_none {s : State} (h : s.bundles.bundle = none) : BundleInTray s := by
  intro b here
  rw [h] at here
  cases here

theorem WorkMove.bundleInTray {s t : State} (h : WorkMove staged s t) (hs : BundleInTray s) : BundleInTray t := by
  cases h with
  | loaded records => exact hs.of_bundles (by rw [acceptRecords_eq])
  | purged n => exact hs.of_bundles (by unfold purgeQueue; rw [releaseAll_eq]; rfl)
  | withdrawn p c v =>
    unfold offerBack
    dsimp only
    split <;> exact hs.of_bundles rfl
  | stranded | attemptsOver | finished | recordEscaped | remade => exact hs.of_bundles (queueReport_bundles _ _)
  | bundleEnd => exact bundleInTray_of_none rfl
  | trayEnd reason tray here closed =>
    exact bundleInTray_of_none ((congrArg (·.bundle) (queueReport_bundles _ s)).trans closed)
  | trayBegin key closed => exact bundleInTray_of_none closed
  | bundleBegin key tray here =>
    rintro b ⟨⟩
    exact ⟨{ tray with bundles := tray.bundles + 1 }, by simp [openBundle, here], by simp [openBundle.orZeroTray, here]⟩
  | counted r unconfirmed =>
    intro b here
    obtain ⟨old, bundle, rfl⟩ := Option.map_eq_some_iff.mp here
    obtain ⟨tray, stands, serial⟩ := hs old bundle
    exact ⟨{ tray with items := tray.items + 1, weight := tray.weight + versionWeight s r.version },
      by simp [countItem, stands], serial⟩
  | builder b bundle tray =>
    unfold BundleInTray at *
    rwa [show ({ s with bundles := b } : State).bundles.bundle = _ from bundle,
      show ({ s with bundles := b } : State).bundles.tray = _ from tray]
  | _ => exact hs.of_bundles rfl

/-! ### The moves that move no record -/

/-- From s to t no record has moved: queue, versions, print jobs and bundles stand, and at most the last cells have
gone. -/
structure Rests (s t : State) : Prop where
  intake : t.intake = s.intake
  versions : t.versions = s.versions
  printJobs : t.track.printJobs = s.track.printJobs
  bundles : t.bundles = s.bundles
  cells : t.track.cells <+: s.track.cells

theorem Rests.of_track {s t : State} (intake : t.intake = s.intake) (versions : t.versions = s.versions)
    (bundles : t.bundles = s.bundles) (track : t.track = s.track) : Rests s t :=
  ⟨intake, versions, by rw [track], bundles, by rw [track]⟩

/-- The part holds no record, cell, print job, bundle or tray. -/
structure Emptied (t : State) : Prop where
  intake : t.intake = Intake.reset
  printJobs : t.track.printJobs = 0
  bundles : t.bundles = BundleBuilder.reset
  cells : t.track.cells = []

theorem StationMove.rests {s t : State} (h : StationMove s t) : Rests s t := by
  have foot := h.restations
  refine ⟨by rw [foot], by rw [foot], by rw [foot], by rw [foot], ?_⟩
  cases h with
  | changed => rw [stationChanged_track]
  | motion => exact List.prefix_refl _
  | configured => rw [putCause_track]; exact List.take_prefix _ _
  | cleared n => rw [removeCause_track]; exact List.take_prefix _ _

theorem resetJob_emptied (s : State) : Emptied (resetJob s) := by
  rw [resetJob_eq]
  exact ⟨rfl, rfl, rfl, rfl⟩

/-- A move moves records, moves none, or is the job reset. -/
theorem Move.works_or_rests {s t : State} (h : Move staged s t) : WorkMove staged s t ∨ Rests s t ∨ Emptied t := by
  cases h with
  | work h => exact .inl h
  | jobReset => exact .inr (.inr (resetJob_emptied s))
  | aside h => exact .inr (.inl ⟨by rw [h], by rw [h], by rw [h], by rw [h], by rw [h]⟩)
  | reportSent =>
    exact .inr (.inl (.of_track (by rw [dropReport_eq]) (by rw [dropReport_eq]) (by rw [dropReport_eq]) (by rw [dropReport_eq])))
  | cause => exact .inr (.inl (.of_track (by simp) (by simp) (by simp) (by simp)))
  | line | estopReleased => exact .inr (.inl (.of_track rfl rfl rfl rfl))
  | fault | estop => exact .inr (.inl (.of_track (by simp) (by simp) (by simp) (by simp)))
  | station h => exact .inr (.inl h.rests)
  | step h => exact .inr (.inl (.of_track (by rw [h.foot]) (by rw [h.foot]) (by rw [h.foot]) (by rw [h.foot])))
  | phase h => exact .inr (.inl (.of_track (by rw [h.foot]) (by rw [h.foot]) (by rw [h.foot]) (by rw [h.foot])))
  | counters h => exact .inr (.inl (.of_track (by rw [h.tallies]) (by rw [h.tallies]) (by rw [h.tallies]) (by rw [h.tallies])))

/-- A property of records, cells and bundles is kept when the moves of records keep it, the others do, and it holds of
an emptied part. -/
theorem kept_of_works {inv : State → Prop} (work : ∀ {s t}, WorkMove True s t → inv s → inv t)
    (rest : ∀ {s t}, Rests s t → inv s → inv t) (empty : ∀ {t}, Emptied t → inv t) : Kept inv := by
  refine kept_of_turns (fun s _ hs => rest (s := s) (.of_track rfl rfl rfl rfl) hs) fun s t h hs => ?_
  cases h with
  | moves h =>
    refine keeps_of_moves (fun s t move => ?_) h hs
    rcases move.works_or_rests with works | rests | emptied
    · exact work works
    · exact rest rests
    · exact fun _ => empty emptied
  | queues _ h => exact rest ⟨by rw [h], by rw [h], by rw [h], by rw [h], by rw [h]⟩ hs
  | partReset h =>
    refine partReset_of_reset h (fun _ _ _ _ => empty ⟨rfl, rfl, rfl, rfl⟩) fun u hu => ?_
    exact rest (s := u) (.of_track (by simp) (by simp) (by simp) (by simp)) hu

theorem keeps_recordByContent : Kept RecordByContent := by
  refine kept_of_works WorkMove.recordByContent (fun h hs c member => hs c (h.cells.subset member)) fun h => ?_
  unfold RecordByContent
  rw [h.cells]
  simp

theorem keeps_freshCount : Kept fun s => freshCount s ≤ 256 := by
  refine kept_of_works WorkMove.freshCount (fun h hs => ?_) fun h => ?_
  · rw [freshCount_eq] at *
    rw [h.intake]
    exact (Nat.add_le_add_left h.cells.sublist.countP_le _).trans hs
  · rw [freshCount_eq, h.intake, h.cells]
    simp [Intake.reset]

theorem keeps_printJobs : Kept fun s => s.track.printJobs ≤ 2 :=
  kept_of_works WorkMove.printJobs (fun h hs => h.printJobs.trans_le hs) fun h => h.printJobs.trans_le (by omega)

theorem keeps_bundleInTray : Kept BundleInTray :=
  kept_of_works WorkMove.bundleInTray (fun h hs => hs.of_bundles h.bundles) fun h =>
    bundleInTray_of_none (congrArg (·.bundle) h.bundles)

/-- Settles O57: each of the four is kept by every move of records, and by the rest, which drop cells at most. -/
theorem recordsStayInPlace : Obligations.RecordsStayInPlace :=
  ⟨keeps_recordByContent, keeps_freshCount, keeps_printJobs, keeps_bundleInTray⟩

end Sys2Proof.Machine
end

section
/-! The step and the resets (O1 to O4): every command answers a next state and leaves the queue of commands alone, and
what a part reset leaves. -/

namespace Sys2Proof.Machine
open Relation (ReflTransGen)

/-- Settles O1. -/
theorem stepTakesFront : Obligations.StepTakesFront := by
  refine ⟨fun c rest s pending => ?_, fun s pending => ?_⟩ <;> (unfold step; rw [pending])

/-! ### Every command answers a next state (O2) -/

theorem whileInFrame_next (due : Bool) (f : State → State) (s : State) : ∃ t, whileInFrame due f s = .next t := by
  unfold whileInFrame
  split <;> exact ⟨_, rfl⟩

theorem endBusFrame_next (f : BusFrame → State → State) (s : State) : ∃ t, endBusFrame f s = .next t := by
  unfold endBusFrame
  split <;> exact ⟨_, rfl⟩

theorem statusRead_next (s : State) : ∃ t, execStatusRead s = .next t := by
  obtain ⟨u, read⟩ := serveRead_next (fun r => match r with | .statusRead => some answerStatusRead | _ => none) s
  exact ⟨_, congrArg nextFree read⟩

theorem rejects_next (s : State) : (∃ t, execReject s = .next t) ∧ ∃ t, execOverflow s = .next t := by
  refine ⟨?_, ?_⟩
  · unfold execReject
    split
    · split <;> exact ⟨_, rfl⟩
    · exact ⟨_, rfl⟩
  · unfold execOverflow
    split
    · split <;> exact ⟨_, rfl⟩
    · exact ⟨_, rfl⟩

theorem transmits_next (s : State) :
    (∃ t, execTransmitReply s = .next t) ∧ (∃ t, execTransmitNotice s = .next t) ∧ ∃ t, execTransmitReport s = .next t := by
  refine ⟨?_, ?_, ?_⟩
  · unfold execTransmitReply
    split <;> exact ⟨_, rfl⟩
  · unfold execTransmitNotice
    split <;> exact ⟨_, rfl⟩
  · unfold execTransmitReport
    split <;> exact ⟨_, rfl⟩

theorem sends_next (s : State) :
    (∃ t, execSendCommand s = .next t) ∧ (∃ t, execSendIdentityRequest s = .next t) ∧ ∃ t, execSendPoll s = .next t := by
  refine ⟨?_, ?_, ?_⟩
  · unfold execSendCommand
    split
    · split <;> exact ⟨_, rfl⟩
    · exact ⟨_, rfl⟩
  · unfold execSendIdentityRequest
    split
    · split <;> exact ⟨_, rfl⟩
    · exact ⟨_, rfl⟩
  · unfold execSendPoll
    split
    · split <;> exact ⟨_, rfl⟩
    · exact ⟨_, rfl⟩

theorem ite_next (due : Prop) [Decidable due] (s t : State) : ∃ u, (if due then (.next s : Next) else .next t) = .next u := by
  split <;> exact ⟨_, rfl⟩

theorem exec_next (c : Instr) (s : State) : ∃ t, exec c s = .next t := by
  cases c with
  | frameComplete | frameTruncated | frameCheckError | frameLengthError => exact whileInFrame_next _ _ s
  | reject => exact (rejects_next s).1
  | overflow => exact (rejects_next s).2
  | statusRead => exact statusRead_next s
  | cellRead | queueRead | stationRead | bundleRead | counterRead => exact serveRead_next _ s
  | transmitReply => exact (transmits_next s).1
  | transmitNotice => exact (transmits_next s).2.1
  | transmitReport => exact (transmits_next s).2.2
  | sendCommand => exact (sends_next s).1
  | sendIdentityRequest => exact (sends_next s).2.1
  | sendPoll => exact (sends_next s).2.2
  | goodAnswer | answerTimeout | answerCheckFail => exact endBusFrame_next _ s
  | chainWrap | windowEnd | homeMark | estop | driveStart | driveStop => exact ite_next _ _ _
  | partReset | pitchAdvance | estopRelease | homeRelease | frameStart | frameSent => exact ⟨_, rfl⟩
  | _ => exact serve_next _ s

/-! ### The queue of commands stays (O2) -/

theorem Turn.pending {s t : State} (h : Turn s t) : t.pending = s.pending := by
  cases h with
  | moves h =>
    obtain ⟨-, -, -, pending⟩ := h.queuesStay
    exact pending
  | queues _ h => rw [h]
  | partReset h =>
    obtain ⟨fresh, rfl, ⟨-, rfl⟩ | ⟨-, rfl⟩⟩ := partReset_cases h
    · rfl
    · exact handFault_pending _ _

theorem Acts.pending {s t : State} (h : Acts s t) : t.pending = s.pending := by
  induction h with
  | refl => rfl
  | tail _ act ih => exact act.turn.pending.trans ih

/-- Settles O2: each command answers a next state, and its acts leave the queue of commands. -/
theorem everyCommandCompletes : Obligations.EveryCommandCompletes := by
  intro c s
  obtain ⟨t, done⟩ := exec_next c s
  exact ⟨t, done, (exec_acts done).pending⟩

/-! ### The resets (O3, O4) -/

theorem stationAt_reset (n : SlotNo) : stationAt State.reset n = none := by
  simp [stationAt, State.reset]

theorem versions_reset (v : Fin 32) : State.reset.versions[v] = { definition := none, refCount := 0 } := by
  simp [State.reset]

theorem counters_reset (i : Fin 8) : State.reset.counters.all[i] = Counter.unconfigured := by
  simp [State.reset]

theorem feed_reset_empty (c : FeedCause) : State.reset.line.feed.has c = false := FeedSet.has_empty c

theorem notices_reset (i : Fin 33) : State.reset.link.notices[i].isSome = decide (i = 0) := by
  revert i
  decide

theorem settled_reset : Settled State.reset := by
  have cells : State.reset.track.cells = [] := rfl
  have queue : State.reset.intake.queue = [] := rfl
  have reports : State.reset.link.reports = [] := rfl
  refine ⟨?_, ?_, ?_, ?_, ?_, ?_, ?_, ?_, ?_, ?_⟩
  · simp [RecordByContent, cells]
  · simp [StationsPlaced, stationAt_reset]
  · simp [Working, cells, show State.reset.line.state = .idle from rfl]
  · simp [CellsPlaced, cells]
  · simp [cells]
  · simp [QueueOrdered, RemakesFirst, queue, cells]
  · simp [RecordsBounded, freshCount, remakeCount, heldRecords, withdrawnAhead, queue, cells, show State.reset.track.printJobs = 0 from rfl]
  · intro v
    rw [versions_reset]
    simp [queue, cells]
  · simp [BacklogCause, feed_reset_empty, reports]
  · simp [reportsToCome, cells, reports, show State.reset.bundles = BundleBuilder.reset from rfl, BundleBuilder.reset]

/-- Settles O3. -/
theorem resetLeaves : Obligations.ResetLeaves := by
  refine ⟨stationAt_reset, rfl, rfl, rfl, rfl, rfl, versions_reset, rfl, rfl, rfl, rfl, rfl, rfl, rfl, rfl, rfl, rfl, rfl, rfl,
    rfl, rfl, rfl, feed_reset_empty, rfl, fun i => ?_, rfl, rfl, rfl, rfl, rfl, rfl, rfl, rfl, notices_reset, rfl, ?_, ?_, ?_,
    ?_, ?_, ?_, ?_, ?_, ?_, settled_reset, ?_⟩
  · rw [counters_reset]
    exact ⟨rfl, rfl⟩
  · simp [EstopHalts, State.reset]
  · exact timersFollow_reset false false 0 []
  · simp [StepCause, feed_reset_empty, show State.reset.step.state = .notMonitored from rfl]
  · simp [PhaseCause, feed_reset_empty, show State.reset.phase.state = .off from rfl]
  · simp [StationCauses, feed_reset_empty, stationAt_reset]
  · intro i
    rw [counters_reset, feed_reset_empty]
    simp [Counter.unconfigured]
  · simp [LinkBounds, State.reset, HostLink.reset]
  · simp [BacklogCause, feed_reset_empty, show State.reset.link.reports = [] from rfl]
  · simp [TrackTags, stationAt_reset, show State.reset.track.cells = [] from rfl]
  · simp [BundleInTray, State.reset, BundleBuilder.reset]

/-- Settles O4: the fault ESTOP finds the line IDLE and the drive without an order. -/
theorem partResetRestarts : Obligations.PartResetRestarts := by
  intro s
  refine ⟨fun released => ?_, fun asserted => ?_⟩
  · change execPartReset s = _
    unfold execPartReset
    rw [released]
    rfl
  · change execPartReset s = _
    unfold execPartReset
    rw [asserted]
    rfl

end Sys2Proof.Machine
end

section
/-! The host link (O5, O6, O8 to O10): frame endings, checks, rejected entries, the transmitter's choice and what shared
announcements do. -/

namespace Sys2Proof.Machine

/-! ### Frames (R192, R193) -/

theorem whileInFrame_ends {s : State} (receiving : s.link.receiver = .inFrame) {due : Bool} (whole : due = true) (e : RxEntry) :
    whileInFrame due (endFrame e) s = .next (offered e s) := by
  unfold whileInFrame
  rw [if_pos ⟨receiving, whole⟩, endFrame_eq]

/-- Settles O5. -/
theorem framesBeginAndEnd : Obligations.FramesBeginAndEnd := by
  refine ⟨fun _ => rfl, fun _ => rfl, fun s receiving => ⟨?_, ?_, ?_, ?_, ?_⟩⟩
  · exact whileInFrame_ends receiving rfl _
  · exact fun n kind number long => whileInFrame_ends receiving (decide_eq_true long) _
  · exact fun hi lo kind number more part => whileInFrame_ends receiving part _
  · intro received part short
    have unread : truncatedEntry received = .rejected .truncated 0 0 := by
      unfold truncatedEntry
      split
      · simp only [List.length_cons] at short
        omega
      · rfl
    rw [← unread]
    exact whileInFrame_ends receiving part _
  · exact fun bytes complete => whileInFrame_ends receiving complete _

theorem splitCheck_append {content check : List Byte} (two : check.length = 2) :
    splitCheck (content ++ check) = (content, check) := by
  have size : (content ++ check).length - 2 = content.length := by
    rw [List.length_append]
    omega
  unfold splitCheck
  rw [size, List.take_left, List.drop_left]

theorem isRequestKind_iff (kind : Nat) : isRequestKind kind = true ↔ kind ∈ requestKinds := by
  by_cases small : kind < 38
  · have each : ∀ k : Fin 38, isRequestKind k.val = true ↔ k.val ∈ requestKinds := by decide
    exact each ⟨kind, small⟩
  · have low : ∀ k ∈ requestKinds, k < 38 := by decide
    have unsized : fieldSizes kind = none := by
      unfold fieldSizes
      split
      all_goals first
        | omega
        | rfl
    have other : isRequestKind kind = false := by
      unfold isRequestKind
      rw [unsized]
      simp
      omega
    simp only [other, Bool.false_eq_true, false_iff]
    exact fun member => small (low kind member)

/-- A frame whose check is two bytes, checked (R193). -/
theorem checkFrame_append (hi lo kind number : Byte) (body check : List Byte) (two : check.length = 2) :
    checkFrame (hi :: lo :: kind :: number :: body ++ check)
      = if crcBytes (hi :: lo :: kind :: number :: body) ≠ check then .rejected .check 0 0
        else if kind.toNat ∉ requestKinds then .rejected .kind kind number
        else (parseBody kind.toNat body).elim (.rejected .length kind number) (.request number) := by
  unfold checkFrame checkHolds
  rw [splitCheck_append two]
  have unchecked : (!(crcBytes (hi :: lo :: kind :: number :: body) == check)) = true
      ↔ crcBytes (hi :: lo :: kind :: number :: body) ≠ check := by simp
  have unknown : (!isRequestKind kind.toNat) = true ↔ kind.toNat ∉ requestKinds := by
    rw [← isRequestKind_iff]
    simp
  simp only [unchecked, unknown]
  cases parseBody kind.toNat body <;> rfl

/-- Settles O6. -/
theorem frameChecks : Obligations.FrameChecks := by
  intro hi lo kind number body check two content e
  have checked : e = _ := checkFrame_append hi lo kind number body check two
  rw [checked]
  refine ⟨fun bad => if_pos bad, fun good unknown => ?_, fun good known unread => ?_, fun r good known read => ?_⟩
  · rw [if_neg (not_not.mpr good), if_pos unknown]
  · rw [if_neg (not_not.mpr good), if_neg (not_not.mpr known), unread]
    rfl
  · rw [if_neg (not_not.mpr good), if_neg (not_not.mpr known), read]
    rfl

/-! ### Rejected and overflowed frames (R194) -/

theorem replyRoom_eq (s : State) : replyRoom s = decide (s.link.replies.length < 2) := rfl

/-- Settles O8. -/
theorem rejectsAnswered : Obligations.RejectsAnswered := by
  refine ⟨fun s cause kind number rest head room => ?_, fun s number rest empty head room => ?_, fun s full => ⟨?_, ?_⟩⟩
  · change execReject s = _
    unfold execReject
    rw [head]
    dsimp only
    rw [replyRoom_eq, if_pos (decide_eq_true room)]
    simp [queueReply, dropHead, head, rejectReply]
  · change execOverflow s = _
    unfold execOverflow
    rw [empty, head]
    dsimp only
    rw [replyRoom_eq, if_pos (decide_eq_true room)]
    rfl
  · change execReject s = _
    unfold execReject
    split
    · rw [replyRoom_eq, if_neg (by simpa using full.not_gt)]
    · rfl
  · change execOverflow s = _
    unfold execOverflow
    split
    · rw [replyRoom_eq, if_neg (by simpa using full.not_gt)]
    · rfl

/-! ### The feed suppression set (R169) -/

theorem addCause_present {c : FeedCause} {s : State} (present : s.line.feed.has c = true) : addCause c s = s := by
  unfold addCause
  rw [if_pos present]

theorem addCause_absent {c : FeedCause} {s : State} (absent : s.line.feed.has c = false) :
    addCause c s = raise (.feed (s.line.feed.put c true)) { s with line := { s.line with feed := s.line.feed.put c true } } := by
  unfold addCause
  rw [if_neg (by simp [absent])]
  rfl

theorem removeCause_absent {c : FeedCause} {s : State} (absent : s.line.feed.has c = false) : removeCause c s = s := by
  unfold removeCause
  rw [if_neg (by simp [absent])]

theorem removeCause_present {c : FeedCause} {s : State} (present : s.line.feed.has c = true) :
    removeCause c s = raise (.feed (s.line.feed.put c false)) { s with line := { s.line with feed := s.line.feed.put c false } } := by
  unfold removeCause
  rw [if_pos present]
  rfl

/-! ### The transmitter (R195 to R197) -/

/-- A younger notice, or none, has been found so far. -/
def Younger (p : PendingNotice) (best : Option (Fin 33 × PendingNotice)) : Prop := ∀ b, best = some b → p.age < b.2.age

theorem olderOf_younger {s : State} {p : PendingNotice} {best : Option (Fin 33 × PendingNotice)} {j : Fin 33}
    (young : Younger p best) (here : ∀ q, s.link.notices[j] = some q → p.age < q.age) : Younger p (olderOf s best j) := by
  unfold olderOf
  split
  next b q there =>
    split
    · rintro _ ⟨⟩
      exact here q there
    · rintro _ ⟨⟩
      exact young b rfl
  next q there =>
    rintro _ ⟨⟩
    exact here q there
  next => exact young

theorem foldl_olderOf_younger {s : State} {p : PendingNotice} (l : List (Fin 33)) {best : Option (Fin 33 × PendingNotice)}
    (young : Younger p best) (here : ∀ j ∈ l, ∀ q, s.link.notices[j] = some q → p.age < q.age) :
    Younger p (l.foldl (olderOf s) best) := by
  induction l generalizing best with
  | nil => exact young
  | cons j l ih =>
    exact ih (olderOf_younger young (here j List.mem_cons_self)) fun k member => here k (List.mem_cons_of_mem _ member)

theorem foldl_olderOf_oldest {s : State} {i : Fin 33} {p : PendingNotice} (l : List (Fin 33))
    (here : ∀ j ∈ l, ∀ q, s.link.notices[j] = some q → p.age ≤ q.age) :
    l.foldl (olderOf s) (some (i, p)) = some (i, p) := by
  induction l with
  | nil => rfl
  | cons j l ih =>
    have same : olderOf s (some (i, p)) j = some (i, p) := by
      unfold olderOf
      cases there : s.link.notices[j] with
      | none => rfl
      | some q =>
        have := here j List.mem_cons_self q there
        dsimp only
        rw [if_neg (by omega)]
    rw [List.foldl_cons, same]
    exact ih fun k member => here k (List.mem_cons_of_mem _ member)

theorem olderOf_takes {s : State} {i : Fin 33} {p : PendingNotice} {best : Option (Fin 33 × PendingNotice)}
    (young : Younger p best) (here : s.link.notices[i] = some p) : olderOf s best i = some (i, p) := by
  unfold olderOf
  rw [here]
  cases best with
  | none => rfl
  | some b =>
    dsimp only
    rw [if_pos (young b rfl)]

/-- The oldest notice is the one that no other precedes by age and then by slot (R196). -/
theorem oldestNotice_eq {s : State} {i : Fin 33} {p : PendingNotice} (here : s.link.notices[i] = some p)
    (oldest : ∀ (j : Fin 33) (q : PendingNotice), s.link.notices[j] = some q → p.age < q.age ∨ (p.age = q.age ∧ i ≤ j)) :
    oldestNotice s = some (i, p) := by
  obtain ⟨before, after, all⟩ := List.append_of_mem (List.mem_finRange i)
  have rising := List.pairwise_lt_finRange 33
  unfold oldestNotice
  rw [all] at rising ⊢
  obtain ⟨-, -, low⟩ := List.pairwise_append.mp rising
  rw [List.foldl_append, List.foldl_cons]
  have young : Younger p (before.foldl (olderOf s) none) := by
    refine foldl_olderOf_younger before (fun b none => by cases none) fun j member q there => ?_
    have less : j < i := low j member i List.mem_cons_self
    rcases oldest j q there with younger | ⟨-, behind⟩
    · exact younger
    · omega
  rw [olderOf_takes young here]
  refine foldl_olderOf_oldest after fun j _ q there => ?_
  rcases oldest j q there with younger | ⟨same, -⟩
  · exact younger.le
  · exact same.le

theorem execTransmitNotice_of_none {s : State} (none : oldestNotice s = none) : execTransmitNotice s = .next s := by
  unfold execTransmitNotice
  rw [none]
  split
  next h => cases h
  next => rfl

/-- The transmitter and the suppression set do not read each other. -/
theorem transmit_removeCause (frame : List Byte) (c : FeedCause) (s : State) :
    transmit frame (removeCause c s) = removeCause c (transmit frame s) := by
  by_cases present : s.line.feed.has c = true
  · rw [removeCause_present present, removeCause_present (s := transmit frame s) present]
    rfl
  · have absent := Bool.eq_false_of_not_eq_true present
    rw [removeCause_absent absent, removeCause_absent (s := transmit frame s) absent]

/-- Settles O9. -/
theorem transmitterOrder : Obligations.TransmitterOrder := by
  refine ⟨fun s r rest free replies => ?_, fun s i p free replies here oldest => ?_, fun s r rest free replies none reports => ?_,
    fun s => ⟨fun busy => ⟨?_, ?_, ?_⟩, fun waits => ⟨?_, ?_⟩, fun pending => ?_, fun empty => ?_, fun empty => ?_, fun empty => ?_⟩⟩
  · change execTransmitReply s = _
    unfold execTransmitReply
    rw [free, replies]
    rfl
  · change execTransmitNotice s = _
    unfold execTransmitNotice
    rw [free, replies, oldestNotice_eq here oldest]
    by_cases line : i = 0
    · simp [transmit, takeNotice, line]
    · simp [transmit, takeNotice, line]
  · have sends : exec .transmitReport s = .next (transmit r.frame (dropReport rest s)) := by
      change execTransmitReport s = _
      unfold execTransmitReport
      rw [free, replies, oldestNotice_eq_none none, reports]
    refine ⟨fun other => ?_, fun low => ?_⟩
    · rw [sends]
      unfold dropReport
      rw [if_neg other]
      rfl
    · rw [sends]
      unfold dropReport
      rw [if_pos low]
      exact congrArg Host.Outcome.next (transmit_removeCause r.frame .backlog _)
  · change execTransmitReply s = _
    unfold execTransmitReply
    split
    next free _ => exact absurd free busy
    next => rfl
  · change execTransmitNotice s = _
    unfold execTransmitNotice
    split
    next free _ _ => exact absurd free busy
    next => rfl
  · change execTransmitReport s = _
    unfold execTransmitReport
    split
    next free _ _ _ => exact absurd free busy
    next => rfl
  · change execTransmitNotice s = _
    unfold execTransmitNotice
    split
    next empty _ => exact absurd empty waits
    next => rfl
  · change execTransmitReport s = _
    unfold execTransmitReport
    split
    next empty _ _ => exact absurd empty waits
    next => rfl
  · change execTransmitReport s = _
    unfold execTransmitReport
    split
    next none _ =>
      have found := oldestNotice_isSome pending
      rw [none] at found
      cases found
    next => rfl
  · change execTransmitReply s = _
    unfold execTransmitReply
    rw [empty]
    split
    next h => cases h
    next => rfl
  · exact execTransmitNotice_of_none (oldestNotice_eq_none empty)
  · change execTransmitReport s = _
    unfold execTransmitReport
    rw [empty]
    split
    next h => cases h
    next => rfl

/-! ### Announcements (R169, R196, R197) -/

/-- Settles O10. -/
theorem announcementsShared : Obligations.AnnouncementsShared := by
  refine ⟨fun n s => ?_, ⟨FeedSet.has_put, fun c s => ⟨fun present => ⟨addCause_present present, removeCause_present present⟩,
    fun absent => ⟨removeCause_absent absent, addCause_absent absent⟩⟩⟩, fun r s => ?_⟩
  · unfold raise PendingNotice.renew
    cases s.link.notices[n.slot] <;> rfl
  unfold queueReport
  by_cases full : s.link.reports.length = 63
  · simp [full]
  · simp [full]

end Sys2Proof.Machine
end

section
/-! The request frame round trip (O7): each field is read back from its bytes, so is each body, and the frame's length and
check are those of its content. -/

namespace Sys2Proof.Machine

/-! ### Numbers (12.7) -/

theorem natOf_nat1 {n : Nat} (small : n < 256) : natOf (nat1 n) = n := by
  simp [natOf, nat1]
  omega

theorem natOf_nat2 {n : Nat} (small : n < 65536) : natOf (nat2 n) = n := by
  simp [natOf, nat2]
  omega

theorem natOf_nat4 {n : Nat} (small : n < 2 ^ 32) : natOf (nat4 n) = n := by
  simp [natOf, nat4, nat2]
  omega

@[simp] theorem length_nat1 (n : Nat) : (nat1 n).length = 1 := rfl
@[simp] theorem length_nat2 (n : Nat) : (nat2 n).length = 2 := rfl
@[simp] theorem length_nat4 (n : Nat) : (nat4 n).length = 4 := rfl

/-! ### Fields (12.7) -/

theorem takeBytes_append {n : Nat} {front rest : List Byte} (size : front.length = n) :
    takeBytes n (front ++ rest) = some (front, rest) := by
  subst size
  simp [takeBytes]

theorem takeNat_append {n : Nat} {front rest : List Byte} (size : front.length = n) :
    takeNat n (front ++ rest) = some (natOf front, rest) := by
  unfold takeNat
  rw [takeBytes_append size]
  rfl

theorem fieldsOf_append {n : Nat} {sizes : List Nat} {front rest : List Byte} (size : front.length = n) :
    fieldsOf (n :: sizes) (front ++ rest) = (fieldsOf sizes rest).map (natOf front :: ·) := by
  conv_lhs => unfold fieldsOf
  rw [takeNat_append size]

theorem fieldsOf_nil : fieldsOf [] [] = some [] := rfl

theorem fieldsOf_one {n : Nat} {front : List Byte} (size : front.length = n) : fieldsOf [n] front = some [natOf front] := by
  have := fieldsOf_append (sizes := []) (rest := []) size
  rwa [List.append_nil, fieldsOf_nil] at this

/-! ### Texts, lists and records (12.7) -/

theorem takeText_append {text rest : List Byte} (short : text.length < 256) :
    takeText (textBytes text ++ rest) = some (text, rest) := by
  unfold takeText textBytes
  rw [List.append_assoc, takeNat_append (length_nat1 _), natOf_nat1 short]
  exact takeBytes_append rfl

theorem takeMany_append {α : Type} {entry : List Byte → Option (α × List Byte)} {layout : α → List Byte} (l : List α)
    (rest : List Byte) (each : ∀ a ∈ l, ∀ more, entry (layout a ++ more) = some (a, more)) :
    takeMany entry l.length (l.flatMap layout ++ rest) = some (l, rest) := by
  induction l with
  | nil => rfl
  | cons a l ih =>
    rw [List.flatMap_cons, List.length_cons, List.append_assoc]
    unfold takeMany
    rw [each a List.mem_cons_self]
    dsimp only
    rw [ih fun b member => each b (List.mem_cons_of_mem _ member)]
    rfl

/-- The sizes of a LOAD record's fields (12.7). -/
def LoadRecord.fits (r : LoadRecord) : Prop :=
  r.sequence < 2 ^ 32 ∧ r.version < 256 ∧ r.bundleKey < 65536 ∧ r.trayKey < 65536 ∧ r.lines.length < 256
    ∧ (∀ l ∈ r.lines, l.length < 256) ∧ r.keyline.length < 256

theorem takeRecord_append {r : LoadRecord} (fits : r.fits) (rest : List Byte) :
    takeRecord (r.bytes ++ rest) = some (r, rest) := by
  obtain ⟨sequence, version, bundleKey, trayKey, count, lines, keyline⟩ := fits
  have laid : r.bytes ++ rest = (nat4 r.sequence ++ nat1 r.version ++ nat2 r.bundleKey ++ nat2 r.trayKey)
      ++ (nat1 r.lines.length ++ (r.lines.flatMap textBytes ++ (textBytes r.keyline ++ rest))) := by
    simp [LoadRecord.bytes, listed]
  have head : (nat4 r.sequence ++ nat1 r.version ++ nat2 r.bundleKey ++ nat2 r.trayKey).length = 9 := rfl
  unfold takeRecord
  rw [laid, takeBytes_append head, Option.bind_some, takeNat_append (length_nat1 _), Option.bind_some, natOf_nat1 count,
    takeMany_append r.lines _ fun l member more => takeText_append (lines l member), Option.bind_some, takeText_append keyline]
  have fields : natOf (nat4 r.sequence) = r.sequence ∧ natOf (nat1 r.version) = r.version
      ∧ natOf (nat2 r.bundleKey) = r.bundleKey ∧ natOf (nat2 r.trayKey) = r.trayKey :=
    ⟨natOf_nat4 sequence, natOf_nat1 version, natOf_nat2 bundleKey, natOf_nat2 trayKey⟩
  obtain ⟨a, b, c, d⟩ := fields
  refine congrArg some (Prod.ext ?_ rfl)
  calc _ = LoadRecord.mk (natOf (nat4 r.sequence)) (natOf (nat1 r.version)) (natOf (nat2 r.bundleKey)) (natOf (nat2 r.trayKey))
          r.lines r.keyline := rfl
    _ = r := by rw [a, b, c, d]

/-! ### Bodies (12.7) -/

theorem loadOf_body {records : List LoadRecord} (few : records.length < 256) (fits : ∀ r ∈ records, r.fits) :
    loadOf (Request.load records).body = some (.load records) := by
  have taken := takeMany_append records [] fun r member more => takeRecord_append (fits r member) more
  rw [List.append_nil] at taken
  unfold loadOf Request.body listed
  rw [takeNat_append (length_nat1 _), Option.bind_some, natOf_nat1 few, taken]
  rfl

theorem slots_read {inserts : List Nat} (small : ∀ n ∈ inserts, n < 256) :
    (inserts.flatMap nat1).map (·.toNat) = inserts := by
  induction inserts with
  | nil => rfl
  | cons n rest ih =>
    have one : n < 256 := small n List.mem_cons_self
    rw [List.flatMap_cons, List.map_append, ih fun m member => small m (List.mem_cons_of_mem _ member)]
    simp [nat1, one]

theorem versionSetOf_body {version weight lineCount : Nat} {inserts : List Nat} (v : version < 256) (few : inserts.length < 256)
    (small : ∀ n ∈ inserts, n < 256) (w : weight < 65536) (c : lineCount < 256) :
    versionSetOf (Request.versionSet version inserts weight lineCount).body
      = some (.versionSet version inserts weight lineCount) := by
  have size : (inserts.flatMap nat1).length = inserts.length := by simp [nat1]
  have body : (Request.versionSet version inserts weight lineCount).body
      = BitVec.ofNat 8 version :: BitVec.ofNat 8 inserts.length :: (inserts.flatMap nat1 ++ (nat2 weight ++ nat1 lineCount)) := by
    simp [Request.body, listed, nat1]
  have count : (BitVec.ofNat 8 inserts.length).toNat = inserts.length := by
    rw [BitVec.toNat_ofNat]
    omega
  have first : (BitVec.ofNat 8 version).toNat = version := by
    rw [BitVec.toNat_ofNat]
    omega
  have tail : (nat2 weight ++ nat1 lineCount).take 2 = nat2 weight ∧ (nat2 weight ++ nat1 lineCount).drop 2 = nat1 lineCount :=
    ⟨rfl, rfl⟩
  unfold versionSetOf
  rw [body]
  dsimp only
  rw [count, first, if_pos (by simp [size]), List.take_left' size, List.drop_left' size, tail.1, tail.2, slots_read small,
    natOf_nat2 w, natOf_nat1 c]

/-- A body of fixed fields is read when its fields are. -/
theorem parseBody_fields {r : Request} {sizes fields : List Nat} (kind : r.kind ≠ 1 ∧ r.kind ≠ 3)
    (known : fieldSizes r.kind = some sizes) (read : fieldsOf sizes r.body = some fields)
    (request : requestOf r.kind fields = some r) : parseBody r.kind r.body = some r := by
  obtain ⟨one, three⟩ := kind
  unfold parseBody
  split
  · contradiction
  · contradiction
  · rw [known, Option.bind_some, read, Option.bind_some, request]

theorem parseBody_one {r : Request} {n a : Nat} {front : List Byte} (kind : r.kind ≠ 1 ∧ r.kind ≠ 3)
    (known : fieldSizes r.kind = some [n]) (body : r.body = front) (size : front.length = n) (value : natOf front = a)
    (request : requestOf r.kind [a] = some r) : parseBody r.kind r.body = some r :=
  parseBody_fields kind known (by rw [body, fieldsOf_one size, value]) request

theorem parseBody_two {r : Request} {n m a b : Nat} {front back : List Byte} (kind : r.kind ≠ 1 ∧ r.kind ≠ 3)
    (known : fieldSizes r.kind = some [n, m]) (body : r.body = front ++ back) (sizes : front.length = n ∧ back.length = m)
    (values : natOf front = a ∧ natOf back = b) (request : requestOf r.kind [a, b] = some r) :
    parseBody r.kind r.body = some r := by
  obtain ⟨first, second⟩ := sizes
  obtain ⟨left, right⟩ := values
  refine parseBody_fields kind known ?_ request
  rw [body, fieldsOf_append first, fieldsOf_one second, left, right]
  rfl

theorem parseBody_stationSet {a b c d e f : Nat} (fits : (Request.stationSet a b c d e f).fits) :
    parseBody 0x05 (Request.stationSet a b c d e f).body = some (.stationSet a b c d e f) := by
  obtain ⟨ha, hb, hc, hd, he, hf⟩ := fits
  refine parseBody_fields (r := .stationSet a b c d e f) (sizes := [1, 1, 1, 1, 1, 1]) (fields := [a, b, c, d, e, f])
    ⟨by simp [Request.kind], by simp [Request.kind]⟩ rfl ?_ rfl
  change fieldsOf _ (nat1 a ++ (nat1 b ++ (nat1 c ++ (nat1 d ++ (nat1 e ++ (nat1 f ++ [])))))) = _
  simp only [fieldsOf_append (length_nat1 _), fieldsOf_nil, natOf_nat1 ha, natOf_nat1 hb, natOf_nat1 hc, natOf_nat1 hd,
    natOf_nat1 he, natOf_nat1 hf, Option.map_some]

theorem parseBody_counterSet {a b c d e f g : Nat} (fits : (Request.counterSet a b c d e f g).fits) :
    parseBody 0x15 (Request.counterSet a b c d e f g).body = some (.counterSet a b c d e f g) := by
  obtain ⟨ha, hb, hc, hd, he, hf, hg⟩ := fits
  refine parseBody_fields (r := .counterSet a b c d e f g) (sizes := [1, 1, 1, 2, 4, 1, 1]) (fields := [a, b, c, d, e, f, g])
    ⟨by simp [Request.kind], by simp [Request.kind]⟩ rfl ?_ rfl
  change fieldsOf _ (nat1 a ++ (nat1 b ++ (nat1 c ++ (nat2 d ++ (nat4 e ++ (nat1 f ++ (nat1 g ++ []))))))) = _
  simp only [fieldsOf_append (length_nat1 _), fieldsOf_append (length_nat2 _), fieldsOf_append (length_nat4 _), fieldsOf_nil,
    natOf_nat1 ha, natOf_nat1 hb, natOf_nat1 hc, natOf_nat2 hd, natOf_nat4 he, natOf_nat1 hf, natOf_nat1 hg, Option.map_some]

/-- The body of every request that fits is read as that request (R193, 12.7). -/
theorem parseBody_body {r : Request} (fits : r.fits) : parseBody r.kind r.body = some r := by
  cases r with
  | load records =>
    obtain ⟨few, each⟩ := fits
    exact loadOf_body few each
  | versionSet version inserts weight lineCount =>
    obtain ⟨v, few, small, w, c⟩ := fits
    exact versionSetOf_body v few small w c
  | stationSet => exact parseBody_stationSet fits
  | counterSet => exact parseBody_counterSet fits
  | purge => exact parseBody_one (by simp [Request.kind]) rfl rfl (length_nat4 _) (natOf_nat4 fits) rfl
  | queueRead => exact parseBody_one (by simp [Request.kind]) rfl rfl (length_nat2 _) (natOf_nat2 fits) rfl
  | paramSet | stopPointSet =>
    exact parseBody_two (by simp [Request.kind]) rfl rfl ⟨length_nat1 _, length_nat4 _⟩ ⟨natOf_nat1 fits.1, natOf_nat4 fits.2⟩ rfl
  | versionClear | stationClear | stationRestore | lineDrain | bundleClose | counterClear | cellRead | stationRead =>
    exact parseBody_one (by simp [Request.kind]) rfl rfl (length_nat1 _) (natOf_nat1 fits) rfl
  | _ => exact parseBody_fields (by simp [Request.kind]) rfl fieldsOf_nil rfl

/-! ### Frames (12.1) -/

theorem kind_known (r : Request) : (BitVec.ofNat 8 r.kind).toNat = r.kind ∧ r.kind ∈ requestKinds := by
  cases r <;> exact ⟨rfl, by simp [Request.kind, requestKinds]⟩

/-- A frame after its start character: the length, the kind, the number, the body and the check (12.1). -/
theorem hostFrame_tail (kind number : Byte) (body : List Byte) :
    (hostFrame kind number body).tail
      = BitVec.ofNat 8 (body.length / 256) :: BitVec.ofNat 8 body.length :: kind :: number :: body
        ++ crcBytes (frameContent kind number body) := by
  simp [hostFrame, frameContent, nat2]

theorem wholeFrame_hostFrame {kind number : Byte} {body : List Byte} (short : body.length ≤ 2400) :
    wholeFrame (hostFrame kind number body).tail = true := by
  have announced : announcedLength (hostFrame kind number body).tail = some body.length := by
    rw [hostFrame_tail]
    simp [announcedLength]
    omega
  have size : (hostFrame kind number body).tail.length = body.length + 6 := by
    rw [hostFrame_tail]
    simp [crcBytes]
  unfold wholeFrame
  rw [announced]
  simp [short, size]

/-- Settles O7. -/
theorem requestFrameRoundTrip : Obligations.RequestFrameRoundTrip := by
  intro r number fits short
  refine ⟨wholeFrame_hostFrame short, ?_⟩
  obtain ⟨kind, known⟩ := kind_known r
  rw [hostFrame_tail, checkFrame_append _ _ _ _ _ _ (by simp [crcBytes]), kind, if_neg, if_neg (not_not.mpr known),
    parseBody_body fits]
  · rfl
  · simp [frameContent, nat2]

end Sys2Proof.Machine
end

section
/-! LOAD (O11, O12): each case of R23 decided by the model is the case the rule states, and an accepted LOAD's records join
the queue one after the other. -/

namespace Sys2Proof.Machine

/-! ### Sequences (R23, cases 2 and 3) -/

theorem sequencesRise_iff (before : Nat) (records : List LoadRecord) :
    sequencesRise before records = true
      ↔ (∀ r ∈ records, before < r.sequence) ∧ records.Pairwise (·.sequence < ·.sequence) := by
  induction records generalizing before with
  | nil => simp [sequencesRise]
  | cons r rest ih =>
    simp only [sequencesRise, Bool.and_eq_true, decide_eq_true_eq, ih, List.mem_cons, forall_eq_or_imp, List.pairwise_cons]
    constructor
    · rintro ⟨first, above, rising⟩
      exact ⟨⟨first, fun x member => first.trans (above x member)⟩, above, rising⟩
    · rintro ⟨⟨first, -⟩, above, rising⟩
      exact ⟨first, above, rising⟩

/-! ### Versions and fields (R23, cases 4 and 5; R24) -/

theorem versionOf_eq_some {k : Nat} {v : Fin 32} : versionOf k = some v ↔ k = v.val := by
  unfold versionOf
  split
  · rw [Option.some.injEq, Fin.ext_iff]
  next out =>
    simp only [reduceCtorEq, false_iff]
    rintro rfl
    exact out v.isLt

theorem definedVersion_eq_some {s : State} {k : Nat} {d : VersionDef} :
    definedVersion s k = some d ↔ ∃ v : Fin 32, k = v.val ∧ s.versions[v].definition = some d := by
  unfold definedVersion
  rw [Option.bind_eq_some_iff]
  exact exists_congr fun v => by rw [versionOf_eq_some]

theorem versionAllowed_iff (s : State) (r : LoadRecord) : VersionAllowed s r ↔ (definedVersion s r.version).isSome = true := by
  rw [Option.isSome_iff_exists]
  unfold VersionAllowed
  constructor
  · rintro ⟨v, number, defined⟩
    obtain ⟨d, isDefined⟩ := Option.isSome_iff_exists.mp defined
    exact ⟨d, definedVersion_eq_some.mpr ⟨v, number, isDefined⟩⟩
  · rintro ⟨d, defined⟩
    obtain ⟨v, number, isDefined⟩ := definedVersion_eq_some.mp defined
    exact ⟨v, number, by rw [isDefined]; rfl⟩

/-- The lines that the version of a record has room for; 0 for an UNDEFINED version. -/
def lineRoom (s : State) (r : LoadRecord) : Nat := ((definedVersion s r.version).map (·.lineCount)).getD 0

theorem printable_iff (b : Byte) : printable b = true ↔ 32 ≤ b.toNat ∧ b.toNat ≤ 126 := by simp [printable]

theorem badLine_iff (l : List Byte) : badLine l = true ↔ 40 < l.length ∨ ∃ b ∈ l, b.toNat < 32 ∨ 126 < b.toNat := by
  simp only [badLine, Bool.or_eq_true, decide_eq_true_eq, Bool.not_eq_true', List.all_eq_false, printable_iff]
  refine or_congr_right (exists_congr fun b => and_congr_right fun _ => ?_)
  omega

theorem keyline_unprintable_iff (l : List Byte) :
    l.all printable = false ↔ ∃ b ∈ l, b.toNat < 32 ∨ 126 < b.toNat := by
  simp only [List.all_eq_false, printable_iff]
  refine exists_congr fun b => and_congr_right fun _ => ?_
  omega

/-- A field of a record of a DEFINED version fails R24; the fields are numbered as in the record table. -/
def FieldFails (s : State) (r : LoadRecord) (f : Nat) : Prop :=
  (f = 3 ∧ r.bundleKey = 0) ∨ (f = 4 ∧ r.trayKey = 0)
    ∨ (f = 5 ∧ (r.lines = [] ∨ 6 < r.lines.length ∨ lineRoom s r < r.lines.length))
    ∨ (f = 6 ∧ ∃ l ∈ r.lines, 40 < l.length ∨ ∃ b ∈ l, b.toNat < 32 ∨ 126 < b.toNat)
    ∨ (f = 7 ∧ (24 < r.keyline.length ∨ ∃ b ∈ r.keyline, b.toNat < 32 ∨ 126 < b.toNat))

theorem badField_eq (s : State) (r : LoadRecord) :
    badField s r = if r.bundleKey = 0 then some 3 else if r.trayKey = 0 then some 4
      else if r.lines = [] ∨ 6 < r.lines.length ∨ lineRoom s r < r.lines.length then some 5
      else if ∃ l ∈ r.lines, 40 < l.length ∨ ∃ b ∈ l, b.toNat < 32 ∨ 126 < b.toNat then some 6
      else if 24 < r.keyline.length ∨ ∃ b ∈ r.keyline, b.toNat < 32 ∨ 126 < b.toNat then some 7 else none := by
  have empty : r.lines.length < 1 ↔ r.lines = [] := by rw [Nat.lt_one_iff, List.length_eq_zero_iff]
  unfold badField
  simp only [empty, List.any_eq_true, badLine_iff, keyline_unprintable_iff]
  rfl

/-- The model names the first field that fails (R24). -/
theorem badField_first {s : State} {r : LoadRecord} {f : Nat} (fails : FieldFails s r f) (first : ∀ e, e < f → ¬ FieldFails s r e) :
    badField s r = some f := by
  have no3 : 3 < f → ¬ r.bundleKey = 0 := fun less bad => first 3 less (.inl ⟨rfl, bad⟩)
  have no4 : 4 < f → ¬ r.trayKey = 0 := fun less bad => first 4 less (.inr (.inl ⟨rfl, bad⟩))
  have no5 : 5 < f → ¬ (r.lines = [] ∨ 6 < r.lines.length ∨ lineRoom s r < r.lines.length) :=
    fun less bad => first 5 less (.inr (.inr (.inl ⟨rfl, bad⟩)))
  have no6 : 6 < f → ¬ ∃ l ∈ r.lines, 40 < l.length ∨ ∃ b ∈ l, b.toNat < 32 ∨ 126 < b.toNat :=
    fun less bad => first 6 less (.inr (.inr (.inr (.inl ⟨rfl, bad⟩))))
  rw [badField_eq]
  rcases fails with ⟨rfl, bad⟩ | ⟨rfl, bad⟩ | ⟨rfl, bad⟩ | ⟨rfl, bad⟩ | ⟨rfl, bad⟩
  · rw [if_pos bad]
  · rw [if_neg (no3 (by omega)), if_pos bad]
  · rw [if_neg (no3 (by omega)), if_neg (no4 (by omega)), if_pos bad]
  · rw [if_neg (no3 (by omega)), if_neg (no4 (by omega)), if_neg (no5 (by omega)), if_pos bad]
  · rw [if_neg (no3 (by omega)), if_neg (no4 (by omega)), if_neg (no5 (by omega)), if_neg (no6 (by omega)), if_pos bad]

theorem badField_eq_none {s : State} {r : LoadRecord} : badField s r = none ↔ ∀ f, ¬ FieldFails s r f := by
  constructor
  · intro sound f fails
    have least : ∃ e, FieldFails s r e ∧ ∀ d, d < e → ¬ FieldFails s r d := by
      classical
      exact ⟨Nat.find ⟨f, fails⟩, Nat.find_spec ⟨f, fails⟩, fun d less => Nat.find_min ⟨f, fails⟩ less⟩
    obtain ⟨e, here, first⟩ := least
    rw [badField_first here first] at sound
    cases sound
  · intro sound
    rw [badField_eq, if_neg fun bad => sound 3 (.inl ⟨rfl, bad⟩), if_neg fun bad => sound 4 (.inr (.inl ⟨rfl, bad⟩)),
      if_neg fun bad => sound 5 (.inr (.inr (.inl ⟨rfl, bad⟩))), if_neg fun bad => sound 6 (.inr (.inr (.inr (.inl ⟨rfl, bad⟩)))),
      if_neg fun bad => sound 7 (.inr (.inr (.inr (.inr ⟨rfl, bad⟩))))]

theorem fieldsAllowed_iff (s : State) (r : LoadRecord) : FieldsAllowed s r ↔ badField s r = none := by
  have room : (∃ (v : Fin 32) (d : VersionDef), r.version = v.val ∧ s.versions[v].definition = some d ∧ r.lines.length ≤ d.lineCount)
      ↔ ∃ d, definedVersion s r.version = some d ∧ r.lines.length ≤ d.lineCount := by
    simp only [definedVersion_eq_some]
    exact ⟨fun ⟨v, d, number, defined, fits⟩ => ⟨d, ⟨v, number, defined⟩, fits⟩,
      fun ⟨d, ⟨v, number, defined⟩, fits⟩ => ⟨v, d, number, defined, fits⟩⟩
  have lines : (1 ≤ r.lines.length ∧ r.lines.length ≤ 6
      ∧ ∃ d, definedVersion s r.version = some d ∧ r.lines.length ≤ d.lineCount)
      ↔ ¬ (r.lines = [] ∨ 6 < r.lines.length ∨ lineRoom s r < r.lines.length) := by
    unfold lineRoom
    rw [← List.length_eq_zero_iff]
    cases definedVersion s r.version with
    | none =>
      refine ⟨fun ⟨_, _, _, absent, _⟩ => (by cases absent), fun sound => ?_⟩
      rw [Option.map_none, Option.getD_none] at sound
      omega
    | some d =>
      rw [Option.map_some, Option.getD_some]
      refine ⟨?_, fun sound => ⟨by omega, by omega, d, rfl, by omega⟩⟩
      rintro ⟨some', most, _, ⟨⟩, fits⟩
      omega
  have texts (l : List Byte) (most : Nat) : (l.length ≤ most ∧ ∀ b ∈ l, 32 ≤ b.toNat ∧ b.toNat ≤ 126)
      ↔ ¬ (most < l.length ∨ ∃ b ∈ l, b.toNat < 32 ∨ 126 < b.toNat) := by
    simp [not_or, not_lt]
  rw [badField_eq_none]
  unfold FieldsAllowed FieldFails
  rw [room]
  constructor
  · rintro ⟨bundleKey, trayKey, some', most, version, each, keyline⟩ f
    rintro (⟨-, bad⟩ | ⟨-, bad⟩ | ⟨-, bad⟩ | ⟨-, l, member, bad⟩ | ⟨-, bad⟩)
    · exact bundleKey bad
    · exact trayKey bad
    · exact lines.mp ⟨some', most, version⟩ bad
    · exact (texts l 40).mp (each l member) bad
    · exact (texts r.keyline 24).mp keyline bad
  · intro sound
    obtain ⟨some', most, version⟩ := lines.mpr fun bad => sound 5 (.inr (.inr (.inl ⟨rfl, bad⟩)))
    refine ⟨fun bad => sound 3 (.inl ⟨rfl, bad⟩), fun bad => sound 4 (.inr (.inl ⟨rfl, bad⟩)), some', most, version,
      fun l member => (texts l 40).mpr fun bad => sound 6 (.inr (.inr (.inr (.inl ⟨rfl, l, member, bad⟩)))), ?_⟩
    exact (texts r.keyline 24).mpr fun bad => sound 7 (.inr (.inr (.inr (.inr ⟨rfl, bad⟩))))

/-! ### The first failing record -/

theorem firstFailing_eq_none {bad : LoadRecord → Bool} {records : List LoadRecord} :
    firstFailing bad records = none ↔ ∀ r ∈ records, bad r = false := by
  simp [firstFailing]

theorem firstFailing_eq_some {bad : LoadRecord → Bool} {records : List LoadRecord} {k : Nat} {r : LoadRecord}
    (here : records[k]? = some r) (fails : bad r = true) (before : ∀ j q, j < k → records[j]? = some q → bad q = false) :
    firstFailing bad records = some (k + 1) := by
  obtain ⟨inside, value⟩ := List.getElem?_eq_some_iff.mp here
  have found : records.findIdx? bad = some k := by
    rw [List.findIdx?_eq_some_iff_getElem]
    refine ⟨inside, value ▸ fails, fun j less => ?_⟩
    rw [before j _ less (List.getElem?_eq_getElem (by omega))]
    simp
  unfold firstFailing
  rw [found]
  rfl

/-! ### Keys (R25) -/

/-- The keys of the record before record k: the last accepted record's before the first. -/
def keysBefore (last : Option (Nat × Nat)) (records : List LoadRecord) (k : Nat) : Option (Nat × Nat) :=
  if k = 0 then last else records[k - 1]?.map fun r => (r.bundleKey, r.trayKey)

/-- Record k has its predecessor's bundle key and another tray key (R25). -/
def ClashAt (last : Option (Nat × Nat)) (records : List LoadRecord) (k : Nat) : Prop :=
  ∃ r trayKey, records[k]? = some r ∧ keysBefore last records k = some (r.bundleKey, trayKey) ∧ trayKey ≠ r.trayKey

theorem clashAt_zero {last : Option (Nat × Nat)} {r : LoadRecord} {rest : List LoadRecord} :
    ClashAt last (r :: rest) 0 ↔ keysClash last r = true := by
  cases last with
  | none => simp [ClashAt, keysBefore, keysClash]
  | some keys =>
    obtain ⟨bundleKey, trayKey⟩ := keys
    simp [ClashAt, keysBefore, keysClash]

theorem clashAt_succ {last : Option (Nat × Nat)} {r : LoadRecord} {rest : List LoadRecord} {k : Nat} :
    ClashAt last (r :: rest) (k + 1) ↔ ClashAt (some (r.bundleKey, r.trayKey)) rest k := by
  have before : keysBefore last (r :: rest) (k + 1) = keysBefore (some (r.bundleKey, r.trayKey)) rest k := by
    unfold keysBefore
    cases k <;> simp
  unfold ClashAt
  rw [before]
  simp

theorem no_clash_cons {last : Option (Nat × Nat)} {r : LoadRecord} {rest : List LoadRecord} :
    (∀ k, ¬ ClashAt last (r :: rest) k)
      ↔ keysClash last r = false ∧ ∀ k, ¬ ClashAt (some (r.bundleKey, r.trayKey)) rest k := by
  rw [← Bool.not_eq_true, ← clashAt_zero (rest := rest)]
  refine ⟨fun none => ⟨none 0, fun k next => none (k + 1) (clashAt_succ.mpr next)⟩, fun ⟨first, later⟩ k => ?_⟩
  cases k with
  | zero => exact first
  | succ k => exact fun next => later k (clashAt_succ.mp next)

theorem no_clash_nil {last : Option (Nat × Nat)} (k : Nat) : ¬ ClashAt last [] k := by
  rintro ⟨r, -, none, -⟩
  simp at none

theorem firstClash_eq_none {last : Option (Nat × Nat)} {records : List LoadRecord} {n : Nat} :
    firstClash n last records = none ↔ ∀ k, ¬ ClashAt last records k := by
  induction records generalizing n last with
  | nil => exact iff_of_true rfl no_clash_nil
  | cons r rest ih =>
    rw [no_clash_cons]
    unfold firstClash
    by_cases clash : keysClash last r = true
    · simp [clash]
    · rw [if_neg clash, ih, Bool.eq_false_of_not_eq_true clash]
      simp

theorem firstClash_eq_some {last : Option (Nat × Nat)} {records : List LoadRecord} {n k : Nat} (here : ClashAt last records k)
    (first : ∀ j, j < k → ¬ ClashAt last records j) : firstClash n last records = some (n + k) := by
  induction records generalizing n k last with
  | nil => exact absurd here (no_clash_nil k)
  | cons r rest ih =>
    unfold firstClash
    cases k with
    | zero => rw [if_pos (clashAt_zero.mp here), Nat.add_zero]
    | succ k =>
      rw [if_neg fun clash => first 0 (by omega) (clashAt_zero.mpr clash),
        ih (clashAt_succ.mp here) fun j less next => first (j + 1) (by omega) (clashAt_succ.mpr next)]
      exact congrArg some (by omega)

/-- Neighbours with one bundle key have one tray key (R25). -/
def KeysConsistent (keys : List (Nat × Nat)) : Prop :=
  ∀ k a b, keys[k]? = some a → keys[k + 1]? = some b → a.1 = b.1 → a.2 = b.2

theorem keysConsistent_cons {a b : Nat × Nat} {keys : List (Nat × Nat)} :
    KeysConsistent (a :: b :: keys) ↔ (a.1 = b.1 → a.2 = b.2) ∧ KeysConsistent (b :: keys) := by
  refine ⟨fun all => ⟨all 0 a b rfl rfl, fun k => all (k + 1)⟩, fun ⟨first, later⟩ k => ?_⟩
  cases k with
  | zero =>
    rintro _ _ ⟨⟩ ⟨⟩
    exact first
  | succ k => exact later k

theorem keysConsistent_iff (last : Option (Nat × Nat)) (records : List LoadRecord) :
    KeysConsistent (last.toList ++ records.map fun r => (r.bundleKey, r.trayKey)) ↔ ∀ k, ¬ ClashAt last records k := by
  induction records generalizing last with
  | nil =>
    refine iff_of_true (fun k a b _ next => ?_) no_clash_nil
    cases last <;> simp at next
  | cons r rest ih =>
    have later := ih (some (r.bundleKey, r.trayKey))
    rw [Option.toList_some, List.singleton_append] at later
    rw [no_clash_cons, ← later, List.map_cons]
    cases last with
    | none => simp [keysClash]
    | some keys =>
      rw [Option.toList_some, List.singleton_append, keysConsistent_cons]
      simp [keysClash]

theorem keysAllowed_iff (s : State) (records : List LoadRecord) :
    KeysAllowed s records ↔ ∀ k, ¬ ClashAt s.intake.lastKeys records k := keysConsistent_iff _ _

/-! ### The refusal of a LOAD (R23) -/

theorem loadRefusal_count {s : State} {records : List LoadRecord} (count : ¬ CountAllowed records) :
    loadRefusal s records = some (Answer.refuse .field [0, 1]) := by
  have outside : records.length < 1 ∨ 8 < records.length := by
    unfold CountAllowed at count
    omega
  unfold loadRefusal
  rw [if_pos outside]
  rfl

theorem countAllowed_iff (records : List LoadRecord) : CountAllowed records ↔ ¬ (records.length < 1 ∨ 8 < records.length) := by
  unfold CountAllowed
  omega

theorem sequencesAllowed_iff (s : State) (records : List LoadRecord) :
    SequencesAllowed s records ↔ ¬ sequencesRise s.intake.lastSequence records = false := by
  rw [Bool.not_eq_false, sequencesRise_iff]
  rfl

theorem loadRefusal_order {s : State} {records : List LoadRecord} (count : CountAllowed records)
    (order : ¬ SequencesAllowed s records) : loadRefusal s records = some (Answer.refuse .order (nat4 s.intake.lastSequence)) := by
  rw [countAllowed_iff] at count
  rw [sequencesAllowed_iff, not_not] at order
  unfold loadRefusal
  rw [if_neg count, if_pos order]

theorem loadRefusal_version {s : State} {records : List LoadRecord} {k : Nat} {r : LoadRecord} (count : CountAllowed records)
    (order : SequencesAllowed s records) (here : records[k]? = some r)
    (before : ∀ j q, j < k → records[j]? = some q → VersionAllowed s q) (fails : ¬ VersionAllowed s r) :
    loadRefusal s records = some (Answer.refuse .version (nat1 (k + 1))) := by
  have first : firstFailing (fun r => (definedVersion s r.version).isNone) records = some (k + 1) := by
    refine firstFailing_eq_some here ?_ fun j q less there => ?_
    · rw [versionAllowed_iff] at fails
      simpa using fails
    · simpa using (versionAllowed_iff s q).mp (before j q less there)
  rw [countAllowed_iff] at count
  rw [sequencesAllowed_iff] at order
  unfold loadRefusal
  rw [if_neg count, if_neg order, first]

/-- With count, sequences and versions allowed, the fields decide, then the keys, then the room. -/
theorem loadRefusal_fields {s : State} {records : List LoadRecord} (count : CountAllowed records)
    (order : SequencesAllowed s records) (versions : ∀ r ∈ records, VersionAllowed s r) :
    loadRefusal s records = (firstBadField s records).elim
      ((firstClash 1 s.intake.lastKeys records).elim
        (if 256 < freshCount s + records.length then some (Answer.refuse .full (nat2 (freeRoom s))) else none)
        fun n => some (Answer.refuse .keys (nat1 n)))
      fun field => some (Answer.refuse .field (nat1 field.1 ++ nat1 field.2)) := by
  have none : firstFailing (fun r => (definedVersion s r.version).isNone) records = none := by
    refine firstFailing_eq_none.mpr fun r member => ?_
    simpa using (versionAllowed_iff s r).mp (versions r member)
  rw [countAllowed_iff] at count
  rw [sequencesAllowed_iff] at order
  unfold loadRefusal
  rw [if_neg count, if_neg order, none]
  cases firstBadField s records with
  | none => cases firstClash 1 s.intake.lastKeys records <;> rfl
  | some field => rfl

theorem firstBadField_eq_some {s : State} {records : List LoadRecord} {k f : Nat} {r : LoadRecord} (here : records[k]? = some r)
    (before : ∀ j q, j < k → records[j]? = some q → FieldsAllowed s q) (fails : badField s r = some f) :
    firstBadField s records = some (k + 1, f) := by
  have first : firstFailing (fun r => (badField s r).isSome) records = some (k + 1) := by
    refine firstFailing_eq_some here (by simp [fails]) fun j q less there => ?_
    rw [(fieldsAllowed_iff s q).mp (before j q less there)]
    rfl
  unfold firstBadField
  rw [first, Option.bind_some, Nat.add_sub_cancel, here, Option.bind_some, fails]
  rfl

theorem firstBadField_eq_none {s : State} {records : List LoadRecord} (fields : ∀ r ∈ records, FieldsAllowed s r) :
    firstBadField s records = none := by
  have none : firstFailing (fun r => (badField s r).isSome) records = none := by
    refine firstFailing_eq_none.mpr fun r member => ?_
    rw [(fieldsAllowed_iff s r).mp (fields r member)]
    rfl
  unfold firstBadField
  rw [none]
  rfl

/-- The first record that a property does not hold of. -/
theorem exists_first {P : LoadRecord → Prop} {records : List LoadRecord} (some' : ¬ ∀ r ∈ records, P r) :
    ∃ (k : Nat) (r : LoadRecord), records[k]? = some r ∧ ¬ P r ∧ ∀ (j : Nat) (q : LoadRecord), j < k → records[j]? = some q → P q := by
  induction records with
  | nil => simp at some'
  | cons r rest ih =>
    by_cases here : P r
    · have later : ¬ ∀ q ∈ rest, P q := fun all => some' (by simpa [here] using all)
      obtain ⟨k, q, there, fails, before⟩ := ih later
      refine ⟨k + 1, q, there, fails, fun j x less at_j => ?_⟩
      cases j with
      | zero =>
        obtain rfl : r = x := by simpa using at_j
        exact here
      | succ j => exact before j x (by omega) at_j
    · exact ⟨0, r, rfl, here, fun j _ less => absurd less (Nat.not_lt_zero j)⟩

theorem loadRefusal_field {s : State} {records : List LoadRecord} {k f : Nat} {r : LoadRecord} (count : CountAllowed records)
    (order : SequencesAllowed s records) (versions : ∀ r ∈ records, VersionAllowed s r) (here : records[k]? = some r)
    (before : ∀ j q, j < k → records[j]? = some q → FieldsAllowed s q) (fails : badField s r = some f) :
    loadRefusal s records = some (Answer.refuse .field (nat1 (k + 1) ++ nat1 f)) := by
  rw [loadRefusal_fields count order versions, firstBadField_eq_some here before fails]
  rfl

theorem loadRefusal_keys {s : State} {records : List LoadRecord} {k : Nat} (count : CountAllowed records)
    (order : SequencesAllowed s records) (versions : ∀ r ∈ records, VersionAllowed s r) (fields : ∀ r ∈ records, FieldsAllowed s r)
    (clash : ClashAt s.intake.lastKeys records k) (first : ∀ j, j < k → ¬ ClashAt s.intake.lastKeys records j) :
    loadRefusal s records = some (Answer.refuse .keys (nat1 (k + 1))) := by
  rw [loadRefusal_fields count order versions, firstBadField_eq_none fields, firstClash_eq_some clash first, Nat.add_comm]
  rfl

/-- With everything else allowed, the room decides (R23, case 7). -/
theorem loadRefusal_room {s : State} {records : List LoadRecord} (count : CountAllowed records)
    (order : SequencesAllowed s records) (versions : ∀ r ∈ records, VersionAllowed s r) (fields : ∀ r ∈ records, FieldsAllowed s r)
    (keys : KeysAllowed s records) : loadRefusal s records
      = if 256 < freshCount s + records.length then some (Answer.refuse .full (nat2 (256 - freshCount s))) else none := by
  rw [loadRefusal_fields count order versions, firstBadField_eq_none fields,
    firstClash_eq_none.mpr ((keysAllowed_iff s records).mp keys)]
  rfl

theorem exists_first_clash {last : Option (Nat × Nat)} {records : List LoadRecord} (some' : ¬ ∀ k, ¬ ClashAt last records k) :
    ∃ k, ClashAt last records k ∧ ∀ j, j < k → ¬ ClashAt last records j := by
  classical
  have clash : ∃ k, ClashAt last records k := by simpa using some'
  exact ⟨Nat.find clash, Nat.find_spec clash, fun j less => Nat.find_min clash less⟩

/-- A LOAD is refused exactly when a case of R23 applies. -/
theorem loadRefusal_eq_none {s : State} {records : List LoadRecord} : loadRefusal s records = none ↔ LoadAllowed s records := by
  constructor
  · intro allowed
    have count : CountAllowed records := by
      by_contra bad
      simp [loadRefusal_count bad] at allowed
    have order : SequencesAllowed s records := by
      by_contra bad
      simp [loadRefusal_order count bad] at allowed
    have versions : ∀ r ∈ records, VersionAllowed s r := by
      by_contra bad
      obtain ⟨k, r, here, fails, before⟩ := exists_first bad
      simp [loadRefusal_version count order here before fails] at allowed
    have fields : ∀ r ∈ records, FieldsAllowed s r := by
      by_contra bad
      obtain ⟨k, r, here, fails, before⟩ := exists_first bad
      obtain ⟨f, field⟩ := Option.ne_none_iff_exists'.mp (mt (fieldsAllowed_iff s r).mpr fails)
      simp [loadRefusal_field count order versions here before field] at allowed
    have keys : KeysAllowed s records := by
      by_contra bad
      obtain ⟨k, clash, first⟩ := exists_first_clash (mt (keysAllowed_iff s records).mpr bad)
      simp [loadRefusal_keys count order versions fields clash first] at allowed
    exact ⟨count, order, versions, fields, keys, room_of_loadRefusal allowed⟩
  · rintro ⟨count, order, versions, fields, keys, room⟩
    rw [loadRefusal_room count order versions fields keys, if_neg (by omega)]

theorem refusal_not_ok {s : State} {records : List LoadRecord} {a : Answer} (refused : loadRefusal s records = some a) :
    ∃ result data, result ≠ .ok ∧ a = Answer.refuse result data := by
  refine ⟨a.result, a.data, ?_, rfl⟩
  unfold loadRefusal at refused
  repeat' split at refused
  all_goals cases refused
  all_goals simp [Answer.refuse]

theorem load_refused {s : State} {number : Byte} {records : List LoadRecord} {rest : List RxEntry} {result : ResultCode}
    {data : List Byte} (requested : Requested s number (.load records) rest)
    (refused : loadRefusal (taken rest s) records = some (Answer.refuse result data)) :
    exec .load s = .next (withReply number (.load records) result data (taken rest s)) := by
  refine serve_answered requested rfl ?_
  unfold takeLoad
  rw [refused]

theorem fieldFails_iff {s : State} {r : LoadRecord} (version : VersionAllowed s r) (f : Nat) :
    FieldFails s r f ↔ (f = 3 ∧ r.bundleKey = 0) ∨ (f = 4 ∧ r.trayKey = 0)
      ∨ (f = 5 ∧ (r.lines = [] ∨ 6 < r.lines.length
        ∨ ∃ (v : Fin 32) (d : VersionDef), r.version = v.val ∧ s.versions[v].definition = some d ∧ d.lineCount < r.lines.length))
      ∨ (f = 6 ∧ ∃ l ∈ r.lines, 40 < l.length ∨ ∃ b ∈ l, b.toNat < 32 ∨ 126 < b.toNat)
      ∨ (f = 7 ∧ (24 < r.keyline.length ∨ ∃ b ∈ r.keyline, b.toNat < 32 ∨ 126 < b.toNat)) := by
  obtain ⟨d, defined⟩ := Option.isSome_iff_exists.mp ((versionAllowed_iff s r).mp version)
  have room : lineRoom s r < r.lines.length
      ↔ ∃ (v : Fin 32) (d : VersionDef), r.version = v.val ∧ s.versions[v].definition = some d ∧ d.lineCount < r.lines.length := by
    have named : lineRoom s r = d.lineCount := by
      unfold lineRoom
      rw [defined]
      rfl
    rw [named]
    constructor
    · intro less
      obtain ⟨v, number, definition⟩ := definedVersion_eq_some.mp defined
      exact ⟨v, d, number, definition, less⟩
    · rintro ⟨v, e, number, definition, less⟩
      have same := definedVersion_eq_some.mpr ⟨v, number, definition⟩
      rw [defined, Option.some.injEq] at same
      rwa [same]
  unfold FieldFails
  rw [room]

/-- Settles O12. -/
theorem loadRefused : Obligations.LoadRefused := by
  intro s number records rest requested refused unprintable fails predecessor clashes
  refine ⟨fun bad => ?_, fun bad => ?_, fun count bad => ?_, fun count order => ⟨?_, fun versions => ⟨?_, fun fields => ⟨?_, ?_⟩⟩⟩⟩
  · obtain ⟨a, found⟩ := Option.ne_none_iff_exists'.mp (mt (loadRefusal_eq_none (s := taken rest s)).mp bad)
    obtain ⟨result, data, notOk, rfl⟩ := refusal_not_ok found
    exact ⟨result, data, notOk, load_refused requested found⟩
  · exact load_refused requested (loadRefusal_count bad)
  · exact load_refused requested (loadRefusal_order (s := taken rest s) count bad)
  · intro k r here before version
    exact load_refused requested (loadRefusal_version (s := taken rest s) count order here before version)
  · intro k r f here before field first
    have version := versions r (List.mem_of_getElem? here)
    have named : badField (taken rest s) r = some f :=
      badField_first ((fieldFails_iff (s := taken rest s) version f).mpr field)
        fun e less bad => first e less ((fieldFails_iff (s := taken rest s) version e).mp bad)
    exact load_refused requested (loadRefusal_field (s := taken rest s) count order versions here before named)
  · intro bad
    obtain ⟨k, clash, first⟩ := exists_first_clash (mt (keysAllowed_iff s records).mpr bad)
    exact ⟨k, clash, first, load_refused requested
      (loadRefusal_keys (s := taken rest s) count order versions fields clash first)⟩
  · intro keys full
    refine load_refused requested ?_
    rw [loadRefusal_room (s := taken rest s) count order versions fields keys]
    exact if_pos full

/-! ### An accepted LOAD (R22, R26) -/

/-- The version table with some records more (R42). -/
def countedUp (records : List LoadRecord) (versions : Vector VersionEntry 32) : Vector VersionEntry 32 :=
  Vector.ofFn fun v => { versions[v] with refCount := versions[v].refCount + records.countP (·.version == v.val) }

theorem countedUp_nil (versions : Vector VersionEntry 32) : countedUp [] versions = versions := by
  ext i hi
  simp [countedUp]

theorem accepted_version {r : LoadRecord} {v : Fin 32} (version : r.version = v.val) : r.accepted.version = v := by
  have found : versionOf r.version = some v := versionOf_eq_some.mpr version
  unfold LoadRecord.accepted
  rw [found]
  rfl

theorem countedUp_cons {r : LoadRecord} {v : Fin 32} (version : r.version = v.val) (rest : List LoadRecord) (s : State) :
    countedUp (r :: rest) s.versions = countedUp rest (acceptRecord s r).versions := by
  have named := accepted_version version
  refine Vector.ext fun i hi => ?_
  by_cases same : v.val = i
  · subst same
    simp [countedUp, acceptRecord, setRefCount, named, version]
    omega
  · have other : ¬ r.version = i := version ▸ same
    simp [countedUp, acceptRecord, setRefCount, named, other, Vector.getElem_set_ne _ _ same]

theorem acceptRecords_versions {records : List LoadRecord} {s : State} (known : ∀ r ∈ records, ∃ v : Fin 32, r.version = v.val) :
    (records.foldl acceptRecord s).versions = countedUp records s.versions := by
  induction records generalizing s with
  | nil => exact (countedUp_nil _).symm
  | cons r rest ih =>
    obtain ⟨v, version⟩ := known r List.mem_cons_self
    rw [List.foldl_cons, ih fun q member => known q (List.mem_cons_of_mem _ member), countedUp_cons version]

theorem acceptRecords_intake {records : List LoadRecord} {last : LoadRecord} (s : State) (isLast : records.getLast? = some last) :
    (records.foldl acceptRecord s).intake = {
      queue := s.intake.queue ++ records.map LoadRecord.accepted
      lastSequence := last.sequence
      lastKeys := some (last.bundleKey, last.trayKey) } := by
  obtain ⟨front, rfl⟩ := List.getLast?_eq_some_iff.mp isLast
  rw [List.foldl_append, List.foldl_cons, List.foldl_nil, List.map_append, ← List.append_assoc, ← acceptRecords_queue]
  rfl

theorem countP_accepted (records : List LoadRecord) : (records.map LoadRecord.accepted).countP Record.isFresh = records.length := by
  rw [List.countP_map]
  exact List.countP_eq_length.mpr fun _ _ => rfl

/-- Settles O11. -/
theorem loadAccepted : Obligations.LoadAccepted := by
  intro s number records last rest requested allowed isLast fresh counted t
  have versions : ∀ r ∈ records, ∃ v : Fin 32, r.version = v.val := by
    obtain ⟨-, -, versions, -⟩ := allowed
    intro r member
    obtain ⟨v, number, -⟩ := versions r member
    exact ⟨v, number⟩
  have after : records.foldl acceptRecord (taken rest s) = t := by
    rw [acceptRecords_eq, acceptRecords_intake _ isLast, acceptRecords_versions versions]
    rfl
  have freshAfter : freshCount t = fresh := by
    rw [freshCount_eq]
    change (s.intake.queue ++ records.map LoadRecord.accepted).countP Record.isFresh + _ = _
    rw [List.countP_append, countP_accepted]
    change _ + s.track.cells.countP Cell.offersFresh = freshCount s + records.length
    rw [freshCount_eq]
    omega
  refine ⟨freshAfter, fun r member => ⟨rfl, rfl, rfl, ?_, rfl, rfl, rfl, rfl⟩, ?_⟩
  · obtain ⟨v, version⟩ := versions r member
    rw [accepted_version version, version]
  · refine serve_answered requested rfl ?_
    unfold takeLoad
    rw [loadRefusal_eq_none.mpr (show LoadAllowed (taken rest s) records from allowed)]
    dsimp only
    rw [after, show freeRoom t = 256 - freshCount t from rfl, freshAfter]
    rfl

end Sys2Proof.Machine
end

section
/-! The version requests (O14) and the reads (O15). -/

namespace Sys2Proof.Machine

/-! ### VERSION_SET and VERSION_CLEAR (R40, R41) -/

theorem slotOf_isNone_iff (k : Nat) : (slotOf k).isNone = true ↔ k = 0 ∨ 16 < k := by
  constructor
  · intro none
    by_contra inside
    unfold slotOf at none
    rw [dif_pos (by omega)] at none
    cases none
  · intro outside
    rw [slotOf_eq_none outside]
    rfl

theorem versionOf_eq_none {k : Nat} (outside : 32 ≤ k) : versionOf k = none := by
  unfold versionOf
  rw [dif_neg (by omega)]

/-- A field of a VERSION_SET is out of range (R40). -/
def VersionFieldBad (version : Nat) (inserts : List Nat) (weight lineCount f : Nat) : Prop :=
  (f = 1 ∧ 32 ≤ version) ∨ (f = 2 ∧ 8 < inserts.length)
    ∨ (f = 3 ∧ ((∃ n ∈ inserts, n = 0 ∨ 16 < n) ∨ ¬ inserts.Nodup)) ∨ (f = 4 ∧ (weight = 0 ∨ 2000 < weight))
    ∨ (f = 5 ∧ (lineCount = 0 ∨ 6 < lineCount))

theorem versionFieldRefusal_eq (version : Nat) (inserts : List Nat) (weight lineCount : Nat) :
    versionFieldRefusal version inserts weight lineCount
      = if 32 ≤ version then some (Answer.field 1) else if 8 < inserts.length then some (Answer.field 2)
        else if (∃ n ∈ inserts, n = 0 ∨ 16 < n) ∨ ¬ inserts.Nodup then some (Answer.field 3)
        else if weight = 0 ∨ 2000 < weight then some (Answer.field 4)
        else if lineCount = 0 ∨ 6 < lineCount then some (Answer.field 5) else none := by
  unfold versionFieldRefusal
  simp only [List.any_eq_true, slotOf_isNone_iff, Nat.lt_one_iff]

/-- The refusal names a field that is out of range. -/
theorem versionFieldRefusal_bad {version : Nat} {inserts : List Nat} {weight lineCount : Nat}
    (bad : ∃ f, VersionFieldBad version inserts weight lineCount f) :
    ∃ f, VersionFieldBad version inserts weight lineCount f
      ∧ versionFieldRefusal version inserts weight lineCount = some (Answer.field f) := by
  rw [versionFieldRefusal_eq]
  by_cases one : 32 ≤ version
  · exact ⟨1, .inl ⟨rfl, one⟩, if_pos one⟩
  rw [if_neg one]
  by_cases two : 8 < inserts.length
  · exact ⟨2, .inr (.inl ⟨rfl, two⟩), if_pos two⟩
  rw [if_neg two]
  by_cases three : (∃ n ∈ inserts, n = 0 ∨ 16 < n) ∨ ¬ inserts.Nodup
  · exact ⟨3, .inr (.inr (.inl ⟨rfl, three⟩)), if_pos three⟩
  rw [if_neg three]
  by_cases four : weight = 0 ∨ 2000 < weight
  · exact ⟨4, .inr (.inr (.inr (.inl ⟨rfl, four⟩))), if_pos four⟩
  rw [if_neg four]
  by_cases five : lineCount = 0 ∨ 6 < lineCount
  · exact ⟨5, .inr (.inr (.inr (.inr ⟨rfl, five⟩))), if_pos five⟩
  · obtain ⟨f, ⟨-, h⟩ | ⟨-, h⟩ | ⟨-, h⟩ | ⟨-, h⟩ | ⟨-, h⟩⟩ := bad
    · exact absurd h one
    · exact absurd h two
    · exact absurd h three
    · exact absurd h four
    · exact absurd h five

theorem takeVersionSet_bad {version : Nat} {inserts : List Nat} {weight lineCount f : Nat} (s : State)
    (refused : versionFieldRefusal version inserts weight lineCount = some (Answer.field f)) :
    takeVersionSet version inserts weight lineCount s = (Answer.field f, s) := by
  unfold takeVersionSet
  rw [refused]

theorem slotNumber_inj {n m : SlotNo} (same : slotNumber n = slotNumber m) : n = m := by
  unfold slotNumber at same
  exact Fin.ext (by omega)

theorem filterMap_slotOf (slots : List SlotNo) : (slots.map slotNumber).filterMap slotOf = slots := by
  rw [List.filterMap_map]
  have each : slotOf ∘ slotNumber = some := funext slotOf_slotNumber
  rw [each, List.filterMap_some]

theorem slotNumber_range (n : SlotNo) : ¬ (slotNumber n = 0 ∨ 16 < slotNumber n) := by
  unfold slotNumber
  omega

/-- With every field in range, the references to the version and the roles of the slots decide (R40). -/
theorem takeVersionSet_sound {v : Fin 32} {inserts : List SlotNo} {weight lineCount : Nat} (s : State) (few : inserts.length ≤ 8)
    (distinct : inserts.Nodup) (weighs : 1 ≤ weight ∧ weight ≤ 2000) (lines : 1 ≤ lineCount ∧ lineCount ≤ 6) :
    takeVersionSet v.val (inserts.map slotNumber) weight lineCount s
      = if 0 < s.versions[v].refCount then (Answer.refuse .inUse (nat2 s.versions[v].refCount), s)
        else (inserts.find? (!hasRole s .insertFeeder ·)).elim
          (Answer.ok [], setVersion v (some { inserts := inserts, weight := weight, lineCount := lineCount }) s)
          fun n => (Answer.refuse .station (slotByte (some n)), s) := by
  have sound : versionFieldRefusal v.val (inserts.map slotNumber) weight lineCount = none := by
    have slots : ¬ ((∃ n ∈ inserts.map slotNumber, n = 0 ∨ 16 < n) ∨ ¬ (inserts.map slotNumber).Nodup) := by
      rintro (⟨k, member, outside⟩ | double)
      · obtain ⟨n, -, rfl⟩ := List.mem_map.mp member
        exact slotNumber_range n outside
      · exact double (distinct.map fun _ _ => slotNumber_inj)
    rw [versionFieldRefusal_eq, if_neg (by omega), if_neg (by simpa using few), if_neg slots, if_neg (by omega), if_neg (by omega)]
  unfold takeVersionSet
  rw [sound, versionOf_val, filterMap_slotOf]
  dsimp only
  congr 1
  cases inserts.find? (!hasRole s .insertFeeder ·) <;> rfl

theorem hasRole_iff {s : State} {r : Role} {n : SlotNo} : hasRole s r n = true ↔ ∃ st, stationAt s n = some st ∧ st.role = r := by
  unfold hasRole
  cases stationAt s n with
  | none => simp
  | some st => simp

theorem takeVersionClear_of (v : Fin 32) (s : State) :
    takeVersionClear v.val s = if 0 < s.versions[v].refCount then (Answer.refuse .inUse (nat2 s.versions[v].refCount), s)
      else (Answer.ok [], setVersion v none s) := by
  unfold takeVersionClear
  rw [versionOf_val]

theorem setVersion_unused {s : State} {v : Fin 32} (unused : s.versions[v].refCount = 0) (d : Option VersionDef) :
    setVersion v d s = { s with versions := s.versions.set v.val { definition := d, refCount := 0 } v.isLt } := by
  have entry : ({ s.versions[v] with definition := d } : VersionEntry) = { definition := d, refCount := 0 } := by rw [← unused]
  unfold setVersion
  rw [entry]

/-- Settles O14. -/
theorem versionRequests : Obligations.VersionRequests := by
  intro s number v rest
  refine ⟨?_, fun k outside requested => ?_, ?_, fun requested => ⟨fun used => ?_, fun unused => ?_⟩⟩
  · intro version inserts weight lineCount requested bad some'
    obtain ⟨f, isBad, refused⟩ := versionFieldRefusal_bad some'
    exact ⟨f, isBad, serve_answered requested rfl (takeVersionSet_bad _ refused)⟩
  · refine serve_answered requested rfl ?_
    unfold takeVersionClear
    rw [versionOf_eq_none outside]
    rfl
  · intro inserts weight lineCount few distinct light heavy short long r requested d
    refine ⟨fun used => ?_, fun unused feeders => ?_, fun unused n before after split feeders other => ?_⟩
    · refine serve_answered requested rfl ?_
      rw [takeVersionSet_sound _ few distinct ⟨light, heavy⟩ ⟨short, long⟩]
      exact if_pos used
    · have none : inserts.find? (!hasRole (taken rest s) .insertFeeder ·) = none := by
        refine List.find?_eq_none.mpr fun n member => ?_
        have feeder : hasRole (taken rest s) .insertFeeder n = true := hasRole_iff.mpr (feeders n member)
        simp [feeder]
      refine serve_answered requested rfl ?_
      rw [takeVersionSet_sound _ few distinct ⟨light, heavy⟩ ⟨short, long⟩, none, if_neg (by simpa [taken] using unused),
        setVersion_unused (s := taken rest s) unused]
      rfl
    · have found : inserts.find? (!hasRole (taken rest s) .insertFeeder ·) = some n := by
        rw [split]
        refine List.find?_eq_some_iff_append.mpr ⟨?_, before, after, rfl, fun m member => ?_⟩
        · have notFeeder : ¬ hasRole (taken rest s) .insertFeeder n = true := fun feeder => other (hasRole_iff.mp feeder)
          simpa using notFeeder
        · have feeder : hasRole (taken rest s) .insertFeeder m = true := hasRole_iff.mpr (feeders m member)
          simp [feeder]
      refine serve_answered requested rfl ?_
      rw [takeVersionSet_sound _ few distinct ⟨light, heavy⟩ ⟨short, long⟩, found, if_neg (by simpa [taken] using unused)]
      rfl
  · refine serve_answered requested rfl ?_
    rw [takeVersionClear_of]
    exact if_pos used
  · refine serve_answered requested rfl ?_
    rw [takeVersionClear_of, if_neg (by simpa [taken] using unused), setVersion_unused (s := taken rest s) unused]
    rfl

/-! ### The reads (12.6) -/

theorem flatMap_finRange_eq (v : Vector Counter 8) (f : Counter → List Byte) :
    ((List.finRange 8).flatMap fun i => f v[i]) = v.toList.flatMap f := by
  have listed : v.toList = (List.finRange 8).map fun i => v[i] := by
    refine List.ext_getElem (by simp) fun k _ _ => ?_
    simp
  rw [listed, List.flatMap_map]

theorem statusRead_requested {s : State} {number : Byte} {rest : List RxEntry} (requested : Requested s number .statusRead rest) :
    exec .statusRead s = .next { withReply number .statusRead .ok (answerStatusRead s).data (readFrom rest s) with
      freeIndex := s.freeIndex + 1 } := by
  change nextFree (serveRead _ s) = _
  rw [serveRead_requested requested rfl]
  rfl

theorem timeLeft_le {s : State} {left : Nat} (runs : timeLeft s = some left) :
    ∃ started, left ≤ started ∧ (s.line.startTimer = .running started ∨ s.line.stopTimer = .running started) := by
  obtain ⟨started, running, rfl⟩ := Option.map_eq_some_iff.mp runs
  refine ⟨started, min_le_right _ _, ?_⟩
  unfold runningTimer at running
  split at running
  next h =>
    cases running
    exact .inl h
  next _ h =>
    cases running
    exact .inr h
  next => cases running

/-- Settles O15. -/
theorem readsAnswered : Obligations.ReadsAnswered := by
  intro s number rest bundleRecord trayRecord stack setup counter
  refine ⟨fun p requested => ⟨fun far => ?_, fun near => ?_⟩, fun i requested => ⟨fun far => ?_, fun near => ?_⟩,
    fun n requested => ?_, fun k outside requested => ?_, fun requested => ?_, fun requested => ?_, fun requested => ?_,
    fun left runs => timeLeft_le runs⟩
  · refine (serveRead_requested requested rfl).trans ?_
    unfold answerCellRead
    rw [if_pos far]
    rfl
  · refine (serveRead_requested requested rfl).trans ?_
    unfold answerCellRead
    rw [if_neg (by omega)]
    rfl
  · refine (serveRead_requested requested rfl).trans ?_
    unfold answerQueueRead
    rw [if_pos far]
    rfl
  · refine (serveRead_requested requested rfl).trans ?_
    unfold answerQueueRead
    rw [if_neg (by omega)]
    rfl
  · refine (serveRead_requested requested rfl).trans ?_
    unfold answerStationRead
    rw [slotOf_slotNumber]
    rfl
  · refine (serveRead_requested requested rfl).trans ?_
    unfold answerStationRead
    rw [slotOf_eq_none outside]
    rfl
  · refine (serveRead_requested requested rfl).trans ?_
    simp [answerBundleRead, Answer.ok, Param.bytes, Param.value]
    rfl
  · refine (serveRead_requested requested rfl).trans ?_
    unfold answerCounterRead
    rw [flatMap_finRange_eq s.counters.all counterBytes]
    rfl
  · have dropped : dropHead s = readFrom rest s := by
      obtain ⟨head, -⟩ := requested
      unfold dropHead readFrom
      rw [head]
      rfl
    rw [statusRead_requested requested]
    unfold answerStatusRead
    rw [dropped]
    rfl

end Sys2Proof.Machine
end

section
/-! The requests about the station table (O16 to O18): a configuration and what follows it, the refusals in their
order, and the restored station. -/

namespace Sys2Proof.Machine

/-! ### What a configuration leaves (R2, R3, R14, R44) -/

theorem stackerPosition_congr {s t : State} (table : t.stations = s.stations) : stackerPosition t = stackerPosition s := by
  have same (n : SlotNo) : stationAt t n = stationAt s n := by
    unfold stationAt
    rw [table]
  have slots : slotsWith t .stacker = slotsWith s .stacker := by
    unfold slotsWith hasRole
    simp only [same]
  unfold stackerPosition positionWith slotWith positionOf
  rw [slots]
  simp only [same]

theorem hasRole_congr {s t : State} (table : t.stations = s.stations) (r : Role) : hasRole t r = hasRole s r := by
  funext n
  unfold hasRole stationAt
  rw [table]

/-- The slot has its new entry, with its frames dropped, the track cut at S, its notice and its cause; the step monitor
has not moved yet. -/
def Configured (n : SlotNo) (st : Option Station) (s t : State) : Prop :=
  let unbind (f : BusFrame) : BusFrame := if f.slot = some n then { f with slot := none } else f
  t = { s with
      stations := s.stations.set n.val st n.isLt
      bus := { s.bus with
        txQueue := s.bus.txQueue.filter (·.slot != n)
        inProgress := s.bus.inProgress.map unbind }
      track := { s.track with cells := s.track.cells.take (stackerPosition t + 1), printJobs := t.track.printJobs }
      line := { s.line with feed := t.line.feed }
      link := { s.link with notices := t.link.notices } }
    ∧ Noticed t ⟨9 + n.val, by omega⟩ (.station n { station := st.map fun st => (st.role, st.recorded, st.health), usable := st.any Station.usable })
    ∧ (∀ c, c ≠ .station n → t.line.feed.has c = s.line.feed.has c)
    ∧ t.line.feed.has (.station n) = st.any (fun st => st.role.feeding && !st.usable)

theorem configure_eq (n : SlotNo) (st : Option Station) (s : State) :
    configure n st s = { s with
      stations := s.stations.set n.val st n.isLt
      bus := (dropFrames n s).bus
      track := { s.track with cells := s.track.cells.take (stackerPosition (configure n st s) + 1) }
      link := { s.link with notices := (configure n st s).link.notices } } := by
  have position : stackerPosition (configure n st s) = stackerPosition (putStation n st (dropFrames n s)) :=
    stackerPosition_congr rfl
  rw [position]
  rfl

theorem noticed_putCause_station {t : State} {n : SlotNo} {note : Notice} (c : FeedCause) (b : Bool)
    (noticed : Noticed t ⟨9 + n.val, by omega⟩ note) : Noticed (putCause c b t) ⟨9 + n.val, by omega⟩ note := by
  have other : (⟨9 + n.val, by omega⟩ : Fin 33) ≠ 1 := fun same => by
    have value : 9 + n.val = 1 := congrArg Fin.val same
    omega
  unfold Noticed at *
  rwa [putCause_notice_other c b t _ other]

theorem configured_putCause {n : SlotNo} {st : Option Station} {b : Bool} (cause : b = st.any fun st => st.role.feeding && !st.usable)
    (s : State) : Configured n st s (putCause (.station n) b (configure n st s)) := by
  have announced := announces_putCause (.station n) b (configure n st s)
  have position : stackerPosition (putCause (.station n) b (configure n st s)) = stackerPosition (configure n st s) :=
    stackerPosition_congr (by rw [announced])
  refine ⟨?_, ?_, fun c other => ?_, ?_⟩
  · rw [position]
    unfold Announces at announced
    rw [announced, configure_eq]
    rfl
  · exact noticed_putCause_station _ _ (noticed_raise (stationNotice n st) _)
  · rw [putCause_has, if_neg other]
    rfl
  · rw [putCause_has, if_pos rfl, cause]

theorem Configured.printJobs {n : SlotNo} {st : Option Station} {s t : State} (h : Configured n st s t) (j : Nat) :
    Configured n st s { t with track := { t.track with printJobs := j } } := by
  obtain ⟨same, noticed, others, own⟩ := h
  refine ⟨?_, noticed, others, own⟩
  have position : stackerPosition { t with track := { t.track with printJobs := j } } = stackerPosition t :=
    stackerPosition_congr rfl
  rw [position]
  conv_lhs => rw [same]

theorem any_reader_iff (s : State) : allSlots.any (hasRole s .reader) = false ↔ slotsWith s .reader = [] := by
  unfold slotsWith
  rw [List.any_eq_false, List.filter_eq_nil_iff]

/-- The step state that a job reset sets, by whether a reader is configured (R112). -/
theorem stepStateAtReset_eq (s : State) :
    stepStateAtReset s = if allSlots.any (hasRole s .reader) then .proving else .notMonitored := by
  unfold stepStateAtReset
  by_cases none : slotsWith s .reader = []
  · rw [if_pos none, (any_reader_iff s).mpr none]
    rfl
  · rw [if_neg none, if_pos]
    exact Bool.eq_true_of_not_eq_false fun h => none ((any_reader_iff s).mp h)

theorem Configured.reconfigured {n : SlotNo} {st : Option Station} {s t : State} (h : Configured n st s t)
    (unread : (st.any (·.role == .reader) || hasRole s .reader n) = true →
      st.isSome = false ∧ allSlots.any (hasRole t .reader) = true) : Reconfigured n st s t := by
  obtain ⟨same, noticed, others, own⟩ := h
  have step : t.step = s.step := by rw [same]
  refine ⟨?_, noticed, fun c notStation _ => others c notStation, own, fun _ => ⟨step, others .step (by simp)⟩, fun reading lost => ?_⟩
  · rw [step]
    exact same
  · obtain ⟨cleared, monitored⟩ := unread reading
    rcases lost with isSome | none
    · rw [cleared] at isSome
      cases isSome
    · rw [monitored] at none
      cases none

theorem noticed_clearStep_station {t : State} {n : SlotNo} {note : Notice}
    (noticed : Noticed t ⟨9 + n.val, by omega⟩ note) : Noticed (clearStep t) ⟨9 + n.val, by omega⟩ note := by
  unfold clearStep
  dsimp only
  split
  · exact noticed
  · refine noticed_raise_other ?_ noticed
    intro same
    have value : 9 + n.val = 2 := congrArg Fin.val same
    omega

/-- Setting the step monitor anew changes it, its cause and the notices alone (R112). -/
theorem resetStep_eq (s : State) :
    resetStep s = { s with
      step := (resetStep s).step
      line := { s.line with feed := (resetStep s).line.feed }
      link := { s.link with notices := (resetStep s).link.notices } } := by
  have removed := announces_removeCause .step s
  unfold Announces at removed
  unfold resetStep
  rw [clearStep_eq, removed]

theorem reconfigured_resetStep {n : SlotNo} {st : Option Station} {s t : State} (h : Configured n st s t)
    (reading : (st.any (·.role == .reader) || hasRole s .reader n) = true) : Reconfigured n st s (resetStep t) := by
  obtain ⟨same, noticed, others, own⟩ := h
  have removed := announces_removeCause .step t
  have table : (resetStep t).stations = t.stations := by
    unfold resetStep
    rw [clearStep_eq, removed]
  have feed : (resetStep t).line.feed = (removeCause .step t).line.feed := by
    unfold resetStep
    rw [clearStep_eq]
  have step : (resetStep t).step = StepMonitor.cleared (if allSlots.any (hasRole (resetStep t) .reader) then .proving else .notMonitored) := by
    rw [hasRole_congr table, ← stepStateAtReset_eq]
    have before : stepStateAtReset (removeCause .step t) = stepStateAtReset t := by
      unfold stepStateAtReset slotsWith
      rw [hasRole_congr (s := t) (by rw [removed])]
    unfold resetStep
    rw [clearStep_eq, before]
  refine ⟨?_, ?_, fun c notStation notStep => ?_, ?_, fun quiet => ?_, fun _ _ => ⟨step, ?_⟩⟩
  · have foot := resetStep_eq t
    rw [stackerPosition_congr table]
    generalize stackerPosition t + 1 = k at same ⊢
    generalize resetStep t = u at foot ⊢
    rw [foot, same]
  · unfold resetStep
    exact noticed_clearStep_station (noticed_putCause_station .step false noticed)
  · rw [feed, removeCause_has, if_neg notStep, others c notStation]
  · rw [feed, removeCause_has, if_neg (by simp), own]
  · rw [reading] at quiet
    cases quiet
  · rw [feed, removeCause_has, if_pos rfl]

/-! ### STATION_SET (R2) -/

theorem configurable_iff (s : State) : configurable s = true ↔ Configurable s := by
  simp [configurable, Configurable]

theorem roleOf_code (r : Role) : roleOf r.code = some r := by
  cases r <;> rfl

theorem roleOf_eq_none_iff (k : Nat) : roleOf k = none ↔ k = 0 ∨ 9 < k := by
  constructor
  · intro none
    by_contra inside
    have each : ∀ k : Fin 9, (roleOf (k.val + 1)).isSome = true := by decide
    have known := each ⟨k - 1, by omega⟩
    rw [show k - 1 + 1 = k by omega, none] at known
    cases known
  · intro outside
    have bounded (r : Role) : 1 ≤ r.code ∧ r.code ≤ 9 := by cases r <;> exact ⟨by decide, by decide⟩
    refine List.find?_eq_none.mpr fun r _ => ?_
    have := bounded r
    simp only [beq_iff_eq]
    omega

/-- A field of a STATION_SET is out of range (R2). -/
def SetupFieldBad (slot role address position debounce limit f : Nat) : Prop :=
  (f = 1 ∧ (slot = 0 ∨ 16 < slot)) ∨ (f = 2 ∧ (role = 0 ∨ 9 < role)) ∨ (f = 3 ∧ (address = 0 ∨ 30 < address))
    ∨ (f = 4 ∧ role ≠ 9 ∧ 63 < position) ∨ (f = 5 ∧ 2 < debounce) ∨ (f = 6 ∧ 15 < limit)

theorem slotOf_eq_some {k : Nat} (inside : ¬ (k = 0 ∨ 16 < k)) : ∃ n, slotOf k = some n ∧ k = slotNumber n := by
  unfold slotOf slotNumber
  rw [dif_pos (by omega)]
  exact ⟨_, rfl, by simp only; omega⟩

theorem roleOf_eq_some {k : Nat} (inside : ¬ (k = 0 ∨ 9 < k)) : ∃ r, roleOf k = some r ∧ k = r.code := by
  have known := mt (roleOf_eq_none_iff k).mp inside
  obtain ⟨r, found⟩ := Option.ne_none_iff_exists'.mp known
  exact ⟨r, found, (by simpa using List.find?_some found : r.code = k).symm⟩

theorem drive_iff_code (r : Role) : r.code = 9 ↔ r = .drive := by
  cases r <;> simp [Role.code]

/-- The setup that a STATION_SET with fields in range asks for (R2). -/
def askedSetup (n : SlotNo) (r : Role) (address position debounce limit : Nat) : SlotSetup where
  slot := n
  role := r
  address := address
  position := if r = .drive then none else some position
  debounce := debounce != 2
  faultLimit := faultLimitOf limit

theorem setupOf_known (n : SlotNo) (r : Role) (address position debounce limit : Nat) :
    setupOf (slotNumber n) r.code address position debounce limit
      = if address < 1 ∨ 30 < address then .error 3 else if r ≠ .drive ∧ 63 < position then .error 4
        else if 15 < limit then .error 6 else if 2 < debounce then .error 5
        else .ok (askedSetup n r address position debounce limit) := by
  unfold setupOf
  rw [slotOf_slotNumber, roleOf_code]
  rfl

theorem setupOf_bad {slot role address position debounce limit : Nat}
    (bad : ∃ f, SetupFieldBad slot role address position debounce limit f) :
    ∃ f, SetupFieldBad slot role address position debounce limit f
      ∧ setupOf slot role address position debounce limit = .error f := by
  by_cases one : slot = 0 ∨ 16 < slot
  · refine ⟨1, .inl ⟨rfl, one⟩, ?_⟩
    unfold setupOf
    rw [slotOf_eq_none one]
  obtain ⟨n, slotIs, rfl⟩ := slotOf_eq_some one
  by_cases two : role = 0 ∨ 9 < role
  · refine ⟨2, .inr (.inl ⟨rfl, two⟩), ?_⟩
    unfold setupOf
    rw [slotIs, (roleOf_eq_none_iff role).mpr two]
  obtain ⟨r, -, rfl⟩ := roleOf_eq_some two
  rw [setupOf_known]
  by_cases three : address < 1 ∨ 30 < address
  · exact ⟨3, .inr (.inr (.inl ⟨rfl, by omega⟩)), if_pos three⟩
  rw [if_neg three]
  by_cases four : r ≠ .drive ∧ 63 < position
  · exact ⟨4, .inr (.inr (.inr (.inl ⟨rfl, mt (drive_iff_code r).mp four.1, four.2⟩))), if_pos four⟩
  rw [if_neg four]
  by_cases six : 15 < limit
  · exact ⟨6, .inr (.inr (.inr (.inr (.inr ⟨rfl, six⟩)))), if_pos six⟩
  rw [if_neg six]
  by_cases five : 2 < debounce
  · exact ⟨5, .inr (.inr (.inr (.inr (.inl ⟨rfl, five⟩)))), if_pos five⟩
  obtain ⟨f, ⟨-, h⟩ | ⟨-, h⟩ | ⟨-, h⟩ | ⟨-, other, h⟩ | ⟨-, h⟩ | ⟨-, h⟩⟩ := bad
  · exact absurd h one
  · exact absurd h two
  · exact absurd h (by omega)
  · exact absurd ⟨mt (drive_iff_code r).mpr other, h⟩ four
  · exact absurd h five
  · exact absurd h six

theorem setupOf_sound {n : SlotNo} {r : Role} {address position debounce limit : Nat} (addressed : 1 ≤ address ∧ address ≤ 30)
    (placed : r = .drive ∨ position ≤ 63) (option : debounce ≤ 2) (limited : limit ≤ 15) :
    setupOf (slotNumber n) r.code address position debounce limit = .ok (askedSetup n r address position debounce limit) := by
  have four : ¬ (r ≠ .drive ∧ 63 < position) := by
    rintro ⟨other, far⟩
    rcases placed with drive | near
    · exact other drive
    · omega
  rw [setupOf_known, if_neg (by omega), if_neg four, if_neg (by omega), if_neg (by omega)]

/-! ### The refusals that look at other slots and at versions (R2, R3) -/

theorem otherSlot_eq_none_iff {s : State} {n : SlotNo} {test : Station → Bool} :
    otherSlot s n test = none ↔ ∀ m st, m ≠ n → stationAt s m = some st → test st = false := by
  unfold otherSlot
  rw [find?_allSlots_eq_none_iff]
  refine forall_congr' fun m => ?_
  cases stationAt s m with
  | none => simp
  | some st =>
    by_cases same : m = n
    · simp [same]
    · simp [same]

theorem otherSlot_eq_some {s : State} {n m : SlotNo} {test : Station → Bool} (found : otherSlot s n test = some m) :
    m ≠ n ∧ ∃ st, stationAt s m = some st ∧ test st = true := by
  have passes := List.find?_some found
  rw [Bool.and_eq_true] at passes
  obtain ⟨other, holds⟩ := passes
  refine ⟨by simpa using other, ?_⟩
  cases entry : stationAt s m with
  | none =>
    rw [entry] at holds
    cases holds
  | some st =>
    rw [entry] at holds
    exact ⟨st, rfl, holds⟩

theorem exists_otherSlot {s : State} {n : SlotNo} {test : Station → Bool}
    (some' : ∃ m, m ≠ n ∧ ∃ st, stationAt s m = some st ∧ test st = true) : ∃ m, otherSlot s n test = some m := by
  refine Option.ne_none_iff_exists'.mp fun none => ?_
  obtain ⟨m, other, st, entry, holds⟩ := some'
  rw [otherSlot_eq_none_iff.mp none m st other entry] at holds
  cases holds

theorem namingVersion_eq_some {s : State} {n : SlotNo} {v : Fin 32} {d : VersionDef} (defined : s.versions[v].definition = some d)
    (names : n ∈ d.inserts) (first : ∀ (w : Fin 32) e, w < v → s.versions[w].definition = some e → n ∉ e.inserts) :
    namingVersion s n = some v := by
  unfold namingVersion
  rw [← Fin.find?_eq_find?_finRange, Fin.find?_eq_some_iff]
  refine ⟨?_, fun w less => ?_⟩
  · rw [defined]
    simpa using names
  · cases definition : s.versions[w].definition with
    | none => rfl
    | some e => simpa using first w e less definition

theorem namingVersion_eq_none {s : State} {n : SlotNo}
    (unnamed : ∀ (v : Fin 32) d, s.versions[v].definition = some d → n ∉ d.inserts) : namingVersion s n = none := by
  refine List.find?_eq_none.mpr fun v _ => ?_
  cases definition : s.versions[v].definition with
  | none => simp
  | some d => simpa using unnamed v d definition

theorem inUseRefusal_eq_none {s : State} {n : SlotNo}
    (unnamed : hasRole s .insertFeeder n = true → ∀ (v : Fin 32) d, s.versions[v].definition = some d → n ∉ d.inserts) :
    inUseRefusal s n = none := by
  unfold inUseRefusal
  split
  next feeder =>
    rw [namingVersion_eq_none (unnamed feeder)]
    rfl
  next => rfl

theorem inUseRefusal_eq_some {s : State} {n : SlotNo} {v : Fin 32} {d : VersionDef} (feeder : hasRole s .insertFeeder n = true)
    (defined : s.versions[v].definition = some d) (names : n ∈ d.inserts)
    (first : ∀ (w : Fin 32) e, w < v → s.versions[w].definition = some e → n ∉ e.inserts) :
    inUseRefusal s n = some (Answer.refuse .inUse (nat1 v.val)) := by
  unfold inUseRefusal
  rw [if_pos feeder, namingVersion_eq_some defined names first]
  rfl

/-- Another slot has the address that a setup asks for (R2). -/
def AddressTaken (s : State) (u : SlotSetup) (m : SlotNo) : Prop :=
  m ≠ u.slot ∧ ∃ st, stationAt s m = some st ∧ st.address = u.address

/-- Another slot has the position that a setup asks for (R2). -/
def PositionTaken (s : State) (u : SlotSetup) (m : SlotNo) : Prop :=
  m ≠ u.slot ∧ ∃ st, stationAt s m = some st ∧ st.position.isSome = true ∧ st.position = u.position

/-- Another slot has the role of which one slot alone may be configured (R2). -/
def RoleTaken (s : State) (u : SlotSetup) (m : SlotNo) : Prop :=
  m ≠ u.slot ∧ ∃ st, stationAt s m = some st ∧ u.role.single = true ∧ st.role = u.role

theorem otherSlot_none_of {s : State} {n : SlotNo} {test : Station → Bool} {P : Station → Prop} (tests : ∀ st, test st = true ↔ P st)
    (untaken : ∀ m, ¬ (m ≠ n ∧ ∃ st, stationAt s m = some st ∧ P st)) : otherSlot s n test = none := by
  refine otherSlot_eq_none_iff.mpr fun m st other entry => Bool.eq_false_iff.mpr fun holds => ?_
  exact untaken m ⟨other, st, entry, (tests st).mp holds⟩

theorem otherSlot_some_of {s : State} {n : SlotNo} {test : Station → Bool} {P : Station → Prop} (tests : ∀ st, test st = true ↔ P st)
    (some' : ∃ m, m ≠ n ∧ ∃ st, stationAt s m = some st ∧ P st) :
    ∃ m, otherSlot s n test = some m ∧ m ≠ n ∧ ∃ st, stationAt s m = some st ∧ P st := by
  obtain ⟨m, other, st, entry, holds⟩ := some'
  obtain ⟨k, found⟩ := exists_otherSlot ⟨m, other, st, entry, (tests st).mpr holds⟩
  obtain ⟨notSame, q, there, passes⟩ := otherSlot_eq_some found
  exact ⟨k, found, notSame, q, there, (tests q).mp passes⟩

theorem setupRefusal_address {s : State} {u : SlotSetup} (some' : ∃ m, AddressTaken s u m) :
    ∃ m, AddressTaken s u m ∧ setupRefusal s u = some (Answer.fieldWith 3 (slotByte (some m))) := by
  obtain ⟨m, found, holds⟩ := otherSlot_some_of (test := (·.address == u.address)) (fun st => by simp) some'
  refine ⟨m, holds, ?_⟩
  unfold setupRefusal
  rw [found]

theorem setupRefusal_position {s : State} {u : SlotSetup} (address : ∀ m, ¬ AddressTaken s u m) (some' : ∃ m, PositionTaken s u m) :
    ∃ m, PositionTaken s u m ∧ setupRefusal s u = some (Answer.fieldWith 4 (slotByte (some m))) := by
  obtain ⟨m, found, holds⟩ := otherSlot_some_of (test := fun st => st.position.isSome && st.position == u.position)
    (fun st => by simp) some'
  refine ⟨m, holds, ?_⟩
  unfold setupRefusal
  rw [otherSlot_none_of (test := (·.address == u.address)) (fun st => by simp) address, found]

theorem setupRefusal_role {s : State} {u : SlotSetup} (address : ∀ m, ¬ AddressTaken s u m) (position : ∀ m, ¬ PositionTaken s u m)
    (some' : ∃ m, RoleTaken s u m) :
    ∃ m, RoleTaken s u m ∧ setupRefusal s u = some (Answer.fieldWith 2 (slotByte (some m))) := by
  obtain ⟨m, found, holds⟩ := otherSlot_some_of (test := fun st => u.role.single && st.role == u.role)
    (fun st => by simp) some'
  refine ⟨m, holds, ?_⟩
  unfold setupRefusal
  rw [otherSlot_none_of (test := (·.address == u.address)) (fun st => by simp) address,
    otherSlot_none_of (test := fun st => st.position.isSome && st.position == u.position) (fun st => by simp) position, found]

/-- With no other slot in the way, the versions decide (R2). -/
theorem setupRefusal_versions {s : State} {u : SlotSetup} (address : ∀ m, ¬ AddressTaken s u m) (position : ∀ m, ¬ PositionTaken s u m)
    (role : ∀ m, ¬ RoleTaken s u m) : setupRefusal s u = if u.role = .insertFeeder then none else inUseRefusal s u.slot := by
  unfold setupRefusal
  rw [otherSlot_none_of (test := (·.address == u.address)) (fun st => by simp) address,
    otherSlot_none_of (test := fun st => st.position.isSome && st.position == u.position) (fun st => by simp) position,
    otherSlot_none_of (test := fun st => u.role.single && st.role == u.role) (fun st => by simp) role]

theorem single_iff (r : Role) : r.single = true ↔ r = .drive ∨ r = .gate ∨ r = .stacker := by
  cases r <;> simp [Role.single]

/-! ### The answers -/

theorem takeStationSet_refused {slot role address position debounce limit : Nat} {u : SlotSetup} {a : Answer} {s : State}
    (free : configurable s = true) (setup : setupOf slot role address position debounce limit = .ok u)
    (refused : setupRefusal s u = some a) : takeStationSet slot role address position debounce limit s = (a, s) := by
  unfold takeStationSet
  rw [if_neg (by simp [free]), setup]
  dsimp only
  rw [refused]

theorem takeStationSet_configures {slot role address position debounce limit : Nat} {u : SlotSetup} {s : State}
    (free : configurable s = true) (setup : setupOf slot role address position debounce limit = .ok u)
    (allowed : setupRefusal s u = none) :
    takeStationSet slot role address position debounce limit s = (Answer.ok [], configureSlot u s) := by
  unfold takeStationSet
  rw [if_neg (by simp [free]), setup]
  dsimp only
  rw [allowed]

/-- A new station is not usable yet, so its cause stands exactly when it is a feeding one (R14). -/
theorem setup_cause (u : SlotSetup) :
    u.role.feeding = (some u.station).any fun st => st.role.feeding && !st.usable := by
  simp [SlotSetup.station, Station.usable]

/-- A printer begins with no job (R67). -/
theorem configured_printer {u : SlotSetup} {s v : State} (h : Configured u.slot (some u.station) s v) :
    let t : State := if u.role = .printer then { v with track := { v.track with printJobs := 0 } } else v
    Configured u.slot (some u.station) s t ∧ t.track.printJobs = if u.role = .printer then 0 else v.track.printJobs := by
  dsimp only
  split
  · exact ⟨h.printJobs 0, rfl⟩
  · exact ⟨h, rfl⟩

theorem resetStep_printJobs (s : State) : (resetStep s).track.printJobs = s.track.printJobs := by
  unfold resetStep
  rw [clearStep_eq, removeCause_track]

theorem configureSlot_reconfigures (u : SlotSetup) (s : State) :
    Reconfigured u.slot (some u.station) s (configureSlot u s)
      ∧ (configureSlot u s).track.printJobs = if u.role = .printer then 0 else s.track.printJobs := by
  obtain ⟨configured, jobs⟩ := configured_printer (configured_putCause (setup_cause u) s)
  have before : (putCause (.station u.slot) u.role.feeding (configure u.slot (some u.station) s)).track.printJobs
      = s.track.printJobs := by rw [putCause_track]; rfl
  rw [before] at jobs
  have reading : ((some u.station).any (·.role == .reader) || hasRole s .reader u.slot)
      = (u.role == .reader || hasRole s .reader u.slot) := rfl
  unfold configureSlot
  dsimp only at configured jobs ⊢
  split
  next reader => exact ⟨reconfigured_resetStep configured (reading.trans reader), (resetStep_printJobs _).trans jobs⟩
  next other => exact ⟨configured.reconfigured fun reader => absurd (reading.symm.trans reader) other, jobs⟩

/-- Settles O16. -/
theorem stationConfigured : Obligations.StationConfigured := by
  intro s number n role address position debounce limit rest r requested free low high placed option limited place clear unnamed st
  have setup := setupOf_sound (n := n) ⟨low, high⟩ placed option limited
  have allowed : setupRefusal (taken rest s) (askedSetup n role address position debounce limit) = none := by
    rw [setupRefusal_versions]
    · split
      · rfl
      next other => exact inUseRefusal_eq_none fun feeder => unnamed feeder other
    · rintro m ⟨other, q, entry, same⟩
      obtain ⟨free, -, -⟩ := clear m q other entry
      exact free same
    · rintro m ⟨other, q, entry, isPlaced, same⟩
      obtain ⟨-, unplaced | apart, -⟩ := clear m q other entry
      · have none : q.position = none := same.trans unplaced
        rw [none] at isPlaced
        cases isPlaced
      · exact apart same
    · rintro m ⟨other, q, entry, alone, same⟩
      obtain ⟨-, -, roles⟩ := clear m q other entry
      exact roles ((single_iff role).mp alone) same
  obtain ⟨reconfigured, jobs⟩ := configureSlot_reconfigures (askedSetup n role address position debounce limit) (taken rest s)
  refine ⟨_, ?_, reconfigured, jobs⟩
  exact serve_answered requested rfl
    (takeStationSet_configures (s := taken rest s) ((configurable_iff _).mpr free) setup allowed)

/-! ### STATION_CLEAR (R3) -/

theorem clearSlot_reconfigures (n : SlotNo) (s : State) :
    Reconfigured n none s (clearSlot n s) ∧ (clearSlot n s).track.printJobs = s.track.printJobs := by
  have configured : Configured n none s (removeCause (.station n) (configure n none s)) :=
    configured_putCause (b := false) rfl s
  have jobs : (removeCause (.station n) (configure n none s)).track.printJobs = s.track.printJobs := by
    rw [removeCause_track]
    rfl
  unfold clearSlot
  dsimp only
  split
  next reader =>
    rw [Bool.and_eq_true] at reader
    exact ⟨reconfigured_resetStep configured (by simpa using reader.1), (resetStep_printJobs _).trans jobs⟩
  next other =>
    refine ⟨configured.reconfigured fun reading => ⟨rfl, ?_⟩, jobs⟩
    refine Bool.eq_true_of_not_eq_false fun none => other ?_
    rw [(any_reader_iff _).mp none, Bool.and_eq_true]
    exact ⟨by simpa using reading, rfl⟩

theorem takeStationClear_of {n : SlotNo} {s : State} (free : configurable s = true) :
    takeStationClear (slotNumber n) s = (inUseRefusal s n).elim
      (Answer.ok [], if (stationAt s n).isSome then clearSlot n s else s) fun a => (a, s) := by
  unfold takeStationClear
  rw [if_neg (by simp [free]), slotOf_slotNumber]
  dsimp only
  cases inUseRefusal s n <;> rfl

theorem configurable_taken {s : State} {rest : List RxEntry} (free : Configurable s) : configurable (taken rest s) = true :=
  (configurable_iff (taken rest s)).mpr free

theorem not_configurable_taken {s : State} {rest : List RxEntry} (busy : ¬ Configurable s) : configurable (taken rest s) = false :=
  Bool.eq_false_of_not_eq_true fun free => busy ((configurable_iff (taken rest s)).mp free)

/-- Settles O17. -/
theorem stationCleared : Obligations.StationCleared := by
  refine ⟨?_, fun s number slot rest => ⟨?_, fun requested => ⟨fun busy => ?_, fun free outside => ?_, ?_⟩⟩⟩
  · intro s number n rest r requested free
    refine ⟨fun unconfigured => ?_, fun configured unnamed => ?_⟩
    · have allowed : inUseRefusal (taken rest s) n = none := inUseRefusal_eq_none fun feeder => by
        obtain ⟨st, entry, -⟩ := hasRole_iff.mp feeder
        cases entry.symm.trans unconfigured
      refine serve_answered requested rfl ?_
      rw [takeStationClear_of (configurable_taken free), allowed, if_neg]
      · rfl
      · rw [show stationAt (taken rest s) n = none from unconfigured]
        simp
    · have allowed : inUseRefusal (taken rest s) n = none := inUseRefusal_eq_none unnamed
      obtain ⟨reconfigured, jobs⟩ := clearSlot_reconfigures n (taken rest s)
      refine ⟨_, ?_, reconfigured, jobs⟩
      refine serve_answered requested rfl ?_
      rw [takeStationClear_of (configurable_taken free), allowed, if_pos (show (stationAt (taken rest s) n).isSome = true from configured)]
      rfl
  · intro role address position debounce limit r requested refused bad
    refine ⟨fun busy => ?_, fun free some' => ?_, ?_⟩
    · refine serve_answered requested rfl ?_
      unfold takeStationSet
      rw [if_pos (not_configurable_taken busy)]
    · obtain ⟨f, isBad, failed⟩ := setupOf_bad some'
      refine ⟨f, isBad, serve_answered requested rfl ?_⟩
      unfold takeStationSet
      rw [if_neg (by simp [configurable_taken free]), failed]
      rfl
    · intro n q free sound slotIs roleIs other addressed placed doubled
      subst slotIs roleIs
      have setup : setupOf (slotNumber n) q.code address position debounce limit = .ok (askedSetup n q address position debounce limit) := by
        have three := sound 3
        have four := sound 4
        have five := sound 5
        have six := sound 6
        refine setupOf_sound ?_ ?_ ?_ ?_
        · have : ¬ (address = 0 ∨ 30 < address) := fun h => three (.inr (.inr (.inl ⟨rfl, h⟩)))
          omega
        · by_contra h
          rw [not_or, not_le] at h
          exact four (.inr (.inr (.inr (.inl ⟨rfl, mt (drive_iff_code q).mp h.1, h.2⟩))))
        · exact not_lt.mp fun h => five (.inr (.inr (.inr (.inr (.inl ⟨rfl, h⟩)))))
        · exact not_lt.mp fun h => six (.inr (.inr (.inr (.inr (.inr ⟨rfl, h⟩)))))
      have byPosition (m : SlotNo) : PositionTaken (taken rest s) (askedSetup n q address position debounce limit) m ↔ placed m := by
        refine and_congr_right fun _ => exists_congr fun st => and_congr_right fun _ => ?_
        by_cases drive : q = .drive
        · simp only [askedSetup, drive, if_true, ne_eq, not_true_eq_false, false_and, iff_false]
          rintro ⟨isPlaced, none⟩
          rw [none] at isPlaced
          cases isPlaced
        · simp only [askedSetup, drive, if_false, ne_eq, not_false_eq_true, true_and]
          exact ⟨And.right, fun same => ⟨by rw [same]; rfl, same⟩⟩
      have byRole (m : SlotNo) : RoleTaken (taken rest s) (askedSetup n q address position debounce limit) m ↔ doubled m :=
        and_congr_right fun _ => exists_congr fun st => and_congr_right fun _ => and_congr_left' (single_iff q)
      have answered {a : Answer} (why : setupRefusal (taken rest s) (askedSetup n q address position debounce limit) = some a) :
          refused a.result a.data :=
        serve_answered requested rfl (takeStationSet_refused (configurable_taken free) setup why)
      refine ⟨fun some' => ?_, fun notAddressed some' => ?_, fun notAddressed notPlaced some' => ?_, ?_⟩
      · obtain ⟨m, holds, why⟩ := setupRefusal_address (s := taken rest s) (u := askedSetup n q address position debounce limit) some'
        exact ⟨m, holds, answered why⟩
      · obtain ⟨m, holds, why⟩ := setupRefusal_position (s := taken rest s) (u := askedSetup n q address position debounce limit)
          notAddressed (by simpa only [byPosition] using some')
        exact ⟨m, (byPosition m).mp holds, answered why⟩
      · obtain ⟨m, holds, why⟩ := setupRefusal_role (s := taken rest s) (u := askedSetup n q address position debounce limit)
          notAddressed (by simpa only [byPosition] using notPlaced) (by simpa only [byRole] using some')
        exact ⟨m, (byRole m).mp holds, answered why⟩
      · intro notAddressed notPlaced notDoubled v d feeder notFeeder defined names first
        have why := setupRefusal_versions (s := taken rest s) (u := askedSetup n q address position debounce limit)
          notAddressed (by simpa only [byPosition] using notPlaced) (by simpa only [byRole] using notDoubled)
        rw [if_neg (show ¬ (askedSetup n q address position debounce limit).role = .insertFeeder from notFeeder)] at why
        exact answered (why.trans (inUseRefusal_eq_some (s := taken rest s) feeder defined names first))
  · refine serve_answered requested rfl ?_
    unfold takeStationClear
    rw [if_pos (not_configurable_taken busy)]
  · refine serve_answered requested rfl ?_
    unfold takeStationClear
    rw [if_neg (by simp [configurable_taken free]), slotOf_eq_none outside]
    rfl
  · intro n v d free slotIs feeder defined names first
    subst slotIs
    refine serve_answered requested rfl ?_
    rw [takeStationClear_of (configurable_taken free), inUseRefusal_eq_some (s := taken rest s) feeder defined names first]
    rfl

/-! ### STATION_RESTORE (R11) -/

theorem faultingChange_restored (st : Station) : faultingChange st st.restored = false := by
  have guard : (st.restored.recorded == .guardOpen && st.recorded != .guardOpen) = false := by
    cases h : st.recorded <;> simp [Station.restored, h]
  have usable : (st.usable && !st.restored.usable) = false := by
    unfold Station.usable Station.restored
    cases st.health <;> cases st.recorded <;> rfl
  unfold faultingChange
  rw [guard, Bool.and_assoc, usable]
  simp

/-- Settles O18. -/
theorem stationRestored : Obligations.StationRestored := by
  intro s number slot rest requested
  refine ⟨?_, fun unconfigured => ?_⟩
  · rintro n st rfl entry new u
    have restores : takeStationRestore (slotNumber n) (taken rest s) = (Answer.refuse .ok [], stationChanged n st st.restored (taken rest s)) := by
      unfold takeStationRestore
      rw [slotOf_slotNumber]
      dsimp only
      rw [updateStation_of (s := taken rest s) entry, show stationAt (taken rest s) n = some st from entry]
      rfl
    refine ⟨fun sound => ?_, fun faulty => ?_⟩
    · refine serve_answered requested rfl ?_
      rw [restores, stationChanged_unseen (old := st) (new := st.restored) rfl sound]
      rfl
    · refine serve_answered requested rfl ?_
      rw [restores, stationChanged_seen fun ⟨_, same⟩ => faulty (same.trans rfl), faultingChange_restored]
      rfl
  · refine serve_answered requested rfl ?_
    unfold takeStationRestore
    cases slotIs : slotOf slot with
    | none => rfl
    | some n =>
      have number' : slot = slotNumber n := by
        unfold slotOf at slotIs
        split at slotIs
        · cases slotIs
          unfold slotNumber
          simp only
          omega
        · cases slotIs
      dsimp only
      rw [show stationAt (taken rest s) n = none from unconfigured n number']
      rfl

end Sys2Proof.Machine
end

section
/-! The station bus (O20 to O24, O26): what is sent, what an answer says, and what its status, motion and role code do to
the station. -/

namespace Sys2Proof.Machine

/-! ### Answers read back (R16, 12.7) -/

theorem statusOf_statusByte (v : Reported) (m : Motion) :
    statusOf (statusByte v m) = some v ∧ motionOf (statusByte v m) = m := by
  cases v <;> cases m <;> exact ⟨rfl, rfl⟩

theorem outcomeOf_bytes {o : StationOutcome} (fits : ∀ code, o = .read code → code < 2 ^ 32) :
    ∃ code rest, o.bytes = code :: rest ∧ outcomeOf code.toNat rest = some o := by
  cases o with
  | read code =>
    refine ⟨6, nat4 code, rfl, ?_⟩
    have value := natOf_nat4 (fits code rfl)
    calc outcomeOf 6 (nat4 code) = some (.read (natOf (nat4 code))) := rfl
      _ = some (.read code) := by rw [value]
  | _ => exact ⟨_, [], rfl, rfl⟩

theorem resultOf_bytes {role : Role} {tag : Tag} {o : StationOutcome} (reports : role.reports o = true)
    (fits : ∀ code, o = .read code → code < 2 ^ 32) :
    resultOf role (nat1 1 ++ [tag] ++ o.bytes) = some (some (tag, o)) := by
  obtain ⟨code, rest, bytes, outcome⟩ := outcomeOf_bytes fits
  rw [bytes]
  change (match outcomeOf code.toNat rest with
    | some o => if role.reports o then some (some (tag, o)) else none
    | none => none) = _
  rw [outcome]
  simp [reports]

theorem decodeAnswer_busChars {f : BusFrame} {role : Role} {kind status : Byte} {rest : List Byte} (address : f.address < 256)
    (answers : kind = f.kind.answer) :
    decodeAnswer f role (busChars f.address ([kind, status] ++ rest)) = answerBody f.kind role status rest := by
  have content : (busChars f.address ([kind, status] ++ rest)).map (·.data)
      = (BitVec.ofNat 8 f.address :: kind :: status :: rest) ++ crcBytes (BitVec.ofNat 8 f.address :: kind :: status :: rest) := by
    simp [busChars, List.map_map, Function.comp_def]
  have marks : marksHold (busChars f.address ([kind, status] ++ rest)) = true := by
    simp [marksHold, busChars]
  have split := splitCheck_append (content := BitVec.ofNat 8 f.address :: kind :: status :: rest)
    (check := crcBytes (BitVec.ofNat 8 f.address :: kind :: status :: rest)) (by simp [crcBytes])
  have checked : checkHolds ((BitVec.ofNat 8 f.address :: kind :: status :: rest)
      ++ crcBytes (BitVec.ofNat 8 f.address :: kind :: status :: rest)) = true := by
    unfold checkHolds
    rw [split]
    simp
  have own : (BitVec.ofNat 8 f.address).toNat = f.address := by
    rw [BitVec.toNat_ofNat]
    omega
  unfold decodeAnswer
  dsimp only
  rw [content, split, marks, checked]
  dsimp only
  rw [own, answers, if_pos (by simp)]

/-- Settles O26. -/
theorem answerRoundTrip : Obligations.AnswerRoundTrip := by
  intro f role a address identity onlyPolls results
  obtain ⟨status, motion⟩ := statusOf_statusByte a.status a.motion
  obtain ⟨v, m, roleCode, result⟩ := a
  dsimp only at status motion identity onlyPolls results
  unfold encodeAnswer
  rw [decodeAnswer_busChars address rfl]
  unfold answerBody
  dsimp only
  rw [status, motion]
  cases kind : f.kind with
  | command =>
    obtain rfl : result = none := onlyPolls (by simp [kind])
    obtain rfl : roleCode = none := by simpa [kind] using identity
    rfl
  | identity =>
    obtain rfl : result = none := onlyPolls (by simp [kind])
    obtain ⟨code, rfl⟩ := Option.isSome_iff_exists.mp (identity.mp kind)
    rfl
  | poll =>
    obtain rfl : roleCode = none := by simpa [kind] using identity
    cases result with
    | none => rfl
    | some r =>
      obtain ⟨tag, o⟩ := r
      obtain ⟨reports, fits⟩ := results tag o rfl
      change (resultOf role (nat1 1 ++ [tag] ++ o.bytes)).map _ = _
      rw [resultOf_bytes reports fits]
      rfl

/-- What a good answer carries, by the kind of its frame (12.7). -/
theorem decodeAnswer_carries {f : BusFrame} {role : Role} {answer : List BusChar} {a : StationAnswer}
    (decoded : decodeAnswer f role answer = some a) :
    (f.kind ≠ .identity → a.roleCode = none) ∧ (f.kind ≠ .poll → a.result = none) := by
  have body {status : Byte} {rest : List Byte} (read : answerBody f.kind role status rest = some a) :
      (f.kind ≠ .identity → a.roleCode = none) ∧ (f.kind ≠ .poll → a.result = none) := by
    unfold answerBody at read
    obtain ⟨v, -, read⟩ := Option.bind_eq_some_iff.mp read
    split at read
    · cases read
      exact ⟨fun _ => rfl, fun _ => rfl⟩
    next kind _ =>
      cases read
      exact ⟨fun other => absurd kind other, fun _ => rfl⟩
    next kind _ =>
      obtain ⟨r, -, rfl⟩ := Option.map_eq_some_iff.mp read
      exact ⟨fun _ => rfl, fun other => absurd kind other⟩
    · cases read
  unfold decodeAnswer at decoded
  dsimp only at decoded
  split at decoded
  · split at decoded
    · exact body decoded
    · cases decoded
  · cases decoded

/-! ### The station after an answer (R4, R5, R10) -/

theorem updateStation_const {n : SlotNo} {st : Station} {s : State} (entry : stationAt s n = some st) (f : Station → Station) :
    updateStation n f s = updateStation n (fun _ => f st) s := by
  rw [updateStation_of entry, updateStation_of entry]

theorem own_iff (r : Recorded) : r.own = true ↔ r = .unknown ∨ r = .silent := by
  cases r <;> simp [Recorded.own]

theorem statusTakenBy_answered {kind : FrameKind} {st : Station} {v : Reported} {P : Prop}
    (pending : (st.identityPending || (st.recorded.own && kind != .identity)) = true ↔ P) :
    StatusTakenBy v P st (st.answered kind v) := by
  have takes : (st.recorded.own || !st.debounce || st.lastReported == some v) = true
      ↔ st.recorded = .unknown ∨ st.recorded = .silent ∨ st.debounce = false ∨ st.lastReported = some v := by
    simp [own_iff, or_assoc]
  refine ⟨rfl, fun taken => ?_, fun kept => ?_, pending⟩
  · exact if_pos (takes.mpr taken)
  · exact if_neg (mt takes.mp kept)

theorem stationAt_stationChanged (n : SlotNo) (old new : Station) (s : State) :
    stationAt (stationChanged n old new s) n = some new := by
  have table := stationChanged_stations n old new s
  unfold stationAt
  rw [table]
  exact stationAt_putStation n (some new) s

theorem stationAt_stationChanged_other {n m : SlotNo} (other : m ≠ n) (old new : Station) (s : State) :
    stationAt (stationChanged n old new s) m = stationAt s m := by
  have table := stationChanged_stations n old new s
  rw [← stationAt_putStation_other other (some new) s]
  unfold stationAt
  rw [table]

theorem stationAt_updateStation {n : SlotNo} {st : Station} {s : State} (entry : stationAt s n = some st) (f : Station → Station) :
    stationAt (updateStation n f s) n = some (f st) := by
  rw [updateStation_of entry, stationAt_stationChanged]

/-- The motion is taken of a drive alone (R6). -/
theorem takeMotion_of {n : SlotNo} {st : Station} {m : Motion} {s : State} (entry : stationAt s n = some st) :
    takeMotion n m s = if st.role = .drive then takeMotion n m s else s := by
  split
  · rfl
  next other =>
    unfold takeMotion
    rw [entry]
    dsimp only
    rw [if_neg other]

theorem goodAnswer_taken {s : State} {f : BusFrame} {n : SlotNo} {st : Station} {answer : List BusChar} {a : StationAnswer}
    (waits : s.bus.inProgress = some f) (slot : f.slot = some n) (entry : stationAt s n = some st)
    (decoded : decodeAnswer f st.role answer = some a) :
    exec (.goodAnswer answer) s = .next (handAnswer n f.kind a (freeBus (newMoment s))) := by
  change endBusFrame _ s = _
  unfold endBusFrame
  rw [waits]
  dsimp only
  unfold takeAnswer
  rw [slot]
  dsimp only
  rw [show stationAt (newMoment s) n = some st from entry, Option.bind_some, decoded]

/-- Settles O20. -/
theorem statusTaken : Obligations.StatusTaken := by
  intro s f n st answer a waits slot entry kind decoded
  have notIdentity : f.kind ≠ .identity := by
    rintro same
    rcases kind with h | h <;> rw [same] at h <;> cases h
  obtain ⟨noCode, -⟩ := decodeAnswer_carries decoded
  have free : stationAt (freeBus (newMoment s)) n = some st := entry
  refine ⟨st.answered f.kind a.status, statusTakenBy_answered ?_, ?_⟩
  · simp [own_iff, notIdentity]
  · intro u v
    have told : takeMotion n a.motion (updateStation n (Station.answered f.kind a.status) (freeBus (newMoment s))) = v := by
      rw [updateStation_const free, takeMotion_of (stationAt_updateStation free _)]
      rfl
    have handed (r : Option (Tag × StationOutcome)) (same : a.result = r) :
        exec (.goodAnswer answer) s = .next (takeAnswerResult n r v) := by
      rw [goodAnswer_taken waits slot entry decoded]
      unfold handAnswer
      dsimp only
      rw [told, noCode notIdentity, same]
      rfl
    exact ⟨fun none => handed _ none, fun t o result => handed _ result⟩

theorem notAnswered_eq (st : Station) : st.notAnswered = { st with
    unanswered := min 3 (st.unanswered + 1)
    recorded := if 2 ≤ st.unanswered then .silent else st.recorded
    lastReported := if 2 ≤ st.unanswered then none else st.lastReported } := by
  unfold Station.notAnswered
  by_cases third : 2 ≤ st.unanswered
  · rw [if_pos (by omega), if_pos third, if_pos third, Nat.min_eq_left (by omega)]
  · rw [if_neg (by omega), if_neg third, if_neg third, Nat.min_eq_right (by omega)]

/-- Settles O21. -/
theorem unansweredCounted : Obligations.UnansweredCounted := by
  refine ⟨fun s f n st waits slot entry => ?_, fun s f waits slot => ?_⟩
  · intro free new t
    have counted : noAnswer f (newMoment s) = t := by
      unfold noAnswer
      rw [slot]
      exact (updateStation_const (s := free) entry Station.notAnswered).trans (by rw [notAnswered_eq])
    have ends : endBusFrame noAnswer s = .next t := by
      unfold endBusFrame
      rw [waits]
      exact congrArg Host.Outcome.next counted
    refine ⟨ends, ends, fun answer failed => ?_⟩
    change endBusFrame _ s = _
    unfold endBusFrame
    rw [waits]
    dsimp only
    unfold takeAnswer
    rw [slot]
    dsimp only
    rw [show stationAt (newMoment s) n = some st from entry, Option.bind_some, failed]
    exact congrArg Host.Outcome.next counted
  · intro free
    have ends : endBusFrame noAnswer s = .next free := by
      unfold endBusFrame
      rw [waits]
      dsimp only
      unfold noAnswer
      rw [slot]
      rfl
    refine ⟨ends, ends, fun answer => ?_⟩
    change endBusFrame _ s = _
    unfold endBusFrame
    rw [waits]
    dsimp only
    unfold takeAnswer
    rw [slot]
    rfl

/-! ### The identity (R10) -/

/-- From s to t the station table, the line, the drive's frames and the notices have changed alone. -/
def StationTold (s t : State) : Prop :=
  t = { s with
    stations := t.stations
    bus := { s.bus with txQueue := t.bus.txQueue }
    line := t.line
    link := { s.link with notices := t.link.notices } }

theorem StationTold.trans {s t u : State} (h : StationTold s t) (k : StationTold t u) : StationTold s u := by
  unfold StationTold at *
  rw [k, h]

theorem Announces.stationTold {s t : State} (h : Announces s t) : StationTold s t := by
  unfold Announces at h
  unfold StationTold
  rw [h]

theorem stationTold_handFault (k : FaultCause) (s : State) : StationTold s (handFault k s) := by
  unfold StationTold
  rw [handFault_eq]

theorem stationTold_stationChanged (n : SlotNo) (old new : Station) (s : State) : StationTold s (stationChanged n old new s) := by
  have told : StationTold s (announceStation n new s) :=
    StationTold.trans (t := putStation n (some new) s) rfl (announces_announceStation n new s).stationTold
  rcases stationChanged_cases n old new s with ⟨e, -⟩ | e | e
  · exact e ▸ rfl
  · exact e ▸ told
  · exact e ▸ told.trans (stationTold_handFault _ _)

theorem stationTold_updateStation (n : SlotNo) (f : Station → Station) (s : State) : StationTold s (updateStation n f s) := by
  unfold updateStation
  split
  · exact stationTold_stationChanged _ _ _ _
  · rfl

/-- The line takes a motion and changes, hands a fault, or stays (R173, R176, R177). -/
theorem lineMotion_cases (n : SlotNo) (m : Motion) (changed : Bool) (s : State) :
    lineMotion n m changed s = s ∨ lineMotion n m changed s = handFault (.driveHalt n) s
      ∨ ∃ l, lineMotion n m changed s = changeLine l s := by
  unfold lineMotion
  split
  · split
    · exact .inr (.inr ⟨_, rfl⟩)
    · exact .inl rfl
  · split
    · exact .inr (.inr ⟨_, rfl⟩)
    · exact .inl rfl
  · split
    · exact .inr (.inl rfl)
    · exact .inl rfl
  · split
    · exact .inr (.inl rfl)
    · exact .inl rfl
  · exact .inl rfl
  · exact .inl rfl

theorem stationTold_lineMotion (n : SlotNo) (m : Motion) (changed : Bool) (s : State) :
    StationTold s (lineMotion n m changed s) := by
  rcases lineMotion_cases n m changed s with e | e | ⟨l, e⟩
  · rw [e]
    exact (Announces.refl s).stationTold
  · rw [e]
    exact stationTold_handFault _ s
  · rw [e]
    exact rfl

theorem lineMotion_stations (n : SlotNo) (m : Motion) (changed : Bool) (s : State) :
    (lineMotion n m changed s).stations = s.stations := by
  rcases lineMotion_cases n m changed s with e | e | ⟨l, e⟩
  · rw [e]
  · rw [e, handFault_stations]
  · rw [e]
    rfl

theorem takeMotion_drive {n : SlotNo} {st : Station} {m : Motion} {s : State} (entry : stationAt s n = some st)
    (drive : st.role = .drive) :
    takeMotion n m s = lineMotion n m (st.motion != some m) (putStation n (some { st with motion := some m }) s) := by
  unfold takeMotion
  rw [entry]
  dsimp only
  rw [if_pos drive]

theorem stationTold_takeMotion (n : SlotNo) (m : Motion) (s : State) : StationTold s (takeMotion n m s) := by
  unfold takeMotion
  split
  · split
    · exact StationTold.trans (t := putStation n _ s) rfl (stationTold_lineMotion _ _ _ _)
    · rfl
  · rfl

/-- The slots after a motion: the drive's own has it, the others stay (R6). -/
theorem stationAt_takeMotion {n : SlotNo} {st : Station} {m : Motion} {s : State} (entry : stationAt s n = some st)
    (drive : st.role = .drive) :
    stationAt (takeMotion n m s) n = some { st with motion := some m }
      ∧ ∀ k, k ≠ n → stationAt (takeMotion n m s) k = stationAt s k := by
  have table : ∀ k, stationAt (takeMotion n m s) k = stationAt (putStation n (some { st with motion := some m }) s) k := by
    intro k
    rw [takeMotion_drive entry drive]
    unfold stationAt
    rw [lineMotion_stations]
  exact ⟨(table n).trans (stationAt_putStation _ _ _), fun k other => (table k).trans (stationAt_putStation_other other _ _)⟩

/-- Settles O22. -/
theorem identityCompared : Obligations.IdentityCompared := by
  intro s f n st answer a code waits slot entry kind decoded coded compared
  obtain ⟨-, noResult⟩ := decodeAnswer_carries decoded
  have free : stationAt (freeBus (newMoment s)) n = some st := entry
  refine ⟨st.answered f.kind a.status, statusTakenBy_answered (by simp [kind]), ?_⟩
  intro u t
  have inUpdate : stationAt u n = some (st.answered f.kind a.status) := stationAt_updateStation free _
  have moved : takeMotion n a.motion (updateStation n (Station.answered f.kind a.status) (freeBus (newMoment s)))
      = if st.role = .drive then takeMotion n a.motion u else u := by
    rw [updateStation_const free]
    exact takeMotion_of (st := st.answered f.kind a.status) inUpdate
  obtain ⟨v, vIs⟩ : ∃ v, v = if st.role = .drive then takeMotion n a.motion u else u := ⟨_, rfl⟩
  have after : stationAt v n = some { st.answered f.kind a.status with motion := if st.role = .drive then some a.motion else st.motion }
      ∧ ∀ k, k ≠ n → stationAt v k = stationAt s k := by
    have others : ∀ k, k ≠ n → stationAt u k = stationAt s k := fun k other => by
      refine Eq.trans ?_ (show stationAt (freeBus (newMoment s)) k = stationAt s k from rfl)
      rw [show u = stationChanged n st _ _ from updateStation_of free _, stationAt_stationChanged_other other]
    by_cases drive : st.role = .drive
    · rw [vIs, if_pos drive, if_pos drive]
      obtain ⟨own, rest⟩ := stationAt_takeMotion (m := a.motion) inUpdate drive
      exact ⟨own, fun k other => (rest k other).trans (others k other)⟩
    · rw [vIs, if_neg drive, if_neg drive]
      exact ⟨inUpdate, others⟩
  have tIs : t = updateStation n compared v := by rw [vIs]
  obtain ⟨own, others⟩ := after
  have ends : exec (.goodAnswer answer) s = .next t := by
    rw [goodAnswer_taken waits slot entry decoded]
    unfold handAnswer
    dsimp only
    rw [moved, ← vIs, coded, noResult (by simp [kind]), tIs]
    change Host.Outcome.next (updateStation n (Station.identified code) v) = _
    rw [updateStation_const own, updateStation_const own compared]
    rfl
  have told : StationTold (freeBus (newMoment s)) t := by
    have first : StationTold (freeBus (newMoment s)) u := stationTold_updateStation _ _ _
    have second : StationTold u v := by
      rw [vIs]
      split
      · exact stationTold_takeMotion _ _ _
      · rfl
    exact tIs ▸ (first.trans second).trans (stationTold_updateStation _ _ _)
  refine ⟨ends, by rw [told]; rfl, fun m other => ?_, by rw [told]; rfl, by rw [told]; rfl, by rw [told]; rfl, by rw [told]; rfl,
    by rw [told]; rfl, by rw [told]; rfl, ?_⟩
  · rw [tIs, updateStation_of own, stationAt_stationChanged_other other, others m other]
  · rw [tIs, stationAt_updateStation own]

/-! ### The counts of health (R7 to R9) -/

theorem faultOutcome_iff {r : Role} {o : StationOutcome} (reports : r.reports o = true) :
    r.faultOutcome o = true ↔ o ∈ [StationOutcome.miss, .double, .printFault, .noRead, .sealFault] := by
  cases o <;> cases r <;> simp_all [Role.reports, Role.faultOutcome]

theorem goodOutcome_iff {r : Role} {o : StationOutcome} (reports : r.reports o = true) :
    r.goodOutcome o = true ↔ o ∈ [StationOutcome.fed, .printed, .sealed] ∨ ∃ code, o = .read code := by
  cases o <;> cases r <;> simp_all [Role.reports, Role.goodOutcome]

theorem afterResult_unwell {st : Station} (o : StationOutcome) (unwell : st.health ≠ .ok) : st.afterResult o = st := by
  unfold Station.afterResult
  rw [if_pos unwell]

/-- Settles O23. -/
theorem healthCounts : Obligations.HealthCounts := by
  refine ⟨fun st o unwell => afterResult_unwell o unwell, fun st unwell => ?_, fun st o well reports => ⟨fun fault => ?_,
    fun good => ?_, fun other => ?_⟩, fun st well => ?_⟩
  · unfold Station.afterNoReport
    rw [if_pos unwell]
  · unfold Station.afterResult
    rw [if_neg (not_not.mpr well), if_pos ((faultOutcome_iff reports).mpr fault)]
    rfl
  · have notFault : ¬ st.role.faultOutcome o = true := fun fault => by
      have member := (faultOutcome_iff reports).mp fault
      rcases good with good | ⟨code, rfl⟩
      · cases o <;> simp at good member
      · simp at member
    unfold Station.afterResult
    rw [if_neg (not_not.mpr well), if_neg notFault, if_pos ((goodOutcome_iff reports).mpr good)]
  · have notFault : ¬ st.role.faultOutcome o = true := fun fault => by
      have member := (faultOutcome_iff reports).mp fault
      cases o <;> simp at other member
    have notGood : ¬ st.role.goodOutcome o = true := fun good => by
      rcases (goodOutcome_iff reports).mp good with member | ⟨code, rfl⟩
      · cases o <;> simp at other member
      · simp at other
    unfold Station.afterResult
    rw [if_neg (not_not.mpr well), if_neg notFault, if_neg notGood]
  · have third : 3 ≤ st.noReportCount + 1 ↔ 2 ≤ st.noReportCount := by omega
    unfold Station.afterNoReport
    rw [if_neg (not_not.mpr well)]
    simp only [third]
    rfl

/-! ### Sending (R16, R17) -/

theorem sendCommand_sends {s : State} {c : BusCommand} {rest : List BusCommand} {st : Station} (free : s.bus.inProgress = none)
    (queue : s.bus.txQueue = c :: rest) (entry : stationAt s c.slot = some st) :
    execSendCommand s = .next { s with
      bus := { s.bus with
        txQueue := rest
        inProgress := some { slot := some c.slot, kind := .command, address := st.address, chars := busChars st.address c.order.bytes } }
      line := { s.line with driveOrder := s.line.driveOrder.sentBy c.order } } := by
  unfold execSendCommand
  rw [free, queue]
  dsimp only
  rw [entry]
  rfl

theorem pendingIdentity_eq_some {s : State} {n : SlotNo} {st : Station} (entry : stationAt s n = some st)
    (asks : st.identityPending = true) (lowest : ∀ m st', m < n → stationAt s m = some st' → st'.identityPending = false) :
    pendingIdentity s = some n := by
  refine find?_allSlots_eq_some_iff.mpr ⟨by rw [entry]; exact asks, fun m less => ?_⟩
  cases there : stationAt s m with
  | none => rfl
  | some st' => exact lowest m st' less there

/-- Settles O24. -/
theorem commandsAndIdentitySent : Obligations.CommandsAndIdentitySent := by
  unfold Obligations.CommandsAndIdentitySent
  intro characters text order command
  have bytes (o : BusOrder) : o.bytes = command o := by
    cases o with
    | cell tag o =>
      cases o with
      | stack mark => cases mark <;> rfl
      | _ => rfl
    | run => rfl
    | stop => rfl
  refine ⟨fun s c rest st free queue entry => ?_, fun s n st free queue entry asks lowest => ?_,
    fun s => ⟨fun busy => ⟨?_, ?_, ?_⟩, fun waits => ⟨?_, ?_⟩, fun ⟨n, st, entry, asks⟩ => ?_, fun empty => ?_, fun quiet => ?_,
      fun unconfigured => ?_⟩⟩
  · refine (sendCommand_sends free queue entry).trans ?_
    rw [bytes]
    have sent : s.line.driveOrder.sentBy c.order = match c.order, s.line.driveOrder with
        | .run, .run _ => .run true
        | .stop, .stop _ => .stop true
        | _, d => d := by
      cases c.order <;> cases s.line.driveOrder <;> rfl
    rw [sent]
    rfl
  · change execSendIdentityRequest s = _
    unfold execSendIdentityRequest
    rw [free, queue, pendingIdentity_eq_some entry asks lowest]
    dsimp only
    rw [entry]
    rfl
  · change execSendCommand s = _
    unfold execSendCommand
    split
    next free _ => exact absurd free busy
    next => rfl
  · change execSendIdentityRequest s = _
    unfold execSendIdentityRequest
    split
    next free _ _ => exact absurd free busy
    next => rfl
  · change execSendPoll s = _
    unfold execSendPoll
    split
    next free _ _ _ => exact absurd free busy
    next => rfl
  · change execSendIdentityRequest s = _
    unfold execSendIdentityRequest
    split
    next empty _ => exact absurd empty waits
    next => rfl
  · change execSendPoll s = _
    unfold execSendPoll
    split
    next empty _ _ => exact absurd empty waits
    next => rfl
  · change execSendPoll s = _
    unfold execSendPoll
    split
    next none _ =>
      rw [(pendingIdentity_eq_none_iff s).mp none n st entry] at asks
      cases asks
    next => rfl
  · change execSendCommand s = _
    unfold execSendCommand
    rw [empty]
    split
    next h => cases h
    next => rfl
  · change execSendIdentityRequest s = _
    unfold execSendIdentityRequest
    rw [(pendingIdentity_eq_none_iff s).mpr quiet]
    split
    next h => cases h
    next => rfl
  · change execSendPoll s = _
    unfold execSendPoll
    split
    next => rw [unconfigured]
    next => rfl

end Sys2Proof.Machine
end

section
/-! What every applied result leaves alone, said once (`Applied`), and the results of the insert feeders, the printer, the
carrier feeder and the sealer (O29) and of the reader (O31). -/

namespace Sys2Proof.Machine

/-! ### The state in which a result is applied (R59, R61) -/

/-- The state with a cell changed and a command withdrawn, in which a result's rule acts. -/
def applied (n : SlotNo) (t : Tag) (p : Nat) (d : Cell) (jobs : Nat) (s : State) : State :=
  { s with
    bus := { s.bus with txQueue := unsent n t s }
    track := { s.track with cells := s.track.cells.set p d, printJobs := jobs } }

section
variable {s : State} {n : SlotNo} {st : Station} {t : Tag} {p : Nat} {c d : Cell} {jobs : Nat} {o : StationOutcome}

theorem takeResult_applied (entry : stationAt s n = some st) (awaits : Awaits s n t p c) (o : StationOutcome) :
    takeResult n t o s = applyOutcome n st.role p o (applied n t p (ended n c) s.track.printJobs s) :=
  takeResult_of entry awaits o

theorem awaits_inside (awaits : Awaits s n t p c) : p < s.track.cells.length := by
  obtain ⟨cell, -⟩ := awaits
  exact (List.getElem?_eq_some_iff.mp cell).1

theorem applied_cell (inside : p < s.track.cells.length) : (applied n t p d jobs s).track.cells[p]? = some d := by
  unfold applied
  simp [inside]

theorem cellAt_applied (inside : p < s.track.cells.length) : cellAt (applied n t p d jobs s) p = some d :=
  applied_cell inside

theorem modifyCell_applied (inside : p < s.track.cells.length) (f : Cell → Cell) :
    modifyCell p f (applied n t p d jobs s) = applied n t p (f d) jobs s := by
  rw [modifyCell_of (applied_cell inside) f]
  unfold applied
  dsimp only
  rw [List.set_set]

theorem returnCredit_applied : returnCredit (applied n t p d jobs s) = applied n t p d (jobs - 1) s := rfl

/-- A result that moves the cell, its station's counts and perhaps a counter, and nothing else. -/
theorem tallies_counted (entry : stationAt s n = some st) :
    Tallies (putStation n (some (st.afterResult o)) (applied n t p d jobs s)) (countResult n o (applied n t p d jobs s)) :=
  (countResult_quiet (s := applied n t p d jobs s) entry o).tallies

end

/-- What a result of a station has done that moved the cell, the station's counts and the counters alone. -/
def Took (s : State) (n : SlotNo) (st : Station) (t : Tag) (p : Nat) (o : StationOutcome) (d : Cell) (jobs : Nat)
    (counters : Counters) : Prop :=
  takeResult n t o s = { s with
    stations := s.stations.set n.val (some (st.afterResult o)) n.isLt
    bus := { s.bus with txQueue := unsent n t s }
    track := { s.track with cells := s.track.cells.set p d, printJobs := jobs }
    counters := counters
    line := { s.line with feed := (takeResult n t o s).line.feed }
    link := { s.link with notices := (takeResult n t o s).link.notices } }

section
variable {s : State} {n : SlotNo} {st : Station} {t : Tag} {p : Nat} {d : Cell} {jobs : Nat} {o : StationOutcome}

theorem took_of_tallies {u : State} {counters : Counters} (result : takeResult n t o s = u)
    (moved : Tallies (putStation n (some (st.afterResult o)) (applied n t p d jobs s)) u) (counts : u.counters = counters) :
    Took s n st t p o d jobs counters := by
  unfold Took
  rw [result, ← counts]
  unfold Tallies at moved
  exact moved

/-- A result that no counter takes. -/
theorem took_uncounted (entry : stationAt s n = some st)
    (result : takeResult n t o s = countResult n o (applied n t p d jobs s)) : Took s n st t p o d jobs s.counters := by
  refine took_of_tallies result (tallies_counted entry) ?_
  have quiet := countResult_quiet (s := applied n t p d jobs s) entry o
  exact quiet.counters_eq

/-- A result that the counters take as an event. -/
theorem took_counted (entry : stationAt s n = some st) {e : TallyEvent}
    (result : takeResult n t o s = tally e (some n) (countResult n o (applied n t p d jobs s))) :
    Took s n st t p o d jobs (tally e (some n) s).counters := by
  refine took_of_tallies result ((tallies_counted entry).trans (tallies_tally _ _ _)) ?_
  have quiet := countResult_quiet (s := applied n t p d jobs s) entry o
  refine tally_counters_congr _ _ quiet.counters_eq ?_
  rw [quiet]
  rfl

end

/-- Settles O29. -/
theorem feedingResults : Obligations.FeedingResults := by
  intro s n st t p c entry awaits took counted c' jobs
  have inside := awaits_inside awaits
  have applies {r : Role} (role : st.role = r) (o : StationOutcome) :
      takeResult n t o s = applyOutcome n r p o (applied n t p (ended n c) s.track.printJobs s) := by
    rw [takeResult_applied entry awaits, role]
  have changed (f : Cell → Cell) (j : Nat) :
      modifyCell p f (applied n t p (ended n c) j s) = applied n t p (f (ended n c)) j s := modifyCell_applied inside f
  refine ⟨fun role => ⟨?_, ?_, ?_⟩, fun role => ⟨?_, ?_⟩, fun role => ⟨?_, ?_⟩, fun role => ⟨?_, ?_⟩⟩
  · exact took_counted entry ((applies role .fed).trans (congrArg (fun x => tally .insertFeeds (some n) (countResult n .fed x)) (changed _ _)))
  · exact took_counted entry ((applies role .miss).trans (congrArg (fun x => tally .insertMisses (some n) (countResult n .miss x)) (changed _ _)))
  · exact took_counted entry ((applies role .double).trans (congrArg (fun x => tally .insertDoubles (some n) (countResult n .double x)) (changed _ _)))
  · refine took_counted entry ((applies role .printed).trans ?_)
    unfold applyOutcome printerResult
    dsimp only
    rw [setPrint, changed]
    rfl
  · refine took_counted entry ((applies role .printFault).trans ?_)
    unfold applyOutcome printerResult
    dsimp only
    rw [setPrint, changed, returnCredit_applied, failAt, condemnAt, modifyCell_applied inside]
  · exact took_uncounted entry ((applies role .fed).trans (congrArg (countResult n .fed) (changed _ _)))
  · refine took_counted entry ((applies role .miss).trans ?_)
    unfold applyOutcome carrierResult
    dsimp only
    rw [changed, failAt, condemnAt, modifyCell_applied inside]
  · exact took_uncounted entry ((applies role .sealed).trans (congrArg (countResult n .sealed) (changed _ _)))
  · exact took_uncounted entry ((applies role .sealFault).trans (congrArg (countResult n .sealFault) (changed _ _)))

/-! ### The reader (R109, R110) -/

theorem codeAt_iff {s : State} {q code : Nat} :
    codeAt s q code = true ↔ ∃ d, s.track.cells[q]? = some d ∧ ∃ x, d.record = some x ∧ x.sequence = code := by
  unfold codeAt cellAt
  cases s.track.cells[q]? with
  | none => simp
  | some d => cases h : d.record <;> simp [h]

theorem readOutcome_eq {s : State} {c : Cell} {code r : Nat} (reader : readerPosition s = some r) :
    readOutcome s c code = if ∃ x, c.record = some x ∧ x.sequence = code then .matched
      else if 0 < r ∧ ∃ d, s.track.cells[r - 1]? = some d ∧ ∃ x, d.record = some x ∧ x.sequence = code then .mismatch (some .upstream)
      else if ∃ d, s.track.cells[r + 1]? = some d ∧ ∃ x, d.record = some x ∧ x.sequence = code then .mismatch (some .downstream)
      else .mismatch none := by
  have own : c.record.any (·.sequence == code) = true ↔ ∃ x, c.record = some x ∧ x.sequence = code := by
    cases h : c.record <;> simp
  unfold readOutcome
  rw [reader]
  simp only [own, codeAt_iff]

/-- The change of a cell's exchanges is not seen by the comparison of a code. -/
theorem readOutcome_applied {s : State} {n : SlotNo} {t : Tag} {p : Nat} {c : Cell} {jobs : Nat} (cell : s.track.cells[p]? = some c)
    (code : Nat) : readOutcome (applied n t p (ended n c) jobs s) (ended n c) code = readOutcome s c code := by
  have inside := (List.getElem?_eq_some_iff.mp cell).1
  have same (q : Nat) : codeAt (applied n t p (ended n c) jobs s) q code = codeAt s q code := by
    unfold codeAt cellAt applied
    dsimp only
    rw [List.getElem?_set]
    by_cases here : p = q
    · subst here
      rw [if_pos rfl, if_pos inside, cell]
      rfl
    · rw [if_neg here]
  have reader : readerPosition (applied n t p (ended n c) jobs s) = readerPosition s := rfl
  unfold readOutcome
  rw [reader]
  simp only [same]
  rfl

/-- A result that moved the cell, the station, the counters and what they announce has moved nothing else. -/
theorem applied_of_tallies {s v : State} {n : SlotNo} {st : Station} {t : Tag} {p : Nat} {o : StationOutcome} {d : Cell} {jobs : Nat}
    (h : Tallies (putStation n (some (st.afterResult o)) (applied n t p d jobs s)) v) :
    Applied s v n t p st o d ∧ v.line.state = s.line.state ∧ v.track.printJobs = jobs
      ∧ v.intake = s.intake ∧ v.versions = s.versions ∧ v.binding = s.binding ∧ v.step = s.step ∧ v.bundles = s.bundles
      ∧ v.link.reports = s.link.reports := by
  unfold Tallies at h
  have state : v.line.state = s.line.state := by rw [h]; rfl
  refine ⟨⟨by rw [h]; rfl, by rw [h]; rfl, by rw [h]; rfl, fun _ => ⟨by rw [h]; rfl, by rw [h]; rfl⟩, by rw [h]; rfl, by rw [h]; rfl, by rw [h]; rfl,
    by rw [h]; rfl, by rw [h]; rfl, by rw [h]; rfl, by rw [h]; rfl, by rw [h]; rfl⟩, state, by rw [h]; rfl, by rw [h]; rfl, by rw [h]; rfl,
    by rw [h]; rfl, by rw [h]; rfl, by rw [h]; rfl, by rw [h]; rfl⟩

/-- The cell after a read (R109, R110). -/
def verified (n : SlotNo) (o : ReadOutcome) (c : Cell) : Cell :=
  match o with
  | .matched => { c with verification := .matched }
  | .mismatch _ => Cell.condemn { kind := .verifyMismatch, station := some n } { c with verification := .failed }
  | .noRead => Cell.condemn { kind := .verifyNoRead, station := some n } { c with verification := .failed }

theorem verifyCell_applied {s : State} {n : SlotNo} {t : Tag} {p : Nat} {c : Cell} {jobs : Nat} (inside : p < s.track.cells.length)
    (o : ReadOutcome) : verifyCell n p o (applied n t p c jobs s) = applied n t p (verified n o c) jobs s := by
  cases o with
  | matched => exact modifyCell_applied inside _
  | mismatch slip =>
    unfold verifyCell failAt condemnAt
    dsimp only
    rw [modifyCell_applied inside, modifyCell_applied inside]
    rfl
  | noRead =>
    unfold verifyCell failAt condemnAt
    dsimp only
    rw [modifyCell_applied inside, modifyCell_applied inside]
    rfl

theorem tallies_tallyRead (n : SlotNo) (o : ReadOutcome) (s : State) : Tallies s (tallyRead n o s) := by
  unfold tallyRead
  split
  · exact tallies_tally _ _ _
  · exact tallies_tally _ _ _
  · exact (tallies_tally _ _ _).trans (tallies_tally _ _ _)
  · exact tallies_tally _ _ _

theorem tallyRead_counters {s t : State} (n : SlotNo) (o : ReadOutcome) (counters : s.counters = t.counters) (params : s.params = t.params) :
    (tallyRead n o s).counters = (tallyRead n o t).counters := by
  unfold tallyRead
  split
  · exact tally_counters_congr _ _ counters params
  · exact tally_counters_congr _ _ counters params
  · exact tally_counters_congr _ _ (tally_counters_congr _ _ counters params) (by rw [tally_params, tally_params, params])
  · exact tally_counters_congr _ _ counters params

/-- A read is applied to the cell, the station and the counters, and then handed to the step monitor. -/
theorem takeRead_applied {s : State} {n : SlotNo} {st : Station} {t : Tag} {p : Nat} {c : Cell} (entry : stationAt s n = some st)
    (inside : p < s.track.cells.length) (o : StationOutcome) (code : Option Nat) (handed : ReadOutcome) :
    ∃ v : State, Applied s v n t p st o (verified n handed c) ∧ v.line.state = s.line.state ∧ CellOnly s v
      ∧ v.counters = (tallyRead n handed s).counters
      ∧ takeRead n p c o code handed (applied n t p c s.track.printJobs s)
        = takeReadOutcome handed { code := code, sequence := c.record.map (·.sequence), slip := handed.slip } v := by
  have quiet := countResult_quiet (s := applied n t p (verified n handed c) s.track.printJobs s) entry o
  have counted := quiet.tallies.trans (tallies_tallyRead n handed _)
  obtain ⟨appliedTo, state, jobs, intake, versions, binding, step, bundles, reports⟩ := applied_of_tallies counted
  refine ⟨_, appliedTo, state, ⟨intake, versions, binding, step, bundles, reports, jobs⟩, ?_, ?_⟩
  · refine tallyRead_counters n handed quiet.counters_eq ?_
    rw [quiet]
    rfl
  · unfold takeRead
    rw [verifyCell_applied inside]
    rfl

/-- Settles O31. -/
theorem readResults : Obligations.ReadResults := by
  refine ⟨fun s c code r reader => ?_, fun s n st t p c entry role awaits => ?_⟩
  · intro is up down
    rw [readOutcome_eq reader]
    refine ⟨fun own => if_pos own, fun other above => ?_, fun other above below => ?_, fun other above below => ?_⟩
    · rw [if_neg other, if_pos above]
    · rw [if_neg other, if_neg above, if_pos below]
    · rw [if_neg other, if_neg above, if_neg below]
  · intro read matched failed
    have inside := awaits_inside awaits
    have applies (o : StationOutcome) : takeResult n t o s = readerResult n p o (applied n t p (ended n c) s.track.printJobs s) := by
      rw [takeResult_applied entry awaits, role]
      rfl
    have reads {code : Nat} {handed : ReadOutcome} (compared : readOutcome s c code = handed) :
        read (.read code) handed (some code) (verified n handed (ended n c)) (tallyRead n handed s).counters := by
      obtain ⟨v, appliedTo, state, only, counters, taken⟩ := takeRead_applied (t := t) (c := ended n c) entry inside (.read code) (some code) handed
      refine ⟨v, appliedTo, state, only, counters, ?_⟩
      rw [applies]
      unfold readerResult
      rw [cellAt_applied inside]
      dsimp only
      rw [readOutcome_applied awaits.1, compared]
      exact taken
    refine ⟨fun code compared => reads compared, fun code compared => reads compared, fun code slip compared => reads compared, ?_⟩
    obtain ⟨v, appliedTo, state, only, counters, taken⟩ := takeRead_applied (t := t) (c := ended n c) entry inside .noRead none .noRead
    refine ⟨v, appliedTo, state, only, counters, ?_⟩
    rw [applies]
    unfold readerResult
    rw [cellAt_applied inside]
    exact taken

end Sys2Proof.Machine
end

section
/-! The main feeder's results (O30), with what results of the disposing stations and of the main feeder leave alone. -/

namespace Sys2Proof.Machine

/-! ### What a result's rule can reach -/

/-- The line has kept its state, with its frames, or has taken a first fault. -/
def LineKept (s u : State) : Prop :=
  (u.line.state = s.line.state ∧ u.bus.txQueue = s.bus.txQueue
      ∧ u.line = { s.line with feed := u.line.feed, laterFaults := u.line.laterFaults, lastLater := u.line.lastLater })
    ∨ (s.line.state ≠ .faulted ∧ u.line.state = .faulted)

/-- From s to u no block that no result moves has changed. -/
def ResultFoot (s u : State) : Prop :=
  u = { s with
      bus := { s.bus with txQueue := u.bus.txQueue }
      intake := u.intake
      versions := u.versions
      track := { s.track with cells := u.track.cells, printJobs := u.track.printJobs }
      binding := u.binding
      step := u.step
      bundles := u.bundles
      line := u.line
      counters := u.counters
      link := { s.link with notices := u.link.notices, reports := u.link.reports } }
    ∧ LineKept s u

theorem LineKept.trans {s t u : State} (h : LineKept s t) (k : LineKept t u) : LineKept s u := by
  rcases h with ⟨state, queue, line⟩ | ⟨before, after⟩
  · rcases k with ⟨state', queue', line'⟩ | ⟨before', after'⟩
    · refine .inl ⟨state'.trans state, queue'.trans queue, ?_⟩
      rw [line', line]
    · exact .inr ⟨state ▸ before', after'⟩
  · rcases k with ⟨state', -, -⟩ | ⟨before', -⟩
    · exact .inr ⟨before, state'.trans after⟩
    · exact absurd after before'

theorem ResultFoot.trans {s t u : State} (h : ResultFoot s t) (k : ResultFoot t u) : ResultFoot s u := by
  obtain ⟨foot, line⟩ := h
  obtain ⟨foot', line'⟩ := k
  refine ⟨?_, line.trans line'⟩
  rw [foot', foot]

theorem Tallies.resultFoot {s u : State} (h : Tallies s u) : ResultFoot s u := by
  unfold Tallies at h
  refine ⟨?_, .inl ⟨?_, ?_, ?_⟩⟩ <;> rw [h]

theorem Announces.resultFoot {s u : State} (h : Announces s u) : ResultFoot s u := h.tallies.resultFoot

theorem resultFoot_handFault (k : FaultCause) (s : State) : ResultFoot s (handFault k s) := by
  refine ⟨by rw [handFault_eq], ?_⟩
  by_cases faulted : s.line.state = .faulted
  · refine .inl ⟨?_, ?_, ?_⟩ <;> rw [handFault_faulted faulted]
  · obtain ⟨state, -⟩ := faultTaken_handFault k s
    exact .inr ⟨faulted, state⟩

section
variable {s x : State} {n : SlotNo} {st : Station} {t : Tag} {p : Nat} {c d : Cell} {jobs : Nat} {o : StationOutcome}

/-- After the rule the station takes the result: its entry changes, and it may be announced (R7, R8). -/
theorem counted_announces (entry : stationAt s n = some st) (h : ResultFoot (applied n t p d jobs s) x) :
    Announces (putStation n (some (st.afterResult o)) x) (countResult n o x) := by
  refine countResult_quiet ?_ o
  obtain ⟨foot, -⟩ := h
  rw [foot]
  exact entry

theorem applied_of_foot (entry : stationAt s n = some st) (h : ResultFoot (applied n t p d jobs s) x)
    (cells : x.track.cells = s.track.cells.set p c) : Applied s (countResult n o x) n t p st o c := by
  have told := counted_announces (o := o) entry h
  obtain ⟨foot, line⟩ := h
  generalize countResult n o x = u at told
  unfold Announces at told
  have track : u.track = { s.track with cells := s.track.cells.set p c, printJobs := u.track.printJobs } := by
    have kept : u.track = x.track := by rw [told]; rfl
    rw [kept, ← cells, foot]
    rfl
  refine ⟨by rw [told, foot]; rfl, track, by rw [told, foot]; rfl, fun state => ?_, by rw [told, foot]; rfl, by rw [told, foot]; rfl,
    by rw [told, foot]; rfl, by rw [told, foot]; rfl, by rw [told, foot]; rfl, by rw [told, foot]; rfl, by rw [told, foot]; rfl,
    by rw [told, foot]; rfl⟩
  have same : u.line.state = x.line.state := by rw [told]; rfl
  rcases line with ⟨-, queue, line⟩ | ⟨before, after⟩
  · refine ⟨?_, ?_⟩
    · rw [told]
      exact queue
    · rw [told]
      change { x.line with feed := u.line.feed } = _
      rw [line]
      rfl
  · exact absurd (state.symm.trans (same.trans after)) before

end

/-! ### The notices of the station table and of the counters -/

theorem announceCounters_notice {before : Vector Counter 8} {i : Fin 33} (notFeed : i ≠ 1) (low : i.val < 25) (l : List (Fin 8))
    (s : State) : (l.foldl (announceCounter before) s).link.notices[i] = s.link.notices[i] := by
  induction l generalizing s with
  | nil => rfl
  | cons k l ih =>
    have one : (announceCounter before s k).link.notices[i] = s.link.notices[i] := by
      have own (n : CounterNotice) : i ≠ (Notice.counter k n).slot := fun same => by
        have value : i.val = 25 + k.val := congrArg Fin.val same
        omega
      unfold announceCounter
      dsimp only
      split
      · split
        · exact (putCause_notice_other (.counter k) true _ i notFeed).trans (raise_notice_other _ _ i (own _))
        · exact raise_notice_other _ _ i (own _)
      · rfl
    rw [List.foldl_cons, ih, one]

theorem tally_notice {i : Fin 33} (notFeed : i ≠ 1) (low : i.val < 25) (e : TallyEvent) (slot : Option SlotNo) (s : State) :
    (tally e slot s).link.notices[i] = s.link.notices[i] := by
  unfold tally
  split
  · rfl
  · exact announceCounters_notice notFeed low _ _

theorem announceStation_notice {i : Fin 33} (notFeed : i ≠ 1) (low : i.val < 9) (n : SlotNo) (new : Station) (s : State) :
    (announceStation n new s).link.notices[i] = s.link.notices[i] := by
  have told := raise_notice_other (stationNotice n (some new)) (putStation n (some new) s) i (stationNotice_slot_ne n _ low).symm
  unfold announceStation
  dsimp only
  split
  · exact (putCause_notice_other _ _ _ i notFeed).trans told
  · exact told

theorem stationChanged_notice {i : Fin 33} (notLine : i ≠ 0) (notFeed : i ≠ 1) (low : i.val < 9) (n : SlotNo) (old new : Station)
    (s : State) : (stationChanged n old new s).link.notices[i] = s.link.notices[i] := by
  have told := announceStation_notice notFeed low n new s
  rcases stationChanged_cases n old new s with ⟨e, -⟩ | e | e
  · rw [e]
    rfl
  · rw [e, told]
  · rw [e, handFault_notice_other _ _ i notLine, told]

theorem countResult_notice {i : Fin 33} (notLine : i ≠ 0) (notFeed : i ≠ 1) (low : i.val < 9) (n : SlotNo) (o : StationOutcome) (s : State) :
    (countResult n o s).link.notices[i] = s.link.notices[i] := by
  unfold countResult updateStation
  split
  · exact stationChanged_notice notLine notFeed low _ _ _ _
  · rfl

/-! ### The fresh count (R27) -/

theorem countP_set {P : Cell → Bool} {l : List Cell} {p : Nat} {c : Cell} (here : l[p]? = some c) (d : Cell) :
    (l.set p d).countP P + (if P c then 1 else 0) = l.countP P + (if P d then 1 else 0) := by
  have count := countP_modify (P := P) (f := fun _ => d) here
  rwa [← List.set_eq_modify] at count

theorem freshCount_set {s u : State} {p : Nat} {c d : Cell} (here : s.track.cells[p]? = some c)
    (cells : u.track.cells = s.track.cells.set p d) (intake : u.intake = s.intake) :
    freshCount u + (if c.offersFresh then 1 else 0) = freshCount s + (if d.offersFresh then 1 else 0) := by
  have count := countP_set (P := Cell.offersFresh) here d
  rw [freshCount_eq, freshCount_eq, cells, intake]
  omega

theorem offersFresh_ended (n : SlotNo) (c : Cell) : (ended n c).offersFresh = c.offersFresh := rfl

theorem offersFresh_of {c : Cell} {r : Record} (content : c.content = .offered) (record : c.record = some r) :
    c.offersFresh = true ↔ r.kind = .fresh := by
  simp [Cell.offersFresh, content, record, Record.isFresh]

/-! ### The cell after a feed (R77 to R81) -/

/-- The cell that a feed of a record leaves (R65, R77). -/
def boundCell (c : Cell) (demands : List Demand) : Cell := { c with
  content := if c.offerMark = none then .bound else .condemned
  proofOffer := false
  fault := c.offerMark
  offerMark := none
  demands := demands }

theorem fedBy_record {c : Cell} {r : Record} (record : c.record = some r) (n : SlotNo) (demands : List Demand) :
    c.fedBy n false demands = boundCell c demands := by
  unfold Cell.fedBy
  dsimp only
  rw [record, Option.isSome_some, if_pos rfl, if_neg (by simp)]
  unfold Cell.offerTaken boundCell
  cases c.offerMark <;> simp

theorem fedBy_record_double {c : Cell} {r : Record} (record : c.record = some r) (n : SlotNo) (demands : List Demand) :
    c.fedBy n true demands = if c.offerMark = none
      then { boundCell c demands with content := .condemned, fault := some { kind := .mainDouble, station := some n } }
      else { boundCell c demands with laterFaults := min 255 (c.laterFaults + 1) } := by
  unfold Cell.fedBy
  dsimp only
  rw [record, Option.isSome_some, if_pos rfl, if_pos rfl]
  unfold Cell.offerTaken boundCell
  cases mark : c.offerMark with
  | none => simp [Cell.condemn]
  | some k => simp [Cell.condemn, Cell.addFault, Cell.laterFault, bump]

/-- The cell that a feed of a proof leaves (R81). -/
def proofCell (c : Cell) : Cell := { c with content := .proof, proofOffer := false, fault := c.offerMark, offerMark := none }

theorem fedBy_proof {c : Cell} (record : c.record = none) (n : SlotNo) (double : Bool) :
    c.fedBy n double [] = if double = true ∧ c.offerMark ≠ none then { proofCell c with laterFaults := min 255 (c.laterFaults + 1) }
      else proofCell c := by
  unfold Cell.fedBy
  dsimp only
  rw [record, Option.isSome_none, if_neg (by simp)]
  unfold Cell.offerTaken proofCell
  cases mark : c.offerMark with
  | none => simp
  | some k => cases double <;> simp [Cell.laterFault, bump]

theorem demandsOf_eq (s : State) (v : Fin 32) :
    demandsOf s v = ((s.versions[v].definition.map (·.inserts)).getD []).map fun m => { slot := m, fed := false } := by
  unfold demandsOf
  cases s.versions[v].definition <;> rfl

/-! ### The lost list when an offer ends (R117, R118) -/

theorem stepAutoExit_taken {s : State} (leaves : s.params.stepAuto = 1 ∧ s.step.state = .outOfStep ∧ s.step.lost = []) :
    LeftOutOfStep s.step (stepAutoExit s) := by
  unfold stepAutoExit
  rw [if_pos leaves]
  have step : (removeCause .step s).step = s.step := removeCause_step _ _
  unfold leaveOutOfStep
  refine ⟨rfl, ?_, ?_⟩
  · change (removeCause .step s).line.feed.has .step = false
    rw [removeCause_has, if_pos rfl]
  · exact noticed_raise _ _

theorem offerEnded_lostOfferEnded {s y : State} (t : Tag) (step : y.step = s.step) (params : y.params = s.params)
    (feed : y.line.feed.has .step = s.line.feed.has .step) : OfferEnded t s (lostOfferEnded t y) := by
  unfold lostOfferEnded
  by_cases listed : t ∈ s.step.lost
  · rw [step, if_pos (by simpa using listed)]
    refine ⟨fun ⟨state, auto, _, empty⟩ => ?_, fun stays => ?_⟩
    · exact stepAutoExit_taken (s := { y with step := { s.step with lost := s.step.lost.filter (· != t) } })
        ⟨params ▸ auto, state, empty⟩
    · unfold stepAutoExit
      rw [if_neg]
      · exact ⟨rfl, feed⟩
      · rintro ⟨auto, state, empty⟩
        exact stays ⟨state, params ▸ auto, listed, empty⟩
  · have same : s.step.lost.filter (· != t) = s.step.lost := by
      refine List.filter_eq_self.mpr fun x member => ?_
      simp only [bne_iff_ne]
      rintro rfl
      exact listed member
    rw [step, if_neg (by simpa using listed)]
    refine ⟨fun ⟨_, _, member, _⟩ => absurd member listed, fun _ => ⟨?_, feed⟩⟩
    rw [same, step]

theorem OfferEnded.congr {t : Tag} {s y u : State} (h : OfferEnded t s y) (step : u.step = y.step)
    (feed : u.line.feed.has .step = y.line.feed.has .step) (notice : u.link.notices[(2 : Fin 33)] = y.link.notices[(2 : Fin 33)]) :
    OfferEnded t s u := by
  unfold OfferEnded LeftOutOfStep Noticed at *
  rw [step, feed, notice]
  exact h

theorem announces_stepAutoExit (s : State) : stepAutoExit s = { s with
    step := (stepAutoExit s).step
    line := { s.line with feed := (stepAutoExit s).line.feed }
    link := { s.link with notices := (stepAutoExit s).link.notices } } := by
  have removed := announces_removeCause .step s
  unfold Announces at removed
  unfold stepAutoExit
  split
  · unfold leaveOutOfStep changeStep raise
    rw [removed]
  · rfl

theorem lostOfferEnded_eq (t : Tag) (s : State) : lostOfferEnded t s = { s with
    step := (lostOfferEnded t s).step
    line := { s.line with feed := (lostOfferEnded t s).line.feed }
    link := { s.link with notices := (lostOfferEnded t s).link.notices } } := by
  unfold lostOfferEnded
  split
  · rw [announces_stepAutoExit]
  · rfl

/-! ### A record is bound (R77, R78, R82) -/

section
variable {s : State} {n : SlotNo} {st : Station} {t : Tag} {p : Nat} {c : Cell} {r : Record} {o : StationOutcome} {double : Bool}

/-- The state once the record of the fed cell is bound, its announcements aside. -/
def boundState (n : SlotNo) (t : Tag) (p : Nat) (d : Cell) (r : Record) (s : State) : State :=
  { applied n t p d s.track.printJobs s with
    binding := { s.binding with lastKey := some r.bundleKey, lastVersion := some r.version } }

theorem announces_freshFell (before : Nat) (s : State) : Announces s (freshFell before s) := by
  unfold freshFell
  split
  · exact announces_raise _ _
  · exact Announces.refl s

theorem bindRecord_eq (inside : p < s.track.cells.length) :
    bindRecord n p r double (applied n t p (ended n c) s.track.printJobs s)
      = let told := tally .binds (some n) (freshFell (freshCount (applied n t p (ended n c) s.track.printJobs s))
          (boundState n t p ((ended n c).fedBy n double (demandsOf s r.version)) r s))
        if double then tally .mainDoubles (some n) told else told := by
  unfold bindRecord
  dsimp only
  rw [modifyCell_applied inside]
  rfl

theorem tallies_bindRecord (inside : p < s.track.cells.length) :
    Tallies (boundState n t p ((ended n c).fedBy n double (demandsOf s r.version)) r s)
      (bindRecord n p r double (applied n t p (ended n c) s.track.printJobs s)) := by
  have once := (announces_freshFell (freshCount (applied n t p (ended n c) s.track.printJobs s))
    (boundState n t p ((ended n c).fedBy n double (demandsOf s r.version)) r s)).tallies.trans (tallies_tally .binds (some n) _)
  rw [bindRecord_eq inside]
  dsimp only
  split
  · exact once.trans (tallies_tally _ _ _)
  · exact once

theorem bindRecord_counters (inside : p < s.track.cells.length) :
    (bindRecord n p r double (applied n t p (ended n c) s.track.printJobs s)).counters
      = if double then (tally .mainDoubles (some n) (tally .binds (some n) s)).counters else (tally .binds (some n) s).counters := by
  have fell := announces_freshFell (freshCount (applied n t p (ended n c) s.track.printJobs s))
    (boundState n t p ((ended n c).fedBy n double (demandsOf s r.version)) r s)
  have binds := tally_counters_congr (t := s) .binds (some n) fell.counters_eq (by rw [fell]; rfl)
  rw [bindRecord_eq inside]
  dsimp only
  split
  · refine tally_counters_congr _ _ binds ?_
    rw [tally_params, tally_params, fell]
    rfl
  · exact binds

theorem fedBy_not_fresh (n : SlotNo) (double : Bool) (demands : List Demand) (c : Cell) : (c.fedBy n double demands).offersFresh = false :=
  offersFresh_of_content (fedBy_content n double demands c)

/-- The notice of the fresh count's fall (R38). -/
def queueLowNotice (s : State) : QueueLowNotice := {
  fresh := freshCount s
  room := 256 - freshCount s
  entries := s.intake.queue.length
  lastSequence := s.intake.lastSequence }

theorem freshFell_falls {s : State} {before : Nat} (was : s.params.queueLowMark ≤ before) (falls : freshCount s < s.params.queueLowMark) :
    freshFell before s = raise (.queueLow (queueLowNotice s)) s :=
  (freshFell_eq before s).trans (if_pos ⟨was, falls⟩)

theorem freshCount_applied (cell : s.track.cells[p]? = some c) : freshCount (applied n t p (ended n c) s.track.printJobs s) = freshCount s := by
  have count := freshCount_set (u := applied n t p (ended n c) s.track.printJobs s) cell rfl rfl
  rw [offersFresh_ended] at count
  omega

theorem freshCount_boundState (cell : s.track.cells[p]? = some c) (content : c.content = .offered) (record : c.record = some r) :
    freshCount (boundState n t p ((ended n c).fedBy n double (demandsOf s r.version)) r s) + (if r.kind = .fresh then 1 else 0)
      = freshCount s := by
  have count := freshCount_set (u := boundState n t p ((ended n c).fedBy n double (demandsOf s r.version)) r s) cell rfl rfl
  rw [fedBy_not_fresh] at count
  simpa only [offersFresh_of content record, Bool.false_eq_true, if_false, Nat.add_zero] using count

/-- The fall of the fresh count from the mark raises QUEUE_LOW (R38). -/
theorem bindRecord_low (cell : s.track.cells[p]? = some c) (content : c.content = .offered) (record : c.record = some r)
    (fresh : r.kind = .fresh) (mark : freshCount s = s.params.queueLowMark) :
    ∃ low, Noticed (bindRecord n p r double (applied n t p (ended n c) s.track.printJobs s)) 6 (.queueLow low)
      ∧ low.fresh = freshCount (boundState n t p ((ended n c).fedBy n double (demandsOf s r.version)) r s) := by
  have after := freshCount_boundState (n := n) (t := t) (double := double) cell content record
  rw [bindRecord_eq (List.getElem?_eq_some_iff.mp cell).1, freshCount_applied cell]
  have params : (boundState n t p ((ended n c).fedBy n double (demandsOf s r.version)) r s).params = s.params := rfl
  generalize boundState n t p ((ended n c).fedBy n double (demandsOf s r.version)) r s = b at *
  rw [if_pos fresh] at after
  rw [freshFell_falls (params ▸ mark.ge) (by rw [params]; omega)]
  refine ⟨queueLowNotice b, ?_, rfl⟩
  have raised : Noticed (raise (.queueLow (queueLowNotice b)) b) 6 (.queueLow (queueLowNotice b)) := noticed_raise _ b
  unfold Noticed at raised ⊢
  dsimp only
  split
  · rw [tally_notice (by decide) (by decide), tally_notice (by decide) (by decide)]
    exact raised
  · rw [tally_notice (by decide) (by decide)]
    exact raised

end

/-- What a FED or a DOUBLE of an offered record does (R77, R78, R82). -/
def BindsTo (s u : State) (n : SlotNo) (t : Tag) (p : Nat) (st : Station) (r : Record) (o : StationOutcome) (d : Cell) : Prop :=
  Applied s u n t p st o d ∧ u.line.state = s.line.state
    ∧ u.binding = { s.binding with lastKey := some r.bundleKey, lastVersion := some r.version }
    ∧ u.intake = s.intake ∧ u.versions = s.versions ∧ u.step = s.step ∧ u.bundles = s.bundles
    ∧ u.link.reports = s.link.reports ∧ u.track.printJobs = s.track.printJobs
    ∧ freshCount u + (if r.kind = .fresh then 1 else 0) = freshCount s
    ∧ (r.kind = .fresh → freshCount s = s.params.queueLowMark → ∃ low, Noticed u 6 (.queueLow low) ∧ low.fresh = freshCount u)

theorem noticed_countResult {i : Fin 33} {k : Notice} {s : State} (notLine : i ≠ 0) (notFeed : i ≠ 1) (low : i.val < 9) (n : SlotNo)
    (o : StationOutcome) (h : Noticed s i k) : Noticed (countResult n o s) i k := by
  unfold Noticed at *
  rw [countResult_notice notLine notFeed low, h]

section
variable {s : State} {n : SlotNo} {st : Station} {t : Tag} {p : Nat} {c : Cell} {r : Record} {o : StationOutcome} {double : Bool}

theorem bindsTo_bindRecord (entry : stationAt s n = some st) (cell : s.track.cells[p]? = some c) (content : c.content = .offered)
    (record : c.record = some r) (o : StationOutcome) :
    BindsTo s (countResult n o (bindRecord n p r double (applied n t p (ended n c) s.track.printJobs s))) n t p st r o
      ((ended n c).fedBy n double (demandsOf s r.version)) := by
  have inside := (List.getElem?_eq_some_iff.mp cell).1
  have moved := tallies_bindRecord (n := n) (t := t) (c := c) (r := r) (double := double) inside
  have lowered := bindRecord_low (n := n) (t := t) (double := double) cell content record
  have count := freshCount_boundState (n := n) (t := t) (double := double) cell content record
  generalize bindRecord n p r double (applied n t p (ended n c) s.track.printJobs s) = x at *
  have told := (counted_announces (o := o) entry
    (ResultFoot.trans (t := boundState n t p ((ended n c).fedBy n double (demandsOf s r.version)) r s) ⟨rfl, .inl ⟨rfl, rfl, rfl⟩⟩
      moved.resultFoot)).tallies
  have foot : Tallies (putStation n (some (st.afterResult o)) (boundState n t p ((ended n c).fedBy n double (demandsOf s r.version)) r s))
      (countResult n o x) := by
    refine Tallies.trans ?_ told
    unfold Tallies at moved ⊢
    rw [moved]
    rfl
  have fresh : freshCount (countResult n o x) = freshCount (boundState n t p ((ended n c).fedBy n double (demandsOf s r.version)) r s) := by
    unfold Tallies at foot
    rw [foot]
    rfl
  refine ⟨?_, by rw [foot]; rfl, by rw [foot]; rfl, by rw [foot]; rfl, by rw [foot]; rfl, by rw [foot]; rfl, by rw [foot]; rfl,
    by rw [foot]; rfl, by rw [foot]; rfl, fresh ▸ count, fun kind mark => ?_⟩
  · unfold Tallies at foot
    refine ⟨by rw [foot]; rfl, by rw [foot]; rfl, by rw [foot]; rfl, fun _ => ⟨by rw [foot]; rfl, by rw [foot]; rfl⟩, ?_⟩
    rw [foot]
    exact ⟨rfl, rfl, rfl, rfl, rfl, rfl, rfl, rfl⟩
  · obtain ⟨low, noticed, same⟩ := lowered kind mark
    exact ⟨low, noticed_countResult (by decide) (by decide) (by decide) n o noticed, same.trans fresh.symm⟩

end

/-! ### An offer is withdrawn (R79, R81, R117) -/

theorem countResult_counters (n : SlotNo) (o : StationOutcome) (s : State) : (countResult n o s).counters = s.counters := by
  cases entry : stationAt s n with
  | some st => exact (countResult_quiet entry o).counters_eq
  | none =>
    unfold countResult updateStation
    rw [entry]

theorem countResult_has_other (n : SlotNo) (o : StationOutcome) (s : State) {k : FeedCause} (other : ∀ m, k ≠ .station m) :
    (countResult n o s).line.feed.has k = s.line.feed.has k := by
  unfold countResult updateStation
  split
  · exact stationChanged_has _ _ _ _ other
  · rfl

section
variable {s : State} {n : SlotNo} {st : Station} {t : Tag} {p : Nat} {c : Cell} {content : Content}

/-- The state once an offer is withdrawn, the lost list aside. -/
def withdrawnState (n : SlotNo) (t : Tag) (p : Nat) (c : Cell) (content : Content) (s : State) : State :=
  { applied n t p ((ended n c).offerWithdrawn content) s.track.printJobs s with
    intake := { s.intake with queue := c.record.toList ++ s.intake.queue } }

theorem withdrawOffer_applied (cell : s.track.cells[p]? = some c) (tag : c.tag = t) :
    withdrawOffer p (ended n c) content (applied n t p (ended n c) s.track.printJobs s)
      = lostOfferEnded t (withdrawnState n t p c content s) := by
  have record : (ended n c).record = c.record := rfl
  have same : (ended n c).tag = t := tag
  unfold withdrawOffer
  dsimp only
  rw [modifyCell_applied (List.getElem?_eq_some_iff.mp cell).1, same, record]
  unfold withdrawnState
  cases c.record <;> rfl

theorem freshCount_withdrawnState (cell : s.track.cells[p]? = some c) (offered : c.content = .offered) (ends : content ≠ .offered) :
    freshCount (withdrawnState n t p c content s) = freshCount s := by
  have notFresh : ((ended n c).offerWithdrawn content).offersFresh = false := offersFresh_of_content ends
  have count := countP_set (P := Cell.offersFresh) cell ((ended n c).offerWithdrawn content)
  rw [notFresh] at count
  rw [freshCount_eq, freshCount_eq]
  change (c.record.toList ++ s.intake.queue).countP Record.isFresh
    + (s.track.cells.set p ((ended n c).offerWithdrawn content)).countP Cell.offersFresh = _
  have own : c.record.toList.countP Record.isFresh = if c.offersFresh then 1 else 0 := by
    unfold Cell.offersFresh
    cases c.record <;> simp [offered, List.countP_cons]
  rw [List.countP_append, own]
  simp only [Bool.false_eq_true, if_false] at count
  omega

/-- What a MISS does (R79, R117, R118). -/
structure MissedTo (s u : State) (n : SlotNo) (t : Tag) (p : Nat) (st : Station) (c d : Cell) : Prop where
  applied : Applied s u n t p st .miss d
  state : u.line.state = s.line.state
  intake : u.intake = { s.intake with queue := c.record.toList ++ s.intake.queue }
  binding : u.binding = s.binding
  versions : u.versions = s.versions
  offerEnded : OfferEnded t s u
  bundles : u.bundles = s.bundles
  reports : u.link.reports = s.link.reports
  jobs : u.track.printJobs = s.track.printJobs
  fresh : freshCount u = freshCount s
  counters : u.counters = (tally .mainMisses (some n) s).counters

theorem missedTo (entry : stationAt s n = some st) (role : st.role = .mainFeeder) (awaits : Awaits s n t p c)
    (offered : c.content = .offered) : MissedTo s (takeResult n t .miss s) n t p st c ((ended n c).offerWithdrawn .empty) := by
  obtain ⟨cell, tag, -⟩ := id awaits
  have kept : (ended n c).content = .offered := offered
  have taken : takeResult n t .miss s
      = countResult n .miss (tally .mainMisses (some n) (lostOfferEnded t (withdrawnState n t p c .empty s))) := by
    rw [takeResult_applied entry awaits, role]
    change countResult n .miss (mainFeedEnded n p .miss _) = _
    unfold mainFeedEnded
    rw [cellAt_applied (awaits_inside awaits)]
    dsimp only
    rw [if_neg (by simp [kept]), withdrawOffer_applied cell tag]
  have ending : OfferEnded t s (lostOfferEnded t (withdrawnState n t p c .empty s)) :=
    offerEnded_lostOfferEnded t rfl rfl rfl
  have count : freshCount (withdrawnState n t p c .empty s) = freshCount s := freshCount_withdrawnState cell offered (by decide)
  have lost := lostOfferEnded_eq t (withdrawnState n t p c .empty s)
  rw [taken]
  generalize lostOfferEnded t (withdrawnState n t p c .empty s) = y at *
  have foot : ResultFoot (withdrawnState n t p c .empty s) y := by
    refine ⟨?_, .inl ⟨?_, ?_, ?_⟩⟩ <;> rw [lost]
  have counted := tally_counters_congr (s := y) (t := s) .mainMisses (some n) (by rw [lost]; rfl) (by rw [lost]; rfl)
  have tallied := tallies_tally .mainMisses (some n) y
  have missNotice : (tally .mainMisses (some n) y).link.notices[(2 : Fin 33)] = y.link.notices[(2 : Fin 33)] :=
    tally_notice (by decide) (by decide) _ _ _
  have missFeed : (tally .mainMisses (some n) y).line.feed.has .step = y.line.feed.has .step := 
    tally_has _ _ _ _ (fun _ => by simp)
  generalize tally .mainMisses (some n) y = x at *
  have whole : ResultFoot (Machine.applied n t p (ended n c) s.track.printJobs s) x :=
    (ResultFoot.trans (t := withdrawnState n t p c .empty s) ⟨rfl, .inl ⟨rfl, rfl, rfl⟩⟩ foot).trans tallied.resultFoot
  have told := counted_announces (o := .miss) entry whole
  have countNotice : (countResult n .miss x).link.notices[(2 : Fin 33)] = x.link.notices[(2 : Fin 33)] :=
    countResult_notice (by decide) (by decide) (by decide) _ _ _
  have countFeed : (countResult n .miss x).line.feed.has .step = x.line.feed.has .step := 
    countResult_has_other _ _ _ (fun _ => by simp)
  have moved := applied_of_foot (o := .miss) entry whole (c := (ended n c).offerWithdrawn .empty) (by rw [tallied, lost]; rfl)
  generalize countResult n .miss x = u at *
  refine ⟨moved, by rw [told, tallied, lost]; rfl, by rw [told, tallied, lost]; rfl, by rw [told, tallied, lost]; rfl,
    by rw [told, tallied, lost]; rfl, ending.congr (by rw [told, tallied]; rfl) ?_ ?_, by rw [told, tallied, lost]; rfl,
    by rw [told, tallied, lost]; rfl, by rw [told, tallied, lost]; rfl, ?_, ?_⟩
  · rw [countFeed, missFeed]
  · rw [countNotice, missNotice]
  · rw [← count, told, tallied, lost]
    rfl
  · rw [← counted, told]
    rfl

/-! ### A proof is fed (R81) -/

/-- The state once a proof is fed. -/
def proofState (n : SlotNo) (t : Tag) (p : Nat) (d : Cell) (s : State) : State :=
  { applied n t p d s.track.printJobs s with binding := { s.binding with proofPending := false } }

/-- What a FED or a DOUBLE of a proof does (R81). -/
structure ProvedTo (s u : State) (n : SlotNo) (t : Tag) (p : Nat) (st : Station) (o : StationOutcome) (d : Cell) : Prop where
  applied : Applied s u n t p st o d
  state : u.line.state = s.line.state
  binding : u.binding = { s.binding with proofPending := false }
  intake : u.intake = s.intake
  versions : u.versions = s.versions
  bundles : u.bundles = s.bundles
  step : u.step = s.step
  reports : u.link.reports = s.link.reports
  jobs : u.track.printJobs = s.track.printJobs

theorem provedTo (entry : stationAt s n = some st) {x : State} {d : Cell} (h : Tallies (proofState n t p d s) x) (o : StationOutcome) :
    ProvedTo s (countResult n o x) n t p st o d := by
  have told := (counted_announces (o := o) entry
    (ResultFoot.trans (t := proofState n t p d s) (s := Machine.applied n t p d s.track.printJobs s) ⟨rfl, .inl ⟨rfl, rfl, rfl⟩⟩
      h.resultFoot)).tallies
  generalize countResult n o x = u at told
  have foot : Tallies (putStation n (some (st.afterResult o)) (proofState n t p d s)) u := by
    refine Tallies.trans ?_ told
    unfold Tallies at h ⊢
    rw [h]
    rfl
  unfold Tallies at foot
  refine ⟨⟨by rw [foot]; rfl, by rw [foot]; rfl, by rw [foot]; rfl, fun _ => ⟨by rw [foot]; rfl, by rw [foot]; rfl⟩, ?_⟩,
    by rw [foot]; rfl, by rw [foot]; rfl, by rw [foot]; rfl, by rw [foot]; rfl, by rw [foot]; rfl, by rw [foot]; rfl,
    by rw [foot]; rfl, by rw [foot]; rfl⟩
  rw [foot]
  exact ⟨rfl, rfl, rfl, rfl, rfl, rfl, rfl, rfl⟩

end

section
variable {s : State} {n : SlotNo} {st : Station} {t : Tag} {p : Nat} {c : Cell}

theorem takeResult_feeds (entry : stationAt s n = some st) (role : st.role = .mainFeeder) (awaits : Awaits s n t p c)
    (offered : c.content = .offered) (double : Bool) :
    takeResult n t (if double then .double else .fed) s = countResult n (if double then .double else .fed)
      (c.record.elim (proofFed n p double (applied n t p (ended n c) s.track.printJobs s))
        fun r => bindRecord n p r double (applied n t p (ended n c) s.track.printJobs s)) := by
  have kept : (ended n c).content = .offered := offered
  have record : (ended n c).record = c.record := rfl
  rw [takeResult_applied entry awaits, role]
  cases double
  all_goals
    change countResult n _ (mainFeedEnded n p _ _) = _
    unfold mainFeedEnded
    rw [cellAt_applied (awaits_inside awaits)]
    dsimp only
    rw [if_neg (not_not.mpr kept), record]
    cases c.record <;> rfl

/-- Settles O30: a fed record is bound and leaves the fresh count, which alone can raise QUEUE_LOW, and a
missed one returns to the queue, where a FRESH record still counts; the lost list is looked at before the
result is counted, and no later step of the rule touches it or its notice. -/
theorem mainFeedResults : Obligations.MainFeedResults := by
  refine ⟨fun s n st t p c r entry role awaits offered record free => ?_,
    fun s n st t p c entry role awaits offered record free => ?_⟩
  · intro bound doubled empty binds
    obtain ⟨cell, -⟩ := id awaits
    have kept : (ended n c).record = some r := record
    have feeds := takeResult_feeds entry role awaits offered
    rw [record] at feeds
    have result (double : Bool) := bindsTo_bindRecord (t := t) (double := double) entry cell offered record (if double then .double else .fed)
    have fed : takeResult n t .fed s = _ := feeds false
    have double : takeResult n t .double s = _ := feeds true
    have counters (x : State) (o : StationOutcome) : (countResult n o x).counters = x.counters := countResult_counters n o x
    refine ⟨⟨?_, ?_⟩, ⟨?_, ?_⟩, ?_⟩
    · change BindsTo s (takeResult n t .fed s) n t p st r .fed bound
      have made : (ended n c).fedBy n false (demandsOf s r.version) = bound := by
        rw [fedBy_record kept, demandsOf_eq]
        rfl
      rw [fed, ← made]
      exact result false
    · rw [fed]
      exact (counters _ _).trans (bindRecord_counters (double := false) (awaits_inside awaits))
    · change BindsTo s (takeResult n t .double s) n t p st r .double doubled
      have made : (ended n c).fedBy n true (demandsOf s r.version) = doubled := by
        rw [fedBy_record_double kept, demandsOf_eq]
        rfl
      rw [double, ← made]
      exact result true
    · rw [double]
      exact (counters _ _).trans (bindRecord_counters (double := true) (awaits_inside awaits))
    · intro u
      have emptied : (ended n c).offerWithdrawn .empty = empty := by
        unfold Cell.offerWithdrawn Cell.withoutRecord
        rw [kept]
        rfl
      obtain ⟨moved, state, intake, binding, versions, ends, bundles, reports, -, fresh, counted⟩ := missedTo entry role awaits offered
      rw [emptied] at moved
      rw [record] at intake
      exact ⟨moved, state, intake, binding, versions, ends, bundles, reports, fresh, counted⟩
  · intro made doubled empty result
    have inside := awaits_inside awaits
    have kept : (ended n c).record = none := record
    have feeds := takeResult_feeds entry role awaits offered
    rw [record] at feeds
    have fed : takeResult n t .fed s = _ := feeds false
    have double : takeResult n t .double s = _ := feeds true
    have proves (double : Bool) : proofFed n p double (applied n t p (ended n c) s.track.printJobs s)
        = let y := proofState n t p ((ended n c).fedBy n double []) s
          if double then tally .mainDoubles (some n) y else y := by
      unfold proofFed
      rw [modifyCell_applied inside]
      rfl
    refine ⟨?_, ?_, ?_⟩
    · have own : (ended n c).fedBy n false [] = made := by
        rw [fedBy_proof kept]
        rfl
      have moved := provedTo entry (d := made) (t := t) (p := p) (Tallies.refl _) .fed
      rw [← own] at moved
      have whole : takeResult n t .fed s = countResult n .fed (proofState n t p ((ended n c).fedBy n false []) s) :=
        fed.trans (congrArg _ (proves false))
      rw [← whole] at moved
      obtain ⟨moved, state, binding, intake, versions, bundles, step, reports, jobs⟩ := moved
      refine ⟨own ▸ moved, state, ?_, ?_, intake, versions, bundles, step, reports, jobs⟩
      · rw [whole, countResult_counters]
        rfl
      · rw [binding, Bool.and_false]
    · have own : (ended n c).fedBy n true [] = doubled := by
        rw [fedBy_proof kept]
        by_cases mark : c.offerMark = none
        · rw [if_neg (fun h => h.2 mark)]
          exact (if_pos mark).symm
        · rw [if_pos ⟨rfl, mark⟩]
          exact (if_neg mark).symm
      have moved := provedTo entry (d := doubled) (t := t) (p := p) (tallies_tally .mainDoubles (some n) _) .double
      rw [← own] at moved
      have whole : takeResult n t .double s
          = countResult n .double (tally .mainDoubles (some n) (proofState n t p ((ended n c).fedBy n true []) s)) :=
        double.trans (congrArg _ (proves true))
      rw [← whole] at moved
      obtain ⟨moved, state, binding, intake, versions, bundles, step, reports, jobs⟩ := moved
      refine ⟨own ▸ moved, state, ?_, ?_, intake, versions, bundles, step, reports, jobs⟩
      · rw [whole, countResult_counters]
        exact tally_counters_congr _ _ rfl rfl
      · rw [binding, Bool.and_false]
    · have emptied : (ended n c).offerWithdrawn .empty = empty := by
        unfold Cell.offerWithdrawn Cell.withoutRecord
        rw [kept]
      obtain ⟨moved, state, intake, binding, versions, ends, bundles, reports, jobs, -, counted⟩ := missedTo entry role awaits offered
      rw [emptied] at moved
      rw [record] at intake
      refine ⟨moved, state, counted, ?_, intake, versions, bundles, ends, reports, jobs⟩
      rw [binding, Bool.and_true]

end

end Sys2Proof.Machine
end

section
/-! The results of the gate (O32), with what a result of a disposing station and a finished record do. -/

namespace Sys2Proof.Machine

/-! ### Results of the disposing stations -/

section
variable {s x u : State} {n : SlotNo} {st : Station} {t : Tag} {p : Nat} {c d : Cell} {r : Record} {jobs : Nat} {o : StationOutcome}

/-- A disposing station counts a result in its own entry and announces nothing (R8). -/
theorem countResult_disposing (entry : stationAt s n = some st) (disposing : st.role.feeding = false) (o : StationOutcome) :
    countResult n o s = putStation n (some (st.afterResult o)) s := by
  obtain ⟨-, recorded, -⟩ := afterResult_fixed o st
  unfold countResult
  rw [updateStation_of entry]
  exact stationChanged_unseen recorded.symm (afterResult_health_disposing o st disposing).symm

theorem stationAt_of_foot (h : ResultFoot (applied n t p d jobs s) x) (entry : stationAt s n = some st) : stationAt x n = some st := by
  obtain ⟨foot, -⟩ := h
  rw [foot]
  exact entry

theorem counted_disposing (entry : stationAt s n = some st) (disposing : st.role.feeding = false)
    (h : ResultFoot (applied n t p d jobs s) x) : countResult n o x = putStation n (some (st.afterResult o)) x :=
  countResult_disposing (stationAt_of_foot h entry) disposing o

theorem applied_disposing (entry : stationAt s n = some st) (disposing : st.role.feeding = false)
    (h : ResultFoot (applied n t p d jobs s) x) (cells : x.track.cells = s.track.cells.set p c) :
    Applied s (putStation n (some (st.afterResult o)) x) n t p st o c := by
  rw [← counted_disposing entry disposing h]
  exact applied_of_foot entry h cells

/-- A fault taken after the rule's own changes is a fault taken from the state before them. -/
theorem FaultTaken.through {k : FaultCause} (before : x.line = { s.line with feed := x.line.feed })
    (after : u.line = { (handFault k x).line with feed := u.line.feed }) : FaultTaken k s u := by
  have taken := faultTaken_handFault k x
  unfold FaultTaken at taken ⊢
  rw [after]
  rw [before] at taken
  exact taken

/-! ### A record leaves its cell (R42, R47) -/

theorem withoutRecord_vacated (record : d.record = some r) : d.withoutRecord = vacated r d := by
  unfold Cell.withoutRecord
  rw [record]
  rfl

/-- The state in which a record has left its cell and is finished, its report aside. -/
def finishedState (n : SlotNo) (t : Tag) (p : Nat) (d : Cell) (r : Record) (s : State) : State :=
  { applied n t p d s.track.printJobs s with versions := released r s }

theorem finishRecord_applied (inside : p < s.track.cells.length) (record : d.record = some r) (report : ItemReport) :
    finishRecord p r report (applied n t p d s.track.printJobs s)
      = queueReport (.item report) (finishedState n t p (vacated r d) r s) := by
  unfold finishRecord
  rw [modifyCell_applied inside, withoutRecord_vacated record]
  rfl

/-- A report waits behind the others, announced or not. -/
theorem tallies_queueReport (report : Report) (s : State) :
    Tallies { s with link := { s.link with reports := s.link.reports ++ [report] } } (queueReport report s) := by
  unfold Tallies
  rw [queueReport_eq]

end

/-! ### The place of a remake (R32) -/

theorem insertRemake_fresh (r : Record) {behind : List Record} (fresh : ∀ x ∈ behind, x.kind = .fresh) :
    insertRemake r behind = r :: behind := by
  cases behind with
  | nil => rfl
  | cons x xs =>
    unfold insertRemake
    rw [if_neg]
    simp only [List.any_eq_true, beq_iff_eq, not_exists, not_and]
    intro y member remake
    exact absurd ((fresh y member).symm.trans remake) (by decide)

/-- A remake goes directly behind the last REMAKE. -/
theorem insertRemake_append (r : Record) {ahead behind : List Record} (fresh : ∀ x ∈ behind, x.kind = .fresh)
    (last : ∀ x, ahead.getLast? = some x → x.kind = .remake) : insertRemake r (ahead ++ behind) = ahead ++ r :: behind := by
  induction ahead with
  | nil => exact insertRemake_fresh r fresh
  | cons x xs ih =>
    have remakes : ((x :: xs) ++ behind).any (·.kind == .remake) = true := by
      have own := last _ (List.getLast?_eq_some_getLast (List.cons_ne_nil x xs))
      exact List.any_eq_true.mpr ⟨_, List.mem_append_left _ (List.getLast_mem (List.cons_ne_nil x xs)), by simp [own]⟩
    have rest : insertRemake r (xs ++ behind) = xs ++ r :: behind := by
      refine ih fun y own => ?_
      cases xs with
      | nil => cases own
      | cons z zs => exact last y (by rwa [List.getLast?_cons_cons])
    rw [List.cons_append] at remakes ⊢
    unfold insertRemake
    rw [if_pos remakes, rest]
    rfl

/-! ### A condemned item is diverted (R140 to R143) -/

section
variable {s : State} {n : SlotNo} {st : Station} {t : Tag} {p : Nat} {c d : Cell} {r : Record}

/-- The state of a diverted record that returns as a remake, its counters aside (R141). -/
def remadeState (r : Record) (cause : Option Condemn) (y : State) : State := { y with
  intake := { y.intake with queue := insertRemake { r with attempts := r.attempts + 1, kind := .remake } y.intake.queue }
  link := { y.link with reports := y.link.reports ++ [.item (rejectedReport r cause (r.attempts + 1))] } }

theorem returnRemake_moved (n : SlotNo) (r : Record) (cause : Option Condemn) (y : State) :
    Tallies (remadeState r cause y) (returnRemake n r cause y)
      ∧ (returnRemake n r cause y).counters = (tally .remakesReturned (some n) (tally .divertsOfCondemned (some n) y)).counters := by
  have reported := tallies_queueReport (.item (rejectedReport r cause (r.attempts + 1)))
    (setQueue (insertRemake { r with attempts := r.attempts + 1, kind := .remake } y.intake.queue) y)
  constructor
  · exact (reported.trans (tallies_tally _ _ _)).trans (tallies_tally _ _ _)
  · have diverts := tally_counters_congr (t := y) .divertsOfCondemned (some n)
      (congrArg (·.counters) (queueReport_eq (.item (rejectedReport r cause (r.attempts + 1)))
        (setQueue (insertRemake { r with attempts := r.attempts + 1, kind := .remake } y.intake.queue) y)))
      (congrArg (·.params) (queueReport_eq (.item (rejectedReport r cause (r.attempts + 1)))
        (setQueue (insertRemake { r with attempts := r.attempts + 1, kind := .remake } y.intake.queue) y)))
    refine tally_counters_congr _ _ diverts ?_
    rw [tally_params, tally_params, queueReport_eq]
    rfl

/-- The state of a diverted record over REMAKE_LIMIT, its counters aside (R142). -/
def spentState (r : Record) (cause : Option Condemn) (y : State) : State := { y with
  versions := released r y
  link := { y.link with reports := y.link.reports ++ [.item (offlineReport r .attempts cause (r.attempts + 1))] } }

theorem finishAttempts_moved (n : SlotNo) (r : Record) (cause : Option Condemn) (y : State) :
    Tallies (spentState r cause y) (finishAttempts n r cause y)
      ∧ (finishAttempts n r cause y).counters = (tally .offlineFinishes (some n) (tally .divertsOfCondemned (some n) y)).counters := by
  have reported := tallies_queueReport (.item (offlineReport r .attempts cause (r.attempts + 1))) (releaseVersion r y)
  have same := queueReport_eq (.item (offlineReport r .attempts cause (r.attempts + 1))) (releaseVersion r y)
  constructor
  · exact (reported.trans (tallies_tally _ _ _)).trans (tallies_tally _ _ _)
  · refine tally_counters_congr _ _ (tally_counters_congr _ _ ?_ ?_) ?_
    · rw [same]
      rfl
    · rw [same]
      rfl
    · rw [tally_params, tally_params, same]
      rfl

theorem divertCondemned_applied (inside : p < s.track.cells.length) (record : d.record = some r) :
    divertCondemned n p d (applied n t p d s.track.printJobs s)
      = let y := applied n t p { vacated r d with content := .diverted } s.track.printJobs s
        if r.attempts + 1 ≤ s.params.remakeLimit then returnRemake n r d.fault y else finishAttempts n r d.fault y := by
  unfold divertCondemned
  dsimp only
  rw [modifyCell_applied inside, withoutRecord_vacated record, record]
  rfl

theorem takeResult_gate (entry : stationAt s n = some st) (role : st.role = .gate) (awaits : Awaits s n t p c) :
    takeResult n t .diverted s = countResult n .diverted (gateEnded n p .diverted (applied n t p (ended n c) s.track.printJobs s))
      ∧ takeResult n t .passed s = countResult n .passed (gateEnded n p .passed (applied n t p (ended n c) s.track.printJobs s)) := by
  rw [takeResult_applied entry awaits, takeResult_applied entry awaits, role]
  exact ⟨rfl, rfl⟩

theorem gateEnded_condemned (inside : p < s.track.cells.length) (content : d.content = .condemned) (o : GateOutcome) :
    gateEnded n p o (applied n t p d s.track.printJobs s)
      = if o = .diverted then divertCondemned n p d (applied n t p d s.track.printJobs s)
        else escapeCondemned n p d (applied n t p d s.track.printJobs s) := by
  unfold gateEnded
  rw [cellAt_applied inside]
  dsimp only
  rw [content]

theorem gateEnded_bound (inside : p < s.track.cells.length) (content : d.content = .bound) (o : GateOutcome) :
    gateEnded n p o (applied n t p d s.track.printJobs s) = boundOutcome n p d o (applied n t p d s.track.printJobs s) := by
  unfold gateEnded
  rw [cellAt_applied inside]
  dsimp only
  rw [content]

theorem gateEnded_void (inside : p < s.track.cells.length) (content : d.content = .void) (o : GateOutcome) :
    gateEnded n p o (applied n t p d s.track.printJobs s)
      = if o = .diverted then setContent p .diverted (applied n t p d s.track.printJobs s)
        else escapeVoid n p d (applied n t p d s.track.printJobs s) := by
  unfold gateEnded
  rw [cellAt_applied inside]
  dsimp only
  rw [content]

theorem gateEnded_proof (inside : p < s.track.cells.length) (content : d.content = .proof) (o : GateOutcome) :
    gateEnded n p o (applied n t p d s.track.printJobs s) = proofOutcome n p d o (applied n t p d s.track.printJobs s) := by
  unfold gateEnded
  rw [cellAt_applied inside]
  dsimp only
  rw [content]

/-- The condemnation of a BOUND cell whose diversion nothing asked for (R143). -/
def unrequested (n : SlotNo) : Condemn := { kind := .gateUnrequested, station := some n }

/-- The cell that the gate has diverted, once it is condemned. -/
def toDivert (n : SlotNo) (c : Cell) : Cell := if c.content = .bound then (ended n c).condemn (unrequested n) else ended n c

theorem toDivert_record (n : SlotNo) (c : Cell) : (toDivert n c).record = c.record := by
  unfold toDivert
  split
  · next bound => rw [condemn_bound _ (show (ended n c).content = .bound from bound)]; rfl
  · rfl

/-- A BOUND cell is diverted as if the gate had been asked for it (R140, R143). -/
theorem gateEnded_diverts (inside : p < s.track.cells.length) (content : c.content = .condemned ∨ c.content = .bound) :
    gateEnded n p .diverted (applied n t p (ended n c) s.track.printJobs s)
      = divertCondemned n p (toDivert n c) (applied n t p (toDivert n c) s.track.printJobs s) := by
  unfold toDivert
  rcases content with condemned | bound
  · rw [gateEnded_condemned (d := ended n c) inside condemned, if_pos rfl, if_neg (by simp [condemned])]
  · rw [gateEnded_bound (d := ended n c) inside bound, if_pos bound]
    unfold boundOutcome
    rw [if_pos rfl]
    unfold condemnAt
    dsimp only
    rw [modifyCell_applied inside]
    rfl

/-! ### A diverted record -/

/-- What a diverted record's result leaves alone (R140). -/
def Diverts (s u : State) (n : SlotNo) (t : Tag) (p : Nat) (st : Station) (d : Cell) : Prop :=
  Applied s u n t p st .diverted d ∧ u.line.state = s.line.state ∧ u.binding = s.binding ∧ u.step = s.step ∧ u.bundles = s.bundles
    ∧ u.track.printJobs = s.track.printJobs

/-- The state in which a result's rule has changed the cell, the records and the reports. -/
def ruledState (n : SlotNo) (t : Tag) (p : Nat) (d : Cell) (intake : Intake) (versions : Vector VersionEntry 32) (reports : List Report)
    (s : State) : State :=
  { applied n t p d s.track.printJobs s with
    intake := intake
    versions := versions
    link := { s.link with reports := reports } }

theorem resultFoot_ruledState (n : SlotNo) (t : Tag) (p : Nat) (d e : Cell) (intake : Intake) (versions : Vector VersionEntry 32)
    (reports : List Report) (s : State) :
    ResultFoot (applied n t p e s.track.printJobs s) (ruledState n t p d intake versions reports s) :=
  ⟨rfl, .inl ⟨rfl, rfl, rfl⟩⟩

theorem diverts_of_tallies {x : State} {intake : Intake} {versions : Vector VersionEntry 32} {reports : List Report}
    (entry : stationAt s n = some st) (disposing : st.role.feeding = false) (moved : Tallies (ruledState n t p d intake versions reports s) x) :
    Diverts s (countResult n .diverted x) n t p st d ∧ (countResult n .diverted x).intake = intake
      ∧ (countResult n .diverted x).versions = versions ∧ (countResult n .diverted x).link.reports = reports
      ∧ (countResult n .diverted x).counters = x.counters := by
  have foot := (resultFoot_ruledState n t p d (ended n d) intake versions reports s).trans moved.resultFoot
  rw [counted_disposing entry disposing foot]
  have whole := applied_disposing (o := .diverted) (c := d) entry disposing foot (by rw [moved]; rfl)
  unfold Tallies at moved
  refine ⟨⟨whole, ?_, ?_, ?_, ?_, ?_⟩, ?_, ?_, ?_, rfl⟩
  all_goals
    unfold putStation
    rw [moved]
    rfl

theorem takeResult_diverts (entry : stationAt s n = some st) (role : st.role = .gate) (awaits : Awaits s n t p c)
    (content : c.content = .condemned ∨ c.content = .bound) (record : c.record = some r) :
    let d := toDivert n c
    let y := applied n t p { vacated r d with content := .diverted } s.track.printJobs s
    takeResult n t .diverted s = countResult n .diverted
      (if r.attempts + 1 ≤ s.params.remakeLimit then returnRemake n r d.fault y else finishAttempts n r d.fault y) := by
  have inside := awaits_inside awaits
  rw [(takeResult_gate entry role awaits).1, gateEnded_diverts inside content,
    divertCondemned_applied inside ((toDivert_record n c).trans record)]

/-- A diverted record returns as a remake (R141). -/
theorem takeResult_returns (entry : stationAt s n = some st) (role : st.role = .gate) (awaits : Awaits s n t p c)
    (content : c.content = .condemned ∨ c.content = .bound) (record : c.record = some r) (again : r.attempts + 1 ≤ s.params.remakeLimit) :
    let d := toDivert n c
    let u := takeResult n t .diverted s
    Diverts s u n t p st { vacated r d with content := .diverted }
      ∧ u.intake = { s.intake with queue := insertRemake { r with attempts := r.attempts + 1, kind := .remake } s.intake.queue }
      ∧ u.versions = s.versions
      ∧ u.link.reports = s.link.reports ++ [.item (rejectedReport r d.fault (r.attempts + 1))]
      ∧ u.counters = (tally .remakesReturned (some n) (tally .divertsOfCondemned (some n) s)).counters := by
  intro d u
  have disposing : st.role.feeding = false := by rw [role]; rfl
  have taken : u = _ := takeResult_diverts entry role awaits content record
  rw [if_pos again] at taken
  obtain ⟨moved, counters⟩ := returnRemake_moved n r d.fault (applied n t p { vacated r d with content := .diverted } s.track.printJobs s)
  obtain ⟨diverts, intake, versions, reports, counted⟩ := diverts_of_tallies (t := t) (p := p) (d := { vacated r d with content := .diverted })
    (versions := s.versions) entry disposing moved
  rw [taken]
  refine ⟨diverts, intake, versions, reports, counted.trans (counters.trans ?_)⟩
  exact tally_counters_congr _ _ (tally_counters_congr _ _ rfl rfl) (by rw [tally_params, tally_params]; rfl)

/-- A diverted record over REMAKE_LIMIT finishes (R142). -/
theorem takeResult_spent (entry : stationAt s n = some st) (role : st.role = .gate) (awaits : Awaits s n t p c)
    (content : c.content = .condemned ∨ c.content = .bound) (record : c.record = some r) (spent : s.params.remakeLimit < r.attempts + 1) :
    let d := toDivert n c
    let u := takeResult n t .diverted s
    Diverts s u n t p st { vacated r d with content := .diverted }
      ∧ u.intake = s.intake ∧ u.versions = released r s
      ∧ u.link.reports = s.link.reports ++ [.item (offlineReport r .attempts d.fault (r.attempts + 1))]
      ∧ u.counters = (tally .offlineFinishes (some n) (tally .divertsOfCondemned (some n) s)).counters := by
  intro d u
  have disposing : st.role.feeding = false := by rw [role]; rfl
  have taken : u = _ := takeResult_diverts entry role awaits content record
  rw [if_neg (by omega)] at taken
  obtain ⟨moved, counters⟩ := finishAttempts_moved n r d.fault (applied n t p { vacated r d with content := .diverted } s.track.printJobs s)
  obtain ⟨diverts, intake, versions, reports, counted⟩ := diverts_of_tallies (t := t) (p := p) (d := { vacated r d with content := .diverted })
    (intake := s.intake) entry disposing moved
  rw [taken]
  refine ⟨diverts, intake, versions, reports, counted.trans (counters.trans ?_)⟩
  exact tally_counters_congr _ _ (tally_counters_congr _ _ rfl rfl) (by rw [tally_params, tally_params]; rfl)

/-! ### An item that passes the gate (R144 to R147) -/

/-- What a result leaves alone that moves the cell and its station alone (R143, R144). -/
theorem quiet_result (entry : stationAt s n = some st) (disposing : st.role.feeding = false) (o : StationOutcome) {x : State}
    (same : Announces (applied n t p d s.track.printJobs s) x) (line : x.line = s.line) :
    let u := countResult n o x
    Applied s u n t p st o d ∧ CellOnly s u ∧ u.counters = s.counters ∧ u.line = s.line := by
  have foot := same.resultFoot
  rw [counted_disposing entry disposing foot]
  have whole := applied_disposing (o := o) (c := d) entry disposing foot (by rw [same]; rfl)
  unfold Announces at same
  refine ⟨whole, ⟨?_, ?_, ?_, ?_, ?_, ?_, ?_⟩, ?_, line⟩
  all_goals
    unfold putStation
    rw [same]
    rfl

/-- The cell of an item that has escaped (R145). -/
def escapedCell (d : Cell) : Cell := { d with content := .passed, escaped := true }

/-- An escape faults the line and is counted (R145 to R147). -/
def escapes (n : SlotNo) (k : FaultCause) (b : State) : State := tally .escapes (some n) (handFault k b)

/-- What an escape's rule has done: the cell and the records are given, the line has faulted, the escape is counted. -/
structure Escapes (s x : State) (n : SlotNo) (t : Tag) (p : Nat) (d : Cell) (intake : Intake) (versions : Vector VersionEntry 32)
    (reports : List Report) (k : FaultCause) : Prop where
  foot : ResultFoot (applied n t p d s.track.printJobs s) x
  cells : x.track.cells = s.track.cells.set p d
  fault : FaultTaken k s x
  counters : x.counters = (tally .escapes (some n) s).counters
  versions : x.versions = versions
  intake : x.intake = intake
  binding : x.binding = s.binding
  step : x.step = s.step
  bundles : x.bundles = s.bundles
  reports : x.link.reports = reports
  jobs : x.track.printJobs = s.track.printJobs

theorem escapes_moved {intake : Intake} {versions : Vector VersionEntry 32} {reports : List Report} {k : FaultCause} {b : State}
    (moved : Announces (ruledState n t p d intake versions reports s) b) :
    Escapes s (escapes n k b) n t p d intake versions reports k := by
  have fault := handFault_eq k b
  have tallied := tallies_tally .escapes (some n) (handFault k b)
  have counters := tally_counters_congr (s := handFault k b) (t := s) .escapes (some n) (by rw [fault, moved]; rfl) (by rw [fault, moved]; rfl)
  refine ⟨((((resultFoot_ruledState n t p d d intake versions reports s).trans moved.resultFoot).trans (resultFoot_handFault k b)).trans
    tallied.resultFoot), ?_, FaultTaken.through (x := b) (by rw [moved]; rfl) ?_, counters, ?_, ?_, ?_, ?_, ?_, ?_, ?_⟩
  case refine_2 =>
    unfold escapes
    rw [tallied]
  all_goals
    unfold escapes
    rw [tallied, fault, moved]
    rfl

theorem escapes_result {intake : Intake} {versions : Vector VersionEntry 32} {reports : List Report} {k : FaultCause} {b : State}
    (entry : stationAt s n = some st) (disposing : st.role.feeding = false) (moved : Announces (ruledState n t p d intake versions reports s) b) :
    let u := countResult n .passed (escapes n k b)
    Applied s u n t p st .passed d ∧ FaultTaken k s u ∧ u.versions = versions ∧ u.intake = intake ∧ u.binding = s.binding ∧ u.step = s.step
      ∧ u.bundles = s.bundles ∧ u.link.reports = reports ∧ u.track.printJobs = s.track.printJobs
      ∧ u.counters = (tally .escapes (some n) s).counters := by
  obtain ⟨foot, cells, fault, counters, versions, intake, binding, step, bundles, reports, jobs⟩ := escapes_moved (k := k) moved
  rw [counted_disposing entry disposing foot]
  exact ⟨applied_disposing entry disposing foot cells, fault, versions, intake, binding, step, bundles, reports, jobs, counters⟩

theorem escapeCondemned_applied (inside : p < s.track.cells.length) (record : d.record = some r) (tag : d.tag = t) :
    ∃ b, Announces (ruledState n t p (escapedCell (vacated r d)) s.intake (released r s)
        (s.link.reports ++ [.item (escapedReport r d.fault)]) s) b
      ∧ escapeCondemned n p d (applied n t p d s.track.printJobs s) = escapes n (.escape t) b := by
  have held : (escapedCell d).record = some r := record
  refine ⟨queueReport (.item (escapedReport r d.fault)) (finishedState n t p (vacated r (escapedCell d)) r s), ?_, ?_⟩
  · unfold Announces
    rw [queueReport_eq]
    rfl
  · unfold escapeCondemned setEscaped
    dsimp only
    rw [modifyCell_applied inside]
    subst tag
    split
    · next x own =>
      cases record.symm.trans own
      exact congrArg (fun y => escapes n (.escape d.tag) y) (finishRecord_applied inside held (escapedReport r d.fault))
    · next own => cases record.symm.trans own

theorem escapeVoid_applied (inside : p < s.track.cells.length) (tag : d.tag = t) :
    escapeVoid n p d (applied n t p d s.track.printJobs s)
      = escapes n (.unaddressedEscape t) (applied n t p (escapedCell d) s.track.printJobs s) := by
  subst tag
  unfold escapeVoid setEscaped
  rw [modifyCell_applied inside]
  rfl

/-- The notice of a proof's outcome (R147). -/
def proofTold (st : Station) (t : Tag) (c : Cell) (o : GateOutcome) : Notice := .proof {
  passed := o == .diverted
  tag := t
  outcome := o
  fault := c.fault
  gateHealth := some st.health
  gateStatus := some st.recorded }

theorem proofNotice_applied (entry : stationAt s n = some st) (tag : d.tag = t) (o : GateOutcome) (e : Cell) :
    proofNotice n d o (applied n t p e s.track.printJobs s) = proofTold st t d o := by
  unfold proofNotice
  rw [show stationAt (applied n t p e s.track.printJobs s) n = some st from entry, ← tag]
  rfl

theorem proofOutcome_diverted (inside : p < s.track.cells.length) (entry : stationAt s n = some st) (tag : d.tag = t) :
    proofOutcome n p d .diverted (applied n t p d s.track.printJobs s)
      = raise (proofTold st t d .diverted) (applied n t p { d with content := .diverted } s.track.printJobs s) := by
  unfold proofOutcome setContent
  rw [if_pos rfl, modifyCell_applied inside, proofNotice_applied entry tag]

theorem proofOutcome_escapes (inside : p < s.track.cells.length) (entry : stationAt s n = some st) (tag : d.tag = t) {o : GateOutcome}
    (passes : o ≠ .diverted) : proofOutcome n p d o (applied n t p d s.track.printJobs s)
      = escapes n (.proofEscape t) (raise (proofTold st t d o) (applied n t p (escapedCell d) s.track.printJobs s)) := by
  have notice := proofNotice_applied (p := p) entry tag o d
  subst tag
  unfold proofOutcome setEscaped
  rw [if_neg passes, modifyCell_applied inside, notice]
  rfl

end

/-- Settles O32: what a diverted or a passed item does by the content of its cell; a disposing station counts
the result silently, so that all else is the rule's own doing. -/
theorem gateResults : Obligations.GateResults := by
  refine ⟨fun s n st t p c entry role awaits => ?_, fun s n st t p c entry role awaits => ?_⟩
  · intro u requested d
    have disposing : st.role.feeding = false := by rw [role]; rfl
    have inside := awaits_inside awaits
    have tag : (ended n c).tag = t := awaits.2.1
    have taken : u = _ := (takeResult_gate entry role awaits).1
    refine ⟨fun r content record => ?_, fun void => ?_, fun proof => ?_⟩
    · have common : Diverts s u n t p st { vacated r d with content := .diverted } := by
        by_cases again : r.attempts + 1 ≤ s.params.remakeLimit
        · exact (takeResult_returns entry role awaits content record again).1
        · exact (takeResult_spent entry role awaits content record (by omega)).1
      obtain ⟨moved, state, binding, step, bundles, jobs⟩ := common
      refine ⟨moved, state, binding, step, bundles, jobs, fun again => ?_, fun spent => ?_⟩
      · obtain ⟨-, intake, versions, reports, counters⟩ := takeResult_returns entry role awaits content record again
        refine ⟨versions, reports, fun ahead behind queue fresh last => ?_, counters⟩
        rw [queue, insertRemake_append _ fresh last] at intake
        exact intake
      · obtain ⟨-, intake, versions, reports, counters⟩ := takeResult_spent entry role awaits content record spent
        exact ⟨versions, intake, reports, counters⟩
    · rw [gateEnded_void (d := ended n c) inside void, if_pos rfl] at taken
      unfold setContent at taken
      rw [modifyCell_applied inside] at taken
      rw [taken]
      exact quiet_result entry disposing _ (Announces.refl _) rfl
    · rw [gateEnded_proof (d := ended n c) inside proof, proofOutcome_diverted inside entry tag] at taken
      obtain ⟨moved, only, counters, line⟩ := quiet_result (t := t) (p := p) (d := { ended n c with content := .diverted }) entry disposing
        .diverted (announces_raise (proofTold st t (ended n c) .diverted) _) rfl
      rw [taken]
      exact ⟨moved, only, counters, line, noticed_countResult (by decide) (by decide) (by decide) n _ (noticed_raise _ _)⟩
  · intro u escaped counted
    have disposing : st.role.feeding = false := by rw [role]; rfl
    have inside := awaits_inside awaits
    have tag : (ended n c).tag = t := awaits.2.1
    have taken : u = _ := (takeResult_gate entry role awaits).2
    refine ⟨fun bound => ?_, fun r condemned record => ?_, fun void => ?_, fun proof => ?_⟩
    · rw [gateEnded_bound (d := ended n c) inside bound] at taken
      unfold boundOutcome setContent at taken
      rw [if_neg (by decide), modifyCell_applied inside] at taken
      rw [taken]
      exact quiet_result entry disposing _ (Announces.refl _) rfl
    · rw [gateEnded_condemned (d := ended n c) inside condemned, if_neg (by decide)] at taken
      obtain ⟨b, moved, rule⟩ := escapeCondemned_applied (n := n) (t := t) (d := ended n c) inside record tag
      rw [rule] at taken
      obtain ⟨whole, fault, versions, intake, binding, step, bundles, reports, -, counters⟩ :=
        escapes_result (k := .escape t) entry disposing moved
      rw [taken]
      exact ⟨whole, fault, versions, intake, binding, step, bundles, reports, counters⟩
    · rw [gateEnded_void (d := ended n c) inside void, if_neg (by decide), escapeVoid_applied inside tag] at taken
      obtain ⟨whole, fault, versions, intake, binding, step, bundles, reports, jobs, counters⟩ :=
        escapes_result (k := .unaddressedEscape t) (t := t) (p := p) (d := escapedCell (ended n c)) (intake := s.intake)
          (versions := s.versions) (reports := s.link.reports) entry disposing (Announces.refl _)
      rw [taken]
      exact ⟨whole, ⟨intake, versions, binding, step, bundles, reports, jobs⟩, fault, counters⟩
    · rw [gateEnded_proof (d := ended n c) inside proof, proofOutcome_escapes inside entry tag (by decide)] at taken
      obtain ⟨whole, fault, versions, intake, binding, step, bundles, reports, jobs, counters⟩ :=
        escapes_result (k := .proofEscape t) (t := t) (p := p) (d := escapedCell (ended n c)) (intake := s.intake)
          (versions := s.versions) (reports := s.link.reports) entry disposing (announces_raise (proofTold st t (ended n c) .passed) _)
      rw [taken]
      refine ⟨whole, ⟨intake, versions, binding, step, bundles, reports, jobs⟩, fault, counters,
        noticed_countResult (by decide) (by decide) (by decide) n _ ?_⟩
      unfold Noticed escapes
      rw [tally_notice (by decide) (by decide), handFault_notice_other _ _ _ (by decide)]
      exact noticed_raise _ _

end Sys2Proof.Machine
end

section
/-! The results of the stacker (O33). -/

namespace Sys2Proof.Machine

/-! ### Closures asked for by the host (R154, R165) -/

/-- The BUNDLE report of a closure that the host asked for. -/
def hostBundle (b : OpenBundle) : Report := .bundle { bundle := b, residual := false, reason := .host }

/-- The TRAY report of a closure that the host asked for. -/
def hostTray (y : OpenTray) : Report := .tray { tray := y, reason := .host }

/-- The builder once the bundle is closed. -/
def BundleBuilder.bundleOut (b : OpenBundle) (m : BundleBuilder) : BundleBuilder := { m with bundle := none, bundleSplitKey := some b.key }

/-- The builder once the tray is closed. -/
def BundleBuilder.trayOut (y : OpenTray) (m : BundleBuilder) : BundleBuilder := { m with tray := none, traySplitKey := some y.key }

/-- The state with a builder and with reports behind those that wait. -/
def builtState (m : BundleBuilder) (more : List Report) (s : State) : State :=
  { s with bundles := m, link := { s.link with reports := s.link.reports ++ more } }

/-- The BUNDLE report of a closure (R154). -/
def bundleReport (reason : ClosureReason) (s : State) (b : OpenBundle) : Report :=
  .bundle { bundle := b, residual := reason.mayBeResidual && b.items < s.params.bundleMinItems, reason := reason }

/-- The TRAY report of a closure (R154). -/
def trayReport (reason : ClosureReason) (y : OpenTray) : Report := .tray { tray := y, reason := reason }

theorem closeBundle_open {s : State} {b : OpenBundle} (bundle : s.bundles.bundle = some b) (reason : ClosureReason) :
    Tallies (builtState { s.bundles with bundle := none, bundleSplitKey := reason.splitKey b.key } [bundleReport reason s b] s)
        (closeBundle reason s)
      ∧ (closeBundle reason s).counters = (tally .bundlesClosed none s).counters := by
  have report := queueReport_eq (bundleReport reason s b) s
  unfold closeBundle
  rw [bundle]
  dsimp only
  refine ⟨Tallies.trans ?_ (tallies_tally _ _ _), tally_counters_congr _ _ ?_ ?_⟩
  · change Tallies _ { queueReport (bundleReport reason s b) s with
      bundles := { (queueReport (bundleReport reason s b) s).bundles with bundle := none, bundleSplitKey := reason.splitKey b.key } }
    unfold Tallies builtState
    rw [report]
  · exact congrArg (·.counters) report
  · exact congrArg (·.params) report

theorem closeTray_open {s : State} {y : OpenTray} (tray : s.bundles.tray = some y) (reason : ClosureReason) :
    Announces (builtState { s.bundles with tray := none, traySplitKey := reason.splitKey y.key } [trayReport reason y] s)
        (closeTray reason s) := by
  have report := queueReport_eq (trayReport reason y) s
  unfold closeTray
  rw [tray]
  change Announces _ { queueReport (trayReport reason y) s with
    bundles := { (queueReport (trayReport reason y) s).bundles with tray := none, traySplitKey := reason.splitKey y.key } }
  unfold Announces builtState
  rw [report]

theorem closeBundle_host {s : State} {b : OpenBundle} (bundle : s.bundles.bundle = some b) :
    Tallies (builtState (s.bundles.bundleOut b) [hostBundle b] s) (closeBundle .host s)
      ∧ (closeBundle .host s).counters = (tally .bundlesClosed none s).counters := closeBundle_open bundle .host

theorem closeTray_host {s : State} {y : OpenTray} (tray : s.bundles.tray = some y) :
    Tallies (builtState (s.bundles.trayOut y) [hostTray y] s) (closeTray .host s) ∧ (closeTray .host s).counters = s.counters :=
  ⟨(closeTray_open tray .host).tallies, (closeTray_open tray .host).counters_eq⟩

/-- The builder once the pending close is carried out. -/
def BundleBuilder.carriedOut (b : OpenBundle) (y : OpenTray) (m : BundleBuilder) : BundleBuilder :=
  let ends := { m with inFlight := none, closePending := .none }
  match m.closePending with
  | .none => ends
  | .bundle => ends.bundleOut b
  | .bundleAndTray => (ends.bundleOut b).trayOut y

section
variable {b : OpenBundle} {y : OpenTray} {m : BundleBuilder}

theorem carriedOut_none (pending : m.closePending = .none) : m.carriedOut b y = { m with inFlight := none } := by
  unfold BundleBuilder.carriedOut
  rw [pending]

theorem carriedOut_bundle (pending : m.closePending = .bundle) :
    m.carriedOut b y = { m with bundle := none, inFlight := none, closePending := .none, bundleSplitKey := some b.key } := by
  unfold BundleBuilder.carriedOut
  rw [pending]
  rfl

theorem carriedOut_both (pending : m.closePending = .bundleAndTray) :
    m.carriedOut b y = { m with
      bundle := none
      tray := none
      inFlight := none
      closePending := .none
      bundleSplitKey := some b.key
      traySplitKey := some y.key } := by
  unfold BundleBuilder.carriedOut
  rw [pending]
  rfl

end

/-- The reports of a pending close. -/
def closeReports (b : OpenBundle) (y : OpenTray) : ClosePending → List Report
  | .none => []
  | .bundle => [hostBundle b]
  | .bundleAndTray => [hostBundle b, hostTray y]

/-- The state once a pending close is carried out. -/
def afterClose (pending : ClosePending) (s : State) : State := if pending = .none then s else tally .bundlesClosed none s

theorem carryOutClose_moved {s : State} {b : OpenBundle} {y : OpenTray} (bundle : s.bundles.bundle = some b) (tray : s.bundles.tray = some y) :
    Tallies (builtState (s.bundles.carriedOut b y) (closeReports b y s.bundles.closePending) s) (carryOutClose s)
      ∧ (carryOutClose s).counters = (afterClose s.bundles.closePending s).counters := by
  unfold carryOutClose BundleBuilder.carriedOut afterClose
  dsimp only
  cases s.bundles.closePending with
  | none =>
    refine ⟨?_, rfl⟩
    unfold Tallies builtState closeReports
    simp
  | bundle =>
    have closes := closeBundle_host (s := { s with bundles := { s.bundles with inFlight := none, closePending := .none } }) bundle
    exact ⟨closes.1, closes.2.trans (tally_counters_congr _ _ rfl rfl)⟩
  | bundleAndTray =>
    obtain ⟨closes, counts⟩ := closeBundle_host (s := { s with bundles := { s.bundles with inFlight := none, closePending := .none } }) bundle
    have open' : (closeBundle .host { s with bundles := { s.bundles with inFlight := none, closePending := .none } }).bundles.tray = some y := by
      rw [closes]
      exact tray
    obtain ⟨trays, same⟩ := closeTray_host open'
    refine ⟨?_, same.trans (counts.trans (tally_counters_congr _ _ rfl rfl))⟩
    unfold Tallies builtState at *
    rw [trays, closes]
    simp [closeReports]

/-! ### The stack in flight ends (R156 to R158) -/

/-- The open bundle with an item more (R157). -/
def countedBundle (r : Record) (v : VersionDef) (b : OpenBundle) : OpenBundle := { b with
  items := b.items + 1
  weight := b.weight + v.weight
  first := if b.first = none then some r.sequence else b.first
  last := some r.sequence }

/-- The open tray with an item more (R157). -/
def countedTray (v : VersionDef) (y : OpenTray) : OpenTray := { y with items := y.items + 1, weight := y.weight + v.weight }

/-- The builder with an item counted into its bundle and its tray. -/
def BundleBuilder.counted (r : Record) (v : VersionDef) (b : OpenBundle) (y : OpenTray) (m : BundleBuilder) : BundleBuilder :=
  { m with bundle := some (countedBundle r v b), tray := some (countedTray v y) }

section
variable {s x : State} {n : SlotNo} {st : Station} {t : Tag} {p : Nat} {c d : Cell} {r : Record} {v : VersionDef} {b : OpenBundle} {y : OpenTray}
  {o : StationOutcome} {m : BundleBuilder} {item : Report}

theorem countItem_open (bundle : s.bundles.bundle = some b) (tray : s.bundles.tray = some y) (defined : s.versions[r.version].definition = some v) :
    countItem r false s = { s with bundles := s.bundles.counted r v b y } := by
  have weight : versionWeight s r.version = v.weight := by
    unfold versionWeight
    rw [defined]
    rfl
  have first : some (b.first.getD r.sequence) = if b.first = none then some r.sequence else b.first := by
    cases b.first <;> rfl
  unfold countItem BundleBuilder.counted countedBundle countedTray
  rw [bundle, tray, weight, ← first]
  rfl

/-- What the end of a stack has done once the record is finished: the builder is m, and the report waits. -/
structure Stacks (s x : State) (n : SlotNo) (t : Tag) (p : Nat) (d : Cell) (r : Record) (m : BundleBuilder) (item : Report) (e : TallyEvent) :
    Prop where
  foot : ResultFoot (applied n t p d s.track.printJobs s) x
  cells : x.track.cells = s.track.cells.set p (vacated r d)
  versions : x.versions = released r s
  intake : x.intake = s.intake
  binding : x.binding = s.binding
  step : x.step = s.step
  bundles : x.bundles = m
  reports : x.link.reports = s.link.reports ++ [item]
  jobs : x.track.printJobs = s.track.printJobs
  counters : x.counters = (tally e (some n) s).counters

/-- The record of a stacked item is finished (R157). -/
theorem stacks_stacked (inside : p < s.track.cells.length) (record : d.record = some r) (bundle : s.bundles.bundle = some b)
    (tray : s.bundles.tray = some y) (defined : s.versions[r.version].definition = some v) (c : Cell) :
    let x := stackOutcome n p c r .stacked (applied n t p d s.track.printJobs s)
    Stacks s x n t p d r (s.bundles.counted r v b y) (.item (stackedReport r b.serial false)) .stacked
      ∧ x.line = { s.line with feed := x.line.feed } := by
  have counts : countItem r false (applied n t p d s.track.printJobs s)
      = applied n t p d s.track.printJobs { s with bundles := s.bundles.counted r v b y } := countItem_open bundle tray defined
  have finishes := finishRecord_applied (n := n) (t := t) (s := { s with bundles := s.bundles.counted r v b y }) inside record (stackedReport r b.serial false)
  have rule : stackOutcome n p c r .stacked (applied n t p d s.track.printJobs s)
      = tally .stacked (some n) (queueReport (.item (stackedReport r b.serial false))
        (finishedState n t p (vacated r d) r { s with bundles := s.bundles.counted r v b y })) := by
    unfold stackOutcome
    dsimp only
    rw [counts]
    exact congrArg (tally .stacked (some n)) finishes
  have report := queueReport_eq (.item (stackedReport r b.serial false))
    (finishedState n t p (vacated r d) r { s with bundles := s.bundles.counted r v b y })
  intro x
  have taken : x = _ := rule
  rw [taken]
  generalize queueReport _ _ = z at *
  have tallied := tallies_tally .stacked (some n) z
  have counters := tally_counters_congr (s := z) (t := s) .stacked (some n) (by rw [report]; rfl) (by rw [report]; rfl)
  generalize tally .stacked (some n) z = w at *
  have own : w = { s with
      bus := { s.bus with txQueue := unsent n t s }
      versions := released r s
      track := { s.track with cells := s.track.cells.set p (vacated r d) }
      bundles := s.bundles.counted r v b y
      line := { s.line with feed := w.line.feed }
      counters := w.counters
      link := { s.link with reports := s.link.reports ++ [.item (stackedReport r b.serial false)], notices := w.link.notices } } := by
    unfold Tallies at tallied
    rw [tallied, report]
    rfl
  refine ⟨⟨⟨by rw [own]; rfl, .inl ⟨by rw [own]; rfl, by rw [own]; rfl, by rw [own]; rfl⟩⟩, ?_, ?_, ?_, ?_, ?_, ?_, ?_, ?_, counters⟩, ?_⟩
  all_goals rw [own]

/-- The record of a lost item is finished, and the line faults (R158). -/
theorem stacks_lost (inside : p < s.track.cells.length) (record : d.record = some r) (tag : c.tag = t) :
    let x := stackOutcome n p c r .fault (applied n t p d s.track.printJobs s)
    Stacks s x n t p d r s.bundles (.item (offlineReport r .stackLost none r.attempts)) .offlineFinishes
      ∧ ∃ z, z.line = { s.line with feed := z.line.feed } ∧ x.line = { (handFault (.stackFault t) z).line with feed := x.line.feed } := by
  have report := queueReport_eq (.item (offlineReport r .stackLost none r.attempts)) (finishedState n t p (vacated r d) r s)
  have rule : stackOutcome n p c r .fault (applied n t p d s.track.printJobs s)
      = tally .offlineFinishes (some n) (handFault (.stackFault t)
        (queueReport (.item (offlineReport r .stackLost none r.attempts)) (finishedState n t p (vacated r d) r s))) := by
    unfold stackOutcome
    dsimp only
    rw [tag, finishRecord_applied inside record]
  intro x
  have taken : x = _ := rule
  rw [taken]
  generalize queueReport _ _ = z at *
  have base : ResultFoot (applied n t p d s.track.printJobs s) z := ⟨by rw [report]; rfl, .inl ⟨by rw [report]; rfl, by rw [report]; rfl, by rw [report]; rfl⟩⟩
  have fault := handFault_eq (.stackFault t) z
  have tallied := tallies_tally .offlineFinishes (some n) (handFault (.stackFault t) z)
  have counters := tally_counters_congr (s := handFault (.stackFault t) z) (t := s) .offlineFinishes (some n) (by rw [fault, report]; rfl)
    (by rw [fault, report]; rfl)
  have foot := (base.trans (resultFoot_handFault (.stackFault t) z)).trans tallied.resultFoot
  generalize tally .offlineFinishes (some n) (handFault (.stackFault t) z) = w at *
  unfold Tallies at tallied
  refine ⟨⟨foot, ?_, ?_, ?_, ?_, ?_, ?_, ?_, ?_, counters⟩, z, by rw [report]; rfl, by rw [tallied]⟩
  all_goals
    rw [tallied, fault, report]
    rfl

/-- What a stacker's result has done once the pending close is carried out (R156, R165). -/
structure StackEnds (s u : State) (n : SlotNo) (t : Tag) (p : Nat) (st : Station) (o : StationOutcome) (d : Cell) (r : Record)
    (m : BundleBuilder) (b : OpenBundle) (y : OpenTray) (item : Report) (e : TallyEvent) : Prop where
  applied : Applied s u n t p st o (vacated r d)
  versions : u.versions = released r s
  intake : u.intake = s.intake
  binding : u.binding = s.binding
  step : u.step = s.step
  counters : u.counters = (afterClose s.bundles.closePending (tally e (some n) s)).counters
  bundles : u.bundles = m.carriedOut b y
  reports : u.link.reports = s.link.reports ++ item :: closeReports b y s.bundles.closePending

/-- What the end of a stack has done once the pending close is carried out, the station aside (R156, R165). -/
structure Carried (s v : State) (n : SlotNo) (t : Tag) (p : Nat) (d : Cell) (r : Record) (m : BundleBuilder) (b : OpenBundle)
    (y : OpenTray) (item : Report) (e : TallyEvent) : Prop where
  foot : ResultFoot (applied n t p d s.track.printJobs s) v
  cells : v.track.cells = s.track.cells.set p (vacated r d)
  versions : v.versions = released r s
  intake : v.intake = s.intake
  binding : v.binding = s.binding
  step : v.step = s.step
  counters : v.counters = (afterClose s.bundles.closePending (tally e (some n) s)).counters
  bundles : v.bundles = m.carriedOut b y
  reports : v.link.reports = s.link.reports ++ item :: closeReports b y s.bundles.closePending
  jobs : v.track.printJobs = s.track.printJobs

theorem stacks_carried {e : TallyEvent} (h : Stacks s x n t p d r m item e) (bundle : m.bundle = some b) (tray : m.tray = some y)
    (pending : m.closePending = s.bundles.closePending) :
    Carried s (carryOutClose x) n t p d r m b y item e ∧ (carryOutClose x).line = { x.line with feed := (carryOutClose x).line.feed } := by
  obtain ⟨foot, cells, versions, intake, binding, step, bundles, reports, jobs, counters⟩ := h
  obtain ⟨closes, counted⟩ := carryOutClose_moved (bundles ▸ bundle) (bundles ▸ tray)
  have toBuilt : ResultFoot x (builtState (x.bundles.carriedOut b y) (closeReports b y x.bundles.closePending) x) := ⟨rfl, .inl ⟨rfl, rfl, rfl⟩⟩
  have whole := (foot.trans toBuilt).trans closes.resultFoot
  have params : x.params = s.params := by rw [foot.1]; rfl
  have total : (afterClose x.bundles.closePending x).counters = (afterClose s.bundles.closePending (tally e (some n) s)).counters := by
    rw [bundles, pending]
    unfold afterClose
    split
    · exact counters
    · exact tally_counters_congr _ _ counters (by rw [params, tally_params])
  rw [bundles] at closes
  refine ⟨⟨whole, by rw [closes, ← cells]; rfl, by rw [closes, ← versions]; rfl, by rw [closes, ← intake]; rfl,
    by rw [closes, ← binding]; rfl, by rw [closes, ← step]; rfl, counted.trans total, by rw [closes]; rfl, ?_, by rw [closes, ← jobs]; rfl⟩, by rw [closes]; rfl⟩
  rw [closes]
  change x.link.reports ++ closeReports b y m.closePending = _
  rw [reports, pending, List.append_assoc]
  rfl

theorem stackEnds {e : TallyEvent} (entry : stationAt s n = some st) (disposing : st.role.feeding = false)
    (h : Stacks s x n t p d r m item e) (bundle : m.bundle = some b) (tray : m.tray = some y) (pending : m.closePending = s.bundles.closePending)
    (o : StationOutcome) :
    let u := countResult n o (carryOutClose x)
    StackEnds s u n t p st o d r m b y item e ∧ u.line = { x.line with feed := u.line.feed } := by
  obtain ⟨⟨foot, cells, versions, intake, binding, step, counters, bundles, reports, -⟩, line⟩ := stacks_carried h bundle tray pending
  rw [counted_disposing entry disposing foot]
  exact ⟨⟨applied_disposing entry disposing foot cells, versions, intake, binding, step, counters, bundles, reports⟩, line⟩

theorem takeResult_stacker (entry : stationAt s n = some st) (role : st.role = .stacker) (awaits : Awaits s n t p c) :
    takeResult n t .stacked s = countResult n .stacked (stackerEnded n p .stacked (applied n t p (ended n c) s.track.printJobs s))
      ∧ takeResult n t .stackFault s = countResult n .stackFault (stackerEnded n p .fault (applied n t p (ended n c) s.track.printJobs s)) := by
  rw [takeResult_applied entry awaits, takeResult_applied entry awaits, role]
  exact ⟨rfl, rfl⟩

theorem stackerEnded_holds (inside : p < s.track.cells.length) (passed : d.content = .passed) (own : d.escaped = false)
    (record : d.record = some r) (e : StackerEnd) :
    stackerEnded n p e (applied n t p d s.track.printJobs s)
      = carryOutClose (stackOutcome n p d r e (applied n t p d s.track.printJobs s)) := by
  unfold stackerEnded
  rw [cellAt_applied inside]
  dsimp only
  rw [if_neg (not_not.mpr passed), if_neg (by simp [own]), record]

theorem stackerEnded_escaped (inside : p < s.track.cells.length) (passed : d.content = .passed) (out : d.escaped = true) (e : StackerEnd) :
    stackerEnded n p e (applied n t p d s.track.printJobs s) = setAsideOutcome d e (applied n t p d s.track.printJobs s) := by
  unfold stackerEnded
  rw [cellAt_applied inside]
  dsimp only
  rw [if_neg (not_not.mpr passed), if_pos out]

end

/-- Settles O33: a stack's end finishes the record and then carries out a pending close on the builder that
it leaves; the end of a SET_ASIDE does neither. -/
theorem stackerResults : Obligations.StackerResults := by
  intro s n st t p c entry role awaits passed
  have disposing : st.role.feeding = false := by rw [role]; rfl
  have inside := awaits_inside awaits
  have tag : (ended n c).tag = t := awaits.2.1
  obtain ⟨stacked, faulted⟩ := takeResult_stacker entry role awaits
  refine ⟨fun r b tray v own record bundle open' defined => ?_, fun out => ?_⟩
  · intro counted countedY builder bundleClosed trayClosed item lost closed u w
    have left : (ended n c).record = some r := record
    rw [stackerEnded_holds (d := ended n c) inside passed own left] at stacked faulted
    obtain ⟨keeps, line⟩ := stacks_stacked (n := n) (t := t) inside left bundle open' defined (ended n c)
    obtain ⟨loses, z, before, after⟩ := stacks_lost (n := n) (s := s) inside left tag
    obtain ⟨⟨moved, versions, intake, binding, step, counters, bundles, reports⟩, lineU⟩ :=
      stackEnds entry disposing keeps (b := countedBundle r v b) (y := countedTray v tray) rfl rfl rfl .stacked
    obtain ⟨⟨moved', versions', intake', binding', step', counters', bundles', reports'⟩, lineW⟩ :=
      stackEnds entry disposing loses bundle open' rfl .stackFault
    rw [← stacked] at moved versions intake binding step counters bundles reports lineU
    rw [← faulted] at moved' versions' intake' binding' step' counters' bundles' reports' lineW
    have state : u.line.state = s.line.state := by
      change (takeResult n t .stacked s).line.state = _
      rw [lineU, line]
    have taken : FaultTaken (.stackFault t) s w := by
      refine FaultTaken.through before ?_
      change (takeResult n t .stackFault s).line = _
      rw [lineW, after]
    refine ⟨moved, moved', state, taken, versions, versions', intake, intake', binding, binding', step, step', counters, counters',
      fun pending => ?_, fun pending => ?_, fun pending => ?_⟩
    all_goals
      have pending' : (s.bundles.counted r v b tray).closePending = _ := pending
      rw [pending] at reports reports'
    · rw [carriedOut_none pending] at bundles'
      rw [carriedOut_none pending'] at bundles
      exact ⟨bundles, reports, bundles', reports'⟩
    · rw [carriedOut_bundle pending] at bundles'
      rw [carriedOut_bundle pending'] at bundles
      exact ⟨bundles, reports, bundles', reports'⟩
    · rw [carriedOut_both pending] at bundles'
      rw [carriedOut_both pending'] at bundles
      exact ⟨bundles, reports, bundles', reports'⟩
  · intro u w
    rw [stackerEnded_escaped (d := ended n c) inside passed out] at stacked faulted
    obtain ⟨moved, only, counters, line⟩ := quiet_result (t := t) (p := p) (d := ended n c) entry disposing .stacked (Announces.refl _) rfl
    have silent : u = _ := stacked
    have fault := handFault_eq (.stackFault t) (applied n t p (ended n c) s.track.printJobs s)
    have foot := resultFoot_handFault (.stackFault t) (applied n t p (ended n c) s.track.printJobs s)
    have aside : setAsideOutcome (ended n c) .fault (applied n t p (ended n c) s.track.printJobs s)
        = handFault (.stackFault t) (applied n t p (ended n c) s.track.printJobs s) := by
      unfold setAsideOutcome
      dsimp only
      rw [tag]
    have lost : w = putStation n (some (st.afterResult .stackFault)) (handFault (.stackFault t) (applied n t p (ended n c) s.track.printJobs s)) := by
      rw [← counted_disposing entry disposing foot, ← aside]
      exact faulted
    have moved' := applied_disposing (o := .stackFault) (c := ended n c) entry disposing foot (by rw [fault]; rfl)
    have taken : FaultTaken (.stackFault t) s
        (putStation n (some (st.afterResult .stackFault)) (handFault (.stackFault t) (applied n t p (ended n c) s.track.printJobs s))) :=
      FaultTaken.through (x := applied n t p (ended n c) s.track.printJobs s) rfl rfl
    rw [silent]
    refine ⟨moved, only, line, counters, ?_⟩
    rw [lost]
    refine ⟨moved', ⟨?_, ?_, ?_, ?_, ?_, ?_, ?_⟩, taken, ?_⟩
    all_goals
      unfold putStation
      rw [fault]
      rfl

end Sys2Proof.Machine
end

section
/-! Faults handed to the line (O34) and the drive's motion (O36). -/

namespace Sys2Proof.Machine

/-! ### A STOP that follows a fault (R19, R179) -/

theorem any_usable_of {s : State} {n : SlotNo} {st : Station} {r : Role} (slot : slotWith s r = some n) (entry : stationAt s n = some st) :
    (slotWith s r).any (usable s) = st.usable := by
  rw [slot]
  change (stationAt s n).any Station.usable = _
  rw [entry]
  rfl

theorem any_usable_false {s : State} {r : Role} (unusable : ∀ n st, slotWith s r = some n → stationAt s n = some st → st.usable = false) :
    (slotWith s r).any (usable s) = false := by
  cases slot : slotWith s r with
  | none => rfl
  | some n =>
    change (stationAt s n).any Station.usable = false
    cases entry : stationAt s n with
    | none => rfl
    | some st => exact unusable n st slot entry

/-- A command for the drive takes the place of one that waits (R19). -/
theorem putDriveCommand_replaces {c d : BusCommand} {ahead behind : List BusCommand} (drive : d.forDrive = true)
    (before : ∀ x ∈ ahead, x.forDrive = false) (after : ∀ x ∈ behind, x.forDrive = false) :
    putDriveCommand c (ahead ++ d :: behind) = ahead ++ c :: behind := by
  have keeps {l : List BusCommand} (others : ∀ x ∈ l, x.forDrive = false) : l.map (fun x => if x.forDrive then c else x) = l := by
    refine (List.map_congr_left fun x member => ?_).trans (List.map_id' l)
    rw [others x member]
    rfl
  unfold putDriveCommand
  rw [if_pos (by simp [drive]), List.map_append, List.map_cons, keeps before, keeps after, if_pos drive]

/-- A command for the drive joins the tail when none waits (R19). -/
theorem putDriveCommand_joins {c : BusCommand} {q : List BusCommand} (others : q.any (·.forDrive) = false) : putDriveCommand c q = q ++ [c] := by
  unfold putDriveCommand
  rw [others]
  rfl

theorem issueDrive_of {s : State} {n : SlotNo} (slot : slotWith s .drive = some n) (o : BusOrder) :
    issueDrive o s = { s with bus := { s.bus with txQueue := putDriveCommand { slot := n, order := o } s.bus.txQueue } } := by
  unfold issueDrive
  rw [slot]

/-- The line when a first fault is taken (R179). -/
def faultedLine (k : FaultCause) (order : DriveOrder) (l : Line) : Line := { l with
  state := .faulted
  fault := some k
  laterFaults := 0
  lastLater := none
  drain := .none
  driveOrder := order
  startTimer := .stopped
  stopTimer := .stopped }

theorem handFault_first {k : FaultCause} {s : State} (first : s.line.state ≠ .faulted) :
    handFault k s = enterFaulted k s := if_neg first

theorem enterFaulted_stops {k : FaultCause} {s : State} {n : SlotNo} {st : Station} (slot : slotWith s .drive = some n)
    (entry : stationAt s n = some st) (usable : st.usable = true) :
    enterFaulted k s = changeLine (faultedLine k (.stop false) s.line) { s with
      bus := { s.bus with txQueue := putDriveCommand { slot := n, order := .stop } (s.bus.txQueue.filter (·.order != .run)) } } := by
  have stops : (slotWith s .drive).any (Machine.usable s) = true := (any_usable_of slot entry).trans usable
  unfold enterFaulted
  dsimp only
  rw [show (slotWith { s with bus := { s.bus with txQueue := s.bus.txQueue.filter (·.order != .run) } } .drive).any
    (Machine.usable { s with bus := { s.bus with txQueue := s.bus.txQueue.filter (·.order != .run) } }) = true from stops,
    if_pos rfl, if_pos rfl, issueDrive_of (s := { s with bus := { s.bus with txQueue := s.bus.txQueue.filter (·.order != .run) } }) slot]
  rfl

theorem enterFaulted_coasts {k : FaultCause} {s : State}
    (unusable : ∀ n st, slotWith s .drive = some n → stationAt s n = some st → st.usable = false) :
    enterFaulted k s = changeLine (faultedLine k .none s.line) { s with
      bus := { s.bus with txQueue := s.bus.txQueue.filter (·.order != .run) } } := by
  have coasts : (slotWith s .drive).any (Machine.usable s) = false := any_usable_false unusable
  unfold enterFaulted
  dsimp only
  rw [show (slotWith { s with bus := { s.bus with txQueue := s.bus.txQueue.filter (·.order != .run) } } .drive).any
    (Machine.usable { s with bus := { s.bus with txQueue := s.bus.txQueue.filter (·.order != .run) } }) = false from coasts]
  rfl

/-- The drive is usable, or nothing usable is configured as the drive. -/
theorem drive_usable_or (s : State) : (∃ n st, slotWith s .drive = some n ∧ stationAt s n = some st ∧ st.usable = true)
    ∨ ∀ n st, slotWith s .drive = some n → stationAt s n = some st → st.usable = false := by
  by_cases serves : ∃ n st, slotWith s .drive = some n ∧ stationAt s n = some st ∧ st.usable = true
  · exact .inl serves
  · refine .inr fun n st slot entry => ?_
    rw [← Bool.not_eq_true]
    exact fun usable => serves ⟨n, st, slot, entry, usable⟩

/-- Settles O34: a first fault is one change of the line after the drive's STOP, and the inputs hand it at
most once. -/
theorem faultHanded : Obligations.FaultHanded := by
  refine ⟨fun k s => ⟨fun faulted => handFault_faulted faulted, fun first => ?_⟩, fun s => ⟨fun released => ?_, fun asserted => ?_, rfl⟩,
    fun s => ?_⟩
  · intro u kept stops notice
    have taken : u = enterFaulted k s := handFault_first first
    refine ⟨?_, ?_, fun n st slot entry usable => ?_, fun unusable => ?_⟩
    · rw [taken]
      rcases drive_usable_or s with ⟨n, st, slot, entry, usable⟩ | unusable
      · rw [enterFaulted_stops slot entry usable]
        exact noticed_changeLine _ _
      · rw [enterFaulted_coasts unusable]
        exact noticed_changeLine _ _
    · rw [taken]
      rcases drive_usable_or s with ⟨n, st, slot, entry, usable⟩ | unusable
      · rw [enterFaulted_stops slot entry usable]
        rfl
      · rw [enterFaulted_coasts unusable]
        rfl
    · rw [taken, enterFaulted_stops slot entry usable]
      refine ⟨rfl, rfl, fun none' => ?_⟩
      rw [← putDriveCommand_joins none']
      rfl
    · rw [taken, enterFaulted_coasts unusable]
      exact ⟨rfl, rfl⟩
  · change execEstop s = _
    unfold execEstop
    rw [if_neg (by simp [released])]
    rfl
  · exact if_pos asserted
  · intro u
    exact ⟨fun runs => if_neg runs, fun runs => if_neg runs, fun stands => if_pos stands, fun stands => if_pos stands⟩

/-! ### The drive's motion (R6, R173, R176, R177) -/

/-- Settles O36. -/
theorem driveAnswerMovesLine : Obligations.DriveAnswerMovesLine := by
  intro s n st m entry drive u told t
  have taken : t = lineMotion n m (st.motion != some m) u := takeMotion_drive entry drive
  have unfolded : t = match s.line.state with
      | .starting => if s.line.driveOrder = .run true ∧ m = .running then told { s.line with state := .running, startTimer := .stopped } else u
      | .stopping => if s.line.driveOrder = .stop true ∧ m = .stopped then
          told { s.line with state := .idle, driveOrder := .none, stopTimer := .stopped } else u
      | .running | .draining => if (st.motion != some m) = true ∧ m = .stopped then handFault (.driveHalt n) u else u
      | .idle | .faulted => u := by
    rw [taken]
    unfold lineMotion
    rw [show u.line.state = s.line.state from rfl]
    cases s.line.state <;> rfl
  have changes (was : st.motion ≠ some m) : (st.motion != some m) = true := by simpa using was
  refine ⟨fun state order motion => ?_, fun state order motion => ?_, fun state motion was => ?_, fun notStart notStop notHalt => ?_⟩
  · rw [unfolded, state]
    exact if_pos ⟨order, motion⟩
  · rw [unfolded, state]
    exact if_pos ⟨order, motion⟩
  · have halts : (st.motion != some m) = true ∧ m = .stopped := ⟨changes (by simp [motion, was]), motion⟩
    rw [unfolded]
    rcases state with state | state <;> (rw [state]; exact if_pos halts)
  · have stays (moving : s.line.state = .running ∨ s.line.state = .draining) : ¬ ((st.motion != some m) = true ∧ m = .stopped) := by
      rintro ⟨changed, rfl⟩
      exact notHalt ⟨moving, rfl, by simpa using changed⟩
    rw [unfolded]
    cases state : s.line.state with
    | starting => exact if_neg fun ⟨order, motion⟩ => notStart ⟨state, order, motion⟩
    | stopping => exact if_neg fun ⟨order, motion⟩ => notStop ⟨state, order, motion⟩
    | running => exact if_neg (stays (.inl state))
    | draining => exact if_neg (stays (.inr state))
    | idle => rfl
    | faulted => rfl

end Sys2Proof.Machine
end

section
/-! What no part of an advance changes but the shift and the phase monitor: the configuration, the definitions, the
counters' set-ups, the inputs, and which cells stand where. -/

namespace Sys2Proof.Machine

/-- What is configured of a station (R12). -/
def Station.configured (st : Station) : Role × Nat × Option Nat × Bool × Nat := (st.role, st.address, st.position, st.debounce, st.faultLimit)

/-- The line states that an advance can lead to: a fault comes from every state, the stop point drains a running line,
and a drain ends in a stop (R74, R175, R179). -/
def LineFlow (before after : LineState) : Prop :=
  after = before ∨ after = .faulted ∨ (before = .running ∧ (after = .draining ∨ after = .stopping))
    ∨ (before = .draining ∧ after = .stopping)

theorem LineFlow.trans {a b c : LineState} (h : LineFlow a b) (k : LineFlow b c) : LineFlow a c := by
  rcases k with same | faulted | ⟨running, ends⟩ | ⟨draining, stopping⟩
  · exact same ▸ h
  · exact .inr (.inl faulted)
  · subst running
    rcases h with same | h | ⟨-, h | h⟩ | ⟨-, h⟩
    · exact .inr (.inr (.inl ⟨same.symm, ends⟩))
    all_goals cases h
  · subst draining
    rcases h with same | h | ⟨running, -⟩ | ⟨-, h⟩
    · exact .inr (.inr (.inr ⟨same.symm, stopping⟩))
    · cases h
    · exact .inr (.inr (.inl ⟨running, .inr stopping⟩))
    · cases h

/-- From s to u no block that no advance moves has changed, nor a cell's place. -/
structure Foot (s u : State) : Prop where
  blocks : u = { s with
    stations := u.stations
    bus := { s.bus with txQueue := u.bus.txQueue }
    intake := { s.intake with queue := u.intake.queue }
    versions := u.versions
    track := { u.track with nextTag := s.track.nextTag }
    binding := u.binding
    step := u.step
    bundles := u.bundles
    line := u.line
    counters := u.counters
    link := { s.link with reports := u.link.reports, notices := u.link.notices } }
  stations : ∀ n, (stationAt u n).map Station.configured = (stationAt s n).map Station.configured
  versions : ∀ v : Fin 32, u.versions[v].definition = s.versions[v].definition
  setups : ∀ i : Fin 8, u.counters.all[i].setup = s.counters.all[i].setup
  tags : u.track.cells.map (·.tag) = s.track.cells.map (·.tag)
  flow : LineFlow s.line.state u.line.state

theorem Foot.refl (s : State) : Foot s s := ⟨rfl, fun _ => rfl, fun _ => rfl, fun _ => rfl, rfl, .inl rfl⟩

theorem Foot.trans {s t u : State} (h : Foot s t) (k : Foot t u) : Foot s u := by
  refine ⟨?_, fun n => (k.stations n).trans (h.stations n), fun v => (k.versions v).trans (h.versions v),
    fun i => (k.setups i).trans (h.setups i), k.tags.trans h.tags, h.flow.trans k.flow⟩
  rw [k.blocks, h.blocks]

/-- A change of neither the stations, the versions, the counters nor the cells. -/
def Beside (s u : State) : Prop := u = { s with
  bus := { s.bus with txQueue := u.bus.txQueue }
  intake := { s.intake with queue := u.intake.queue }
  track := { s.track with printJobs := u.track.printJobs }
  binding := u.binding
  step := u.step
  bundles := u.bundles
  line := { s.line with feed := u.line.feed }
  link := { s.link with reports := u.link.reports, notices := u.link.notices } }

theorem foot_beside {s u : State} (h : Beside s u) : Foot s u := by
  unfold Beside at h
  refine ⟨?_, fun n => ?_, fun v => ?_, fun i => ?_, ?_, .inl ?_⟩ <;> rw [h]
  rfl

theorem foot_changeLine {l : Line} {s : State} (flow : LineFlow s.line.state l.state) : Foot s (changeLine l s) :=
  ⟨rfl, fun _ => rfl, fun _ => rfl, fun _ => rfl, rfl, flow⟩

theorem foot_announces {s u : State} (h : Announces s u) : Foot s u := by
  refine foot_beside ?_
  unfold Beside
  rw [h]

theorem foot_raise (n : Notice) (s : State) : Foot s (raise n s) := foot_announces (announces_raise n s)

theorem foot_queueReport (r : Report) (s : State) : Foot s (queueReport r s) := foot_beside (by
  unfold Beside
  rw [queueReport_eq])

theorem foot_handFault (k : FaultCause) (s : State) : Foot s (handFault k s) := by
  obtain ⟨state, -⟩ := faultTaken_handFault k s
  have moved := handFault_eq k s
  generalize handFault k s = u at *
  refine ⟨?_, fun n => ?_, fun v => ?_, fun i => ?_, ?_, .inr (.inl state)⟩ <;> rw [moved]
  rfl

theorem foot_cells {s : State} {cells : List Cell} {jobs : Nat} (tags : cells.map (·.tag) = s.track.cells.map (·.tag)) :
    Foot s { s with track := { s.track with cells := cells, printJobs := jobs } } :=
  ⟨rfl, fun _ => rfl, fun _ => rfl, fun _ => rfl, tags, .inl rfl⟩

theorem foot_modifyCell (p : Nat) {f : Cell → Cell} (tag : ∀ c, (f c).tag = c.tag) (s : State) : Foot s (modifyCell p f s) :=
  foot_cells (jobs := s.track.printJobs) (tags_modify tag p _)

theorem foot_condemnAt (p : Nat) (k : Condemn) (s : State) : Foot s (condemnAt p k s) :=
  foot_modifyCell p (fun c => (cellKept_condemn k c).1) s

theorem foot_binding (b : Binding) (s : State) : Foot s { s with binding := b } := foot_beside rfl

theorem foot_setQueue (q : List Record) (s : State) : Foot s (setQueue q s) := foot_beside rfl

theorem foot_setRefCount (v : Fin 32) (f : Nat → Nat) (s : State) : Foot s (setRefCount v f s) := by
  refine ⟨rfl, fun _ => rfl, fun w => ?_, fun _ => rfl, rfl, .inl rfl⟩
  unfold setRefCount
  by_cases same : w = v
  · subst same
    simp
  · have distinct : v.val ≠ w.val := fun e => same (Fin.ext e.symm)
    simp [Vector.getElem_set_ne _ _ distinct]

theorem blockAfter_setup (e : TallyEvent) (slot : Option SlotNo) (freeze : Nat) (c : Counters) (i : Fin 8) :
    (blockAfter e slot freeze c).all[i].setup = c.all[i].setup := by
  unfold blockAfter countersAfter
  dsimp only
  split
  · rfl
  · simp only [Fin.getElem_fin, Vector.getElem_ofFn]
    split
    · rw [starting_setup, taking_setup]
    · rw [taking_setup]

theorem foot_tally (e : TallyEvent) (slot : Option SlotNo) (s : State) : Foot s (tally e slot s) := by
  have moved := tallies_tally e slot s
  have counters := tally_counters e slot s
  generalize tally e slot s = u at *
  unfold Tallies at moved
  refine ⟨?_, fun n => ?_, fun v => ?_, fun i => ?_, ?_, .inl ?_⟩
  · rw [moved]
  · rw [moved]
    rfl
  · rw [moved]
  · rw [counters, blockAfter_setup]
  · rw [moved]
  · rw [moved]

theorem foot_updateStation (n : SlotNo) {f : Station → Station} (same : ∀ st, (f st).configured = st.configured) (s : State) :
    Foot s (updateStation n f s) := by
  have told := stationTold_updateStation n f s
  have table (m : SlotNo) : (stationAt (updateStation n f s) m).map Station.configured = (stationAt s m).map Station.configured := by
    by_cases own : m = n
    · subst own
      cases entry : stationAt s m with
      | some st => rw [stationAt_updateStation entry, Option.map_some, Option.map_some, same]
      | none =>
        unfold updateStation
        rw [entry]
        exact congrArg _ entry
    · unfold updateStation
      split
      · rw [stationAt_stationChanged_other own]
      · rfl
  have flow : LineFlow s.line.state (updateStation n f s).line.state := by
    unfold updateStation
    split
    next st _ =>
      rcases stationChanged_cases n st (f st) s with ⟨e, -⟩ | e | e
      · rw [e]
        exact .inl rfl
      · rw [e]
        exact .inl (by rw [announces_announceStation]; rfl)
      · rw [e]
        exact .inr (.inl (faultTaken_handFault _ _).1)
    · exact .inl rfl
  generalize updateStation n f s = u at *
  unfold StationTold at told
  refine ⟨?_, table, fun v => ?_, fun i => ?_, ?_, flow⟩ <;> rw [told]

theorem foot_afterNoReport (n : SlotNo) (s : State) : Foot s (updateStation n Station.afterNoReport s) := by
  refine foot_updateStation n (fun st => ?_) s
  unfold Station.configured Station.afterNoReport
  split <;> rfl

/-- A fold of operations that leave the foot alone does. -/
theorem foot_foldl {α : Type} {f : State → α → State} (step : ∀ s a, Foot s (f s a)) (l : List α) (s : State) : Foot s (l.foldl f s) := by
  induction l generalizing s with
  | nil => exact .refl s
  | cons a l ih => exact (step s a).trans (ih _)

/-! ### The bundle builder (Chapter 9) -/

theorem foot_closeBundle (reason : ClosureReason) (s : State) : Foot s (closeBundle reason s) := by
  cases bundle : s.bundles.bundle with
  | none =>
    rw [closeBundle_none bundle]
    exact .refl s
  | some b =>
    rw [closeBundle_of bundle]
    refine Foot.trans ?_ (foot_tally _ _ _)
    exact (foot_queueReport _ s).trans (foot_beside rfl)

theorem foot_closeTray (reason : ClosureReason) (s : State) : Foot s (closeTray reason s) := by
  cases tray : s.bundles.tray with
  | none =>
    rw [closeTray_none tray]
    exact .refl s
  | some y =>
    rw [closeTray_of tray]
    exact (foot_queueReport _ s).trans (foot_beside rfl)

theorem foot_breakBundle (r : Record) (w : Nat) (s : State) : Foot s (breakBundle r w s) := by
  rcases breakBundle_cases r w s with ⟨reason, e⟩ | ⟨-, e⟩
  · exact e ▸ foot_closeBundle reason s
  · rw [e]
    exact .refl s

theorem foot_decideBreak (r : Record) (s : State) : Foot s (decideBreak r s).2 := by
  unfold decideBreak
  dsimp only
  split
  · refine Foot.trans ?_ (foot_beside (s := openTray _ _) rfl)
    refine Foot.trans ?_ (foot_beside (s := closeTray _ _) rfl)
    exact (foot_breakBundle r _ s).trans (foot_closeTray _ _)
  · split
    · exact (foot_breakBundle r _ s).trans (foot_beside rfl)
    · exact .refl s

theorem foot_finishRecord (p : Nat) (r : Record) (report : ItemReport) (s : State) : Foot s (finishRecord p r report s) :=
  ((foot_modifyCell p withoutRecord_tag s).trans (foot_setRefCount _ _ _)).trans (foot_queueReport _ _)

theorem foot_stackOutcome (n : SlotNo) (p : Nat) (c : Cell) (r : Record) (e : StackerEnd) (s : State) :
    Foot s (stackOutcome n p c r e s) := by
  have counts (b : Bool) : Foot s (countItem r b s) := foot_beside rfl
  cases e with
  | stacked => exact ((counts false).trans (foot_finishRecord p r _ _)).trans (foot_tally _ _ _)
  | fault => exact ((foot_finishRecord p r _ s).trans (foot_handFault _ _)).trans (foot_tally _ _ _)
  | silent => exact (((counts true).trans (foot_finishRecord p r _ _)).trans (foot_handFault _ _)).trans (foot_tally _ _ _)

theorem foot_carryOutClose (s : State) : Foot s (carryOutClose s) := by
  have ends : Foot s { s with bundles := { s.bundles with inFlight := none, closePending := .none } } := foot_beside rfl
  unfold carryOutClose
  dsimp only
  split
  · exact ends
  · exact ends.trans (foot_closeBundle _ _)
  · exact (ends.trans (foot_closeBundle _ _)).trans (foot_closeTray _ _)

theorem foot_stackerEnded (n : SlotNo) (p : Nat) (e : StackerEnd) (s : State) : Foot s (stackerEnded n p e s) := by
  unfold stackerEnded
  split
  · exact .refl s
  · split
    · exact .refl s
    · split
      · cases e with
        | stacked => exact .refl s
        | fault => exact foot_handFault _ s
        | silent => exact foot_handFault _ s
      · split
        · exact (foot_stackOutcome n p _ _ e s).trans (foot_carryOutClose _)
        · exact .refl s

theorem foot_drainClose (s : State) : Foot s (drainClose s) :=
  ((foot_closeBundle .drain s).trans (foot_closeTray .drain _)).trans (foot_beside rfl)

/-! ### The gate (Chapter 8) -/

theorem foot_divertCondemned (n : SlotNo) (p : Nat) (c : Cell) (s : State) : Foot s (divertCondemned n p c s) := by
  have left : Foot s (modifyCell p (fun c => { c.withoutRecord with content := .diverted }) s) :=
    foot_modifyCell p (f := fun c => { c.withoutRecord with content := .diverted }) withoutRecord_tag s
  unfold divertCondemned
  dsimp only
  split
  · exact left
  · split
    · refine (Foot.trans ?_ (foot_tally _ _ _)).trans (foot_tally _ _ _)
      exact (left.trans (foot_setQueue _ _)).trans (foot_queueReport _ _)
    · refine (Foot.trans ?_ (foot_tally _ _ _)).trans (foot_tally _ _ _)
      exact (left.trans (foot_setRefCount _ _ _)).trans (foot_queueReport _ _)

theorem foot_setEscaped (p : Nat) (s : State) : Foot s (setEscaped p s) :=
  foot_modifyCell p (f := fun c => { c with content := .passed, escaped := true }) (fun _ => rfl) s

theorem foot_setContent (p : Nat) (content : Content) (s : State) : Foot s (setContent p content s) :=
  foot_modifyCell p (f := fun c => { c with content := content }) (fun _ => rfl) s

theorem foot_escapes (n : SlotNo) (k : FaultCause) (s : State) : Foot s (escapes n k s) := (foot_handFault k s).trans (foot_tally _ _ _)

theorem foot_gateEnded (n : SlotNo) (p : Nat) (o : GateOutcome) (s : State) : Foot s (gateEnded n p o s) := by
  unfold gateEnded
  split
  · exact .refl s
  · split
    · split
      · exact foot_divertCondemned n p _ s
      · unfold escapeCondemned
        dsimp only
        refine Foot.trans ?_ (foot_escapes n _ _)
        split
        · exact (foot_setEscaped p s).trans (foot_finishRecord p _ _ _)
        · exact foot_setEscaped p s
    · unfold boundOutcome
      split
      · exact (foot_condemnAt p _ s).trans (foot_divertCondemned n p _ _)
      · exact foot_setContent p _ s
    · split
      · exact foot_setContent p _ s
      · exact (foot_setEscaped p s).trans (foot_escapes n _ _)
    · unfold proofOutcome
      split
      · exact (foot_setContent p _ s).trans (foot_raise _ _)
      · exact ((foot_setEscaped p s).trans (foot_raise _ _)).trans (foot_escapes n _ _)
    all_goals exact .refl s

/-! ### Binding (Chapter 4) -/

theorem foot_lostOfferEnded (t : Tag) (s : State) : Foot s (lostOfferEnded t s) := by
  refine foot_beside ?_
  unfold Beside
  rw [lostOfferEnded_eq]

theorem foot_lostListAdvance (s : State) : Foot s (lostListAdvance s) := by
  refine foot_beside ?_
  unfold Beside lostListAdvance
  dsimp only
  rw [announces_stepAutoExit]

theorem foot_withdrawOffer (p : Nat) (c : Cell) (content : Content) (s : State) : Foot s (withdrawOffer p c content s) := by
  have cell : Foot s (modifyCell p (Cell.offerWithdrawn content) s) :=
    foot_modifyCell p (f := Cell.offerWithdrawn content) withoutRecord_tag s
  unfold withdrawOffer
  dsimp only
  refine Foot.trans ?_ (foot_lostOfferEnded _ _)
  split
  · exact cell.trans (foot_setQueue _ _)
  · exact cell

theorem foot_freshFell (before : Nat) (s : State) : Foot s (freshFell before s) := foot_announces (announces_freshFell before s)

theorem foot_mainFeedEnded (n : SlotNo) (p : Nat) (e : FeedEnd) (s : State) : Foot s (mainFeedEnded n p e s) := by
  have fed (double : Bool) (demands : List Demand) : Foot s (modifyCell p (Cell.fedBy n double demands) s) :=
    foot_modifyCell p (fedBy_tag n double demands) s
  have binds (r : Record) (double : Bool) : Foot s (bindRecord n p r double s) := by
    unfold bindRecord
    dsimp only
    have told : Foot s (tally .binds (some n) (freshFell (freshCount s) { modifyCell p (Cell.fedBy n double (demandsOf s r.version)) s with
        binding := { s.binding with lastKey := some r.bundleKey, lastVersion := some r.version } })) :=
      (((fed double (demandsOf s r.version)).trans (foot_binding _ _)).trans (foot_freshFell _ _)).trans (foot_tally _ _ _)
    split
    · exact told.trans (foot_tally _ _ _)
    · exact told
  have proves (double : Bool) : Foot s (proofFed n p double s) := by
    have told : Foot s { modifyCell p (Cell.fedBy n double []) s with binding := { s.binding with proofPending := false } } :=
      (fed double []).trans (foot_beside rfl)
    unfold proofFed
    dsimp only
    split
    · exact told.trans (foot_tally _ _ _)
    · exact told
  unfold mainFeedEnded
  split
  · exact .refl s
  · split
    · exact .refl s
    · cases e with
      | fed | double =>
        dsimp only
        split
        · exact binds _ _
        · exact proves _
      | miss => exact (foot_withdrawOffer p _ _ s).trans (foot_tally _ _ _)
      | closed =>
        dsimp only
        split
        · exact (foot_withdrawOffer p _ _ s).trans (foot_beside rfl)
        · exact foot_withdrawOffer p _ _ s

theorem foot_strandHead (s : State) (r : Record) : Foot s (strandHead s r) :=
  ((((foot_setQueue _ s).trans (foot_setRefCount _ _ _)).trans (foot_queueReport _ _)).trans (foot_tally _ _ _)).trans (foot_tally _ _ _)

theorem foot_meetStopPoint (t : StopTarget) (head : Record) (s : State) : Foot s (meetStopPoint t head s) := by
  have met : Foot s (addCause .stopPoint { s with binding := { s.binding with stopPoint := .met t head.sequence } }) :=
    Foot.trans (t := { s with binding := { s.binding with stopPoint := .met t head.sequence } }) (foot_beside rfl)
      (foot_announces (announces_addCause _ _))
  unfold meetStopPoint
  dsimp only
  refine (Foot.trans ?_ (foot_raise _ _)).trans (foot_tally _ _ _)
  split
  next running => exact met.trans (foot_changeLine (.inr (.inr (.inl ⟨running, .inl rfl⟩))))
  · exact met

theorem foot_decideNewCell (s : State) : Foot s (decideNewCell s) := by
  unfold decideNewCell
  split
  · exact foot_tally _ _ s
  · split
    · exact foot_modifyCell 0 (f := fun c => { c with content := .offered, proofOffer := true }) (fun _ => rfl) s
    · refine Foot.trans (t := strandHeads s) (foot_foldl foot_strandHead _ s) ?_
      unfold decideHead
      split
      · exact foot_tally _ _ _
      · split
        · exact foot_meetStopPoint _ _ _
        · split
          · refine (Foot.trans ?_ (foot_tally _ _ _)).trans (foot_tally _ _ _)
            exact foot_beside rfl
          next head _ _ _ _ _ =>
            refine Foot.trans ?_ (foot_tally _ _ _)
            refine ((foot_setQueue (strandHeads s).intake.queue.tail _).trans ?_).trans (foot_binding _ _)
            exact foot_modifyCell 0 (f := fun c => { c with content := .offered, record := some head }) (fun _ => rfl) _

/-- The windows of the counters move, and no set-up does (R187). -/
theorem moveWindow_setup (c : Counter) : c.moveWindow.setup = c.setup := by
  unfold Counter.moveWindow
  split
  · split
    · split <;> rfl
    · rfl
  · rfl

/-! ### Closures and commands (R49 to R58) -/

theorem foot_closeExchange (p : Nat) (tag : Tag) (n : SlotNo) (s : State) : Foot s (closeExchange p tag n s) := by
  have ended : Foot s (modifyCell p (Cell.endExchange n) (withdraw n tag s)) :=
    Foot.trans (t := withdraw n tag s) (foot_beside rfl) (foot_modifyCell p (f := Cell.endExchange n) (fun _ => rfl) _)
  have effect (k : Closure) (r : Role) (u : State) : Foot u (closureEffect k n r p u) := by
    cases r with
    | mainFeeder => exact foot_mainFeedEnded n p .closed u
    | printer =>
      refine Foot.trans ?_ (foot_condemnAt p _ _)
      exact Foot.trans (t := returnCredit u) (foot_beside rfl) (foot_modifyCell p (f := fun c => { c with print := .failed }) (fun _ => rfl) _)
    | gate => exact foot_gateEnded n p _ u
    | stacker => exact foot_stackerEnded n p .silent u
    | drive => exact .refl u
    | _ => exact foot_condemnAt p _ u
  have handed (k : Closure) (u : State) : Foot u (handClosure k n u) := by
    cases k with
    | noReport => exact (foot_afterNoReport n u).trans (foot_tally _ _ _)
    | busLate => exact foot_tally _ _ u
  unfold closeExchange
  dsimp only
  split
  · exact (ended.trans (effect _ _ _)).trans (handed _ _)
  · exact ended

theorem foot_closeExchanges (s : State) : Foot s (closeExchanges s) := by
  refine foot_foldl (fun u p => ?_) _ s
  unfold closeCell
  split
  next c _ => exact foot_foldl (fun v (e : Exchange) => foot_closeExchange p c.tag e.slot v) _ u
  · exact .refl u

theorem foot_openExchange (n : SlotNo) (p closing : Nat) (tag : Tag) (o : CellOrder) (s : State) : Foot s (openExchange n p closing tag o s) :=
  (foot_modifyCell p (f := fun c => { c with exchanges := c.exchanges ++ [{ slot := n, closing := closing }] }) (fun _ => rfl) s).trans
    (foot_beside rfl)

theorem foot_setPrint (p : Nat) (v : PrintState) (s : State) : Foot s (setPrint p v s) :=
  foot_modifyCell p (f := fun c => { c with print := v }) (fun _ => rfl) s

theorem foot_derivePrinter (n : SlotNo) (p : Nat) (c : Cell) (s : State) : Foot s (derivePrinter n p c s) := by
  unfold derivePrinter
  split
  · exact foot_condemnAt p _ s
  · split
    · exact ((foot_setPrint p .sent s).trans (foot_openExchange n p _ c.tag _ _)).trans (foot_beside rfl)
    · exact (foot_setPrint p .refused s).trans (foot_condemnAt p _ _)

theorem foot_deriveStacker (n : SlotNo) (p : Nat) (c : Cell) (s : State) : Foot s (deriveStacker n p c s) := by
  unfold deriveStacker
  split
  · exact .refl s
  · split
    · exact foot_openExchange _ _ _ _ _ s
    · split
      · exact ((foot_decideBreak _ s).trans (foot_openExchange _ _ _ _ _ _)).trans (foot_beside rfl)
      · exact .refl s

/-- A station's command opens an exchange, condemns the cell, or is none; the printer's and the stacker's do
more (R54 to R57). -/
theorem deriveFor_cases (n : SlotNo) (r : Role) (p : Nat) (c : Cell) (s : State) :
    deriveFor n r p c s = s ∨ (∃ k, deriveFor n r p c s = condemnAt p k s) ∨ (∃ o, deriveFor n r p c s = openExchange n p p c.tag o s)
      ∨ (r = .printer ∧ deriveFor n r p c s = derivePrinter n p c s) ∨ (r = .stacker ∧ deriveFor n r p c s = deriveStacker n p c s) := by
  have stays : ∀ u, u = s → u = s ∨ (∃ k, u = condemnAt p k s) ∨ (∃ o, u = openExchange n p p c.tag o s) := fun _ h => .inl h
  have refuses : ∀ u k, u = condemnAt p k s → u = s ∨ (∃ k, u = condemnAt p k s) ∨ (∃ o, u = openExchange n p p c.tag o s) :=
    fun _ k h => .inr (.inl ⟨k, h⟩)
  have opens : ∀ u o, u = openExchange n p p c.tag o s → u = s ∨ (∃ k, u = condemnAt p k s) ∨ (∃ o, u = openExchange n p p c.tag o s) :=
    fun _ o h => .inr (.inr ⟨o, h⟩)
  have widen {u : State} (h : u = s ∨ (∃ k, u = condemnAt p k s) ∨ (∃ o, u = openExchange n p p c.tag o s)) (x : Prop) :
      u = s ∨ (∃ k, u = condemnAt p k s) ∨ (∃ o, u = openExchange n p p c.tag o s) ∨ x := by
    rcases h with h | h | h
    · exact .inl h
    · exact .inr (.inl h)
    · exact .inr (.inr (.inl h))
  cases r with
  | mainFeeder =>
    refine widen ?_ _
    dsimp only [deriveFor]
    split
    · exact opens _ _ rfl
    · exact stays _ rfl
  | insertFeeder =>
    refine widen ?_ _
    dsimp only [deriveFor]
    split
    · split
      · exact opens _ _ rfl
      · exact refuses _ _ rfl
    · exact stays _ rfl
  | printer =>
    dsimp only [deriveFor]
    split
    · exact .inr (.inr (.inr (.inl ⟨rfl, rfl⟩)))
    · exact .inl rfl
  | carrierFeeder =>
    refine widen ?_ _
    dsimp only [deriveFor, deriveCarrier]
    split
    · split
      · exact refuses _ _ rfl
      · split
        · exact opens _ _ rfl
        · exact refuses _ _ rfl
    · exact stays _ rfl
  | reader =>
    refine widen ?_ _
    dsimp only [deriveFor, deriveReader]
    split
    · split
      · exact refuses _ _ rfl
      · split
        · exact opens _ _ rfl
        · exact stays _ rfl
    · exact stays _ rfl
  | sealer =>
    refine widen ?_ _
    dsimp only [deriveFor, deriveSealer]
    split
    · split
      · exact opens _ _ rfl
      · exact refuses _ _ rfl
    iterate 3
      · split
        · exact opens _ _ rfl
        · exact stays _ rfl
    all_goals exact stays _ rfl
  | gate =>
    refine widen ?_ _
    dsimp only [deriveFor, deriveGate]
    split
    iterate 4
      · exact opens _ _ rfl
    all_goals exact stays _ rfl
  | stacker => exact .inr (.inr (.inr (.inr ⟨rfl, rfl⟩)))
  | drive => exact .inl rfl

theorem foot_deriveFor (n : SlotNo) (r : Role) (p : Nat) (c : Cell) (s : State) : Foot s (deriveFor n r p c s) := by
  rcases deriveFor_cases n r p c s with e | ⟨k, e⟩ | ⟨o, e⟩ | ⟨-, e⟩ | ⟨-, e⟩
  · rw [e]
    exact .refl s
  · exact e ▸ foot_condemnAt p k s
  · exact e ▸ foot_openExchange n p p c.tag o s
  · exact e ▸ foot_derivePrinter n p c s
  · exact e ▸ foot_deriveStacker n p c s

theorem foot_deriveAt (jog : Bool) (s : State) (p : Nat) : Foot s (deriveAt jog s p) := by
  unfold deriveAt
  split
  · split
    · split
      · exact foot_deriveFor _ _ p _ s
      · exact .refl s
    · exact .refl s
  · exact .refl s

theorem foot_deriveCommands (jog : Bool) (s : State) : Foot s (deriveCommands jog s) := foot_foldl (foot_deriveAt jog) _ s

theorem foot_askBinding (jog : Bool) (s : State) : Foot s (askBinding jog s) := by
  unfold askBinding
  split
  · exact foot_decideNewCell s
  · exact .refl s

theorem foot_tallyAdvance (s : State) : Foot s (tallyAdvance s) := by
  unfold tallyAdvance moveWindows
  refine (foot_tally .pitchAdvances none s).trans ?_
  split
  · exact .refl _
  · refine ⟨rfl, fun _ => rfl, fun _ => rfl, fun i => ?_, rfl, .inl rfl⟩
    simp only [Fin.getElem_fin, Vector.getElem_ofFn]
    split
    · exact moveWindow_setup _
    · rfl

theorem foot_condemnMoved (s : State) : Foot s (condemnMoved s) := by
  refine foot_cells (jobs := s.track.printJobs) ?_
  rw [List.map_map]
  exact List.map_congr_left fun c _ => (cellKept_takeJog c).1

/-! ### The advance (R48) -/

/-- The lost list and the commands of an advance, once the cells have moved. -/
theorem foot_trackAdvance (s : State) : Foot (shift (closeExchanges s)) (trackAdvance s) := by
  unfold trackAdvance
  dsimp only
  refine ((Foot.trans ?_ (foot_askBinding _ _)).trans (foot_deriveCommands _ _)).trans (foot_tallyAdvance _)
  refine Foot.trans ?_ (foot_lostListAdvance _)
  split
  · exact foot_condemnMoved _
  · exact .refl _

/-- The foot of a change that may move the phase monitor, too. -/
def PulseFoot (s u : State) : Prop := Foot { s with phase := u.phase } u

theorem Foot.phase {s u : State} (h : Foot s u) : u.phase = s.phase := by rw [h.blocks]

theorem Foot.pulse {s u : State} (h : Foot s u) : PulseFoot s u := by
  unfold PulseFoot
  rw [h.phase]
  exact h

theorem Foot.withPhase {s u : State} (h : Foot s u) (m : PhaseMonitor) : Foot { s with phase := m } { u with phase := m } := by
  refine ⟨?_, h.stations, h.versions, h.setups, h.tags, h.flow⟩
  conv_lhs => rw [h.blocks]

theorem PulseFoot.trans {s t u : State} (h : PulseFoot s t) (k : PulseFoot t u) : PulseFoot s u := (h.withPhase u.phase).trans k

theorem pulseFoot_phase (m : PhaseMonitor) (s : State) : PulseFoot s { s with phase := m } := .refl _

theorem pulseFoot_changePhase (m : PhaseMonitor) (struck : Option (Nat × Nat)) (s : State) : PulseFoot s (changePhase m struck s) := by
  have caused : PulseFoot s (putCause .phase m.state.suppresses { s with phase := m }) :=
    (pulseFoot_phase m s).trans (foot_announces (announces_putCause _ _ _)).pulse
  unfold changePhase
  dsimp only
  split
  · exact caused
  · exact caused.trans (foot_raise _ _).pulse

theorem foot_takeLosses (k : Condemn) (s : State) :
    Foot s { s with track := { s.track with cells := s.track.cells.map (Cell.takeLoss k) } } := by
  refine foot_cells (jobs := s.track.printJobs) ?_
  rw [List.map_map]
  exact List.map_congr_left fun c _ => (cellKept_takeLoss _ c).1

theorem pulseFoot_enterLost (cause : LossCause) (s : State) : PulseFoot s (enterLost cause s) :=
  (foot_takeLosses { kind := .phaseLost, station := none } s).pulse.trans (pulseFoot_changePhase _ _ _)

theorem pulseFoot_takeError (cause : LossCause) (s : State) : PulseFoot s (takeError cause s).1 := by
  have entered := pulseFoot_phase { s.phase with window := addError s.phase.window } s
  unfold takeError
  dsimp only
  split
  · exact entered.trans (pulseFoot_enterLost cause _)
  · exact entered

theorem pulseFoot_takePulse (s : State) : PulseFoot s (takePulse s).1 := by
  unfold takePulse
  dsimp only
  split
  · exact (Foot.refl s).pulse
  · split
    · exact pulseFoot_phase _ s
    · split
      · exact (pulseFoot_phase s.phase.counted s).trans (pulseFoot_takeError _ _)
      · exact pulseFoot_phase _ s

theorem foot_handPhaseFault (lost : Bool) (s : State) : Foot s (handPhaseFault lost s) := by
  cases lost
  · exact .refl s
  · exact foot_handFault .phase s

theorem pulseFoot_phaseThenFault (s : State) : PulseFoot s (phaseThenFault s) :=
  (pulseFoot_takePulse s).trans (foot_handPhaseFault _ _).pulse

theorem foot_drainTest (draining : Bool) (s : State) : Foot s (drainTest draining s) := by
  have stops {u : State} (state : u.line.state = .draining) : Foot u (enterStopping u) := by
    have ordered : Beside u (issueDrive .stop u) := by
      unfold Beside
      rw [issueDrive_eq]
    refine (foot_beside ordered).trans (foot_changeLine (.inr (.inr (.inr ⟨?_, rfl⟩))))
    rw [issueDrive_eq]
    exact state
  unfold drainTest
  split
  next due =>
    split
    · refine (foot_drainClose s).trans (stops ?_)
      exact ((closeTray_line_state _ _).trans (closeBundle_line_state _ s)).trans due.2.1
    · exact stops due.2.1
  · exact .refl s

/-- The track's part of an advance leaves the phase monitor alone. -/
theorem trackAdvance_phase (s : State) : (trackAdvance s).phase = s.phase :=
  (foot_trackAdvance s).phase.trans (show (shift (closeExchanges s)).phase = s.phase from (foot_closeExchanges s).phase)

end Sys2Proof.Machine
end

section
/-! The end of a drain (O35) and the order of an advance (O51). -/

namespace Sys2Proof.Machine

/-! ### A drain close (R164) -/

theorem closeBundle_any (reason : ClosureReason) (s : State) : ∃ key,
    Tallies (builtState { s.bundles with bundle := none, bundleSplitKey := key } (s.bundles.bundle.toList.map (bundleReport reason s)) s)
        (closeBundle reason s)
      ∧ (closeBundle reason s).counters = if s.bundles.bundle.isSome then (tally .bundlesClosed none s).counters else s.counters := by
  cases bundle : s.bundles.bundle with
  | none =>
    refine ⟨s.bundles.bundleSplitKey, ?_, by rw [closeBundle_none bundle]; rfl⟩
    rw [closeBundle_none bundle]
    unfold Tallies builtState
    simp only [Option.toList_none, List.map_nil, List.append_nil]
    rw [← bundle]
  | some b => exact ⟨_, closeBundle_open bundle reason⟩

theorem closeTray_any (reason : ClosureReason) (s : State) : ∃ key,
    Announces (builtState { s.bundles with tray := none, traySplitKey := key } (s.bundles.tray.toList.map (trayReport reason)) s)
        (closeTray reason s) := by
  cases tray : s.bundles.tray with
  | none =>
    refine ⟨s.bundles.traySplitKey, ?_⟩
    rw [closeTray_none tray]
    unfold Announces builtState
    simp only [Option.toList_none, List.map_nil, List.append_nil]
    rw [← tray]
  | some y => exact ⟨_, closeTray_open tray reason⟩

/-- The builder after a drain close. -/
def BundleBuilder.drained (m : BundleBuilder) : BundleBuilder := { m with
  bundle := none
  tray := none
  bundleSplitKey := none
  traySplitKey := none }

theorem drainClose_moved (s : State) :
    Tallies (builtState s.bundles.drained
        (s.bundles.bundle.toList.map (bundleReport .drain s) ++ s.bundles.tray.toList.map (trayReport .drain)) s) (drainClose s)
      ∧ (drainClose s).counters = if s.bundles.bundle.isSome then (tally .bundlesClosed none s).counters else s.counters := by
  obtain ⟨key, bundle, counters⟩ := closeBundle_any .drain s
  have still := closeBundle_tray .drain s
  obtain ⟨key', tray⟩ := closeTray_any .drain (closeBundle .drain s)
  unfold drainClose
  dsimp only
  rw [still] at tray
  refine ⟨?_, ?_⟩
  · unfold Tallies builtState BundleBuilder.drained at *
    unfold Announces at tray
    rw [tray, bundle]
    simp only [List.append_assoc]
  · rw [← counters]
    exact tray.counters_eq

theorem closeBundle_has (reason : ClosureReason) (s : State) {c : FeedCause} (counter : ∀ i, c ≠ .counter i) (backlog : c ≠ .backlog) :
    (closeBundle reason s).line.feed.has c = s.line.feed.has c := by
  unfold closeBundle
  split
  · rfl
  next b _ =>
    rw [tally_has _ _ _ _ counter]
    exact (queueReport_has (bundleReport reason s b) s c).trans (if_neg fun h => backlog h.1)

theorem closeTray_has (reason : ClosureReason) (s : State) {c : FeedCause} (backlog : c ≠ .backlog) :
    (closeTray reason s).line.feed.has c = s.line.feed.has c := by
  unfold closeTray
  split
  · rfl
  next y _ => exact (queueReport_has (trayReport reason y) s c).trans (if_neg fun h => backlog h.1)

theorem drainClose_has (s : State) {c : FeedCause} (counter : ∀ i, c ≠ .counter i) (backlog : c ≠ .backlog) :
    (drainClose s).line.feed.has c = s.line.feed.has c :=
  (closeTray_has .drain _ backlog).trans (closeBundle_has .drain s counter backlog)

/-! ### The end of a drain (R175) -/

theorem holdsDrain_iff (cells : List Cell) :
    cells.any Cell.holdsDrain = false ↔ ∀ c ∈ cells, c.content = .empty ∨ c.content = .diverted := by
  simp only [List.any_eq_false, Cell.holdsDrain, Bool.not_eq_true, Bool.not_eq_false', Bool.or_eq_true, beq_iff_eq]

/-- The line when it stops (R175, R176). -/
def stoppingLine (stopTime : Nat) (l : Line) : Line := { l with
  state := .stopping
  drain := .none
  driveOrder := .stop false
  startTimer := .stopped
  stopTimer := .running (stopTime * 1000) }

theorem enterStopping_of {s : State} {n : SlotNo} (slot : slotWith s .drive = some n) :
    enterStopping s = changeLine (stoppingLine s.params.driveStopTime s.line)
      { s with bus := { s.bus with txQueue := putDriveCommand { slot := n, order := .stop } s.bus.txQueue } } := by
  unfold enterStopping
  dsimp only
  rw [issueDrive_of slot]
  rfl

theorem stoppingNotice {l : Line} (draining : l.state = .draining) (stopTime : Nat) (feed : FeedSet) :
    lineNotice ({ l with feed := feed } : Line).state (stoppingLine stopTime { l with feed := feed })
      = .line { state := .stopping, before := .draining, fault := l.fault, laterFaults := l.laterFaults, lastLater := l.lastLater, drain := .none, restarted := l.restarted } := by
  unfold lineNotice stoppingLine
  rw [draining]

/-- With the phase monitor off a pulse is nothing to it, in whatever order the blocks take it. -/
theorem takePitch_off {s : State} (off : s.phase.state = .off) (order : AdvanceOrder) :
    takePitch order s = drainTest (s.line.state == .draining) (trackAdvance s) := by
  have still {u : State} (stands : u.phase.state = .off) : takePulse u = (u, false) := if_pos stands
  have silent {u : State} (stands : u.phase.state = .off) : phaseThenFault u = u := by
    unfold phaseThenFault
    rw [still stands]
    rfl
  have tracked : (trackAdvance s).phase.state = .off := by rw [trackAdvance_phase, off]
  have drained : (drainTest (s.line.state == .draining) (trackAdvance s)).phase.state = .off := by
    rw [(foot_drainTest _ _).phase, tracked]
  cases order with
  | phaseThenTrack =>
    change trackThenDrain (phaseThenFault s) = _
    rw [silent off]
    rfl
  | phaseFaultAfterTrack =>
    unfold takePitch
    dsimp only
    rw [still off]
    rfl
  | trackThenPhase =>
    unfold takePitch
    dsimp only
    rw [silent tracked]
  | trackThenLine =>
    unfold takePitch trackThenDrain
    dsimp only
    rw [silent drained]

theorem slotWith_congr {s t : State} (table : t.stations = s.stations) (r : Role) : slotWith t r = slotWith s r := by
  unfold slotWith slotsWith hasRole stationAt
  rw [table]

/-- Settles O35: the drain close is a sequence of closures whose reports follow one another, and the line
then stops as it would without it. -/
theorem drainCompletes : Obligations.DrainCompletes := by
  refine ⟨fun s => ?_, fun order s off draining => ?_⟩
  · intro empty t
    refine ⟨fun stays => ?_, fun n draining done slot => ?_⟩
    · exact if_neg fun ⟨_, state, none'⟩ => stays ⟨state, (holdsDrain_iff _).mp none'⟩
    · have ends : t = enterStopping (if s.line.drain = .close then drainClose s else s) :=
        if_pos ⟨rfl, draining, (holdsDrain_iff _).mpr done⟩
      by_cases close : s.line.drain = .close
      · rw [if_pos close] at ends
        obtain ⟨moved, counters⟩ := drainClose_moved s
        have feed {c : FeedCause} := drainClose_has s (c := c)
        generalize drainClose s = d at *
        have table : d.stations = s.stations := by rw [moved]; rfl
        have slot' : slotWith d .drive = some n := (slotWith_congr table .drive).trans slot
        rw [enterStopping_of slot'] at ends
        have params : d.params = s.params := by rw [moved]; rfl
        have line : d.line = { s.line with feed := d.line.feed } := by rw [moved]; rfl
        unfold Tallies at moved
        rw [ends]
        refine ⟨?_, ?_, fun c counter backlog => feed counter backlog, fun other => absurd close other, fun _ => ⟨?_, counters, ?_⟩⟩
        · unfold changeLine
          rw [params, moved]
          rfl
        · rw [← stoppingNotice draining d.params.driveStopTime d.line.feed, ← line]
          exact noticed_changeLine _ _
        · rw [moved]
          rfl
        · rw [moved]
          exact (List.append_assoc _ _ _).symm
      · rw [if_neg close, enterStopping_of slot] at ends
        rw [ends]
        refine ⟨rfl, ?_, fun _ _ _ => rfl, fun _ => ⟨rfl, rfl, rfl, rfl⟩, fun closes => absurd closes close⟩
        rw [← stoppingNotice draining s.params.driveStopTime s.line.feed]
        exact noticed_changeLine _ _
  · change Host.Outcome.next (takePitch order (newMoment s)) = _
    rw [takePitch_off (s := newMoment s) off, show (newMoment s).line.state = .draining from draining]
    rfl

/-! ### The places of the stations -/

section
variable {s u : State}

theorem Foot.role_position (h : Foot s u) (n : SlotNo) :
    (stationAt u n).map (fun st => (st.role, st.position)) = (stationAt s n).map fun st => (st.role, st.position) := by
  have same := congrArg (Option.map fun x : Role × Nat × Option Nat × Bool × Nat => (x.1, x.2.2.1)) (h.stations n)
  rw [Option.map_map, Option.map_map] at same
  exact same

theorem Foot.positionOf (h : Foot s u) (n : SlotNo) : positionOf u n = positionOf s n := by
  have same := congrArg (fun x => x.bind (Prod.snd : Role × Option Nat → Option Nat)) (h.role_position n)
  unfold Machine.positionOf
  simpa only [Option.bind_map, Function.comp_def] using same

theorem Foot.hasRole (h : Foot s u) (r : Role) (n : SlotNo) : hasRole u r n = hasRole s r n := by
  have same := congrArg (fun x : Option (Role × Option Nat) => x.any (·.1 == r)) (h.role_position n)
  unfold Machine.hasRole
  simpa only [Option.any_map, Function.comp_def] using same

theorem Foot.slotsWith (h : Foot s u) (r : Role) : slotsWith u r = slotsWith s r := by
  unfold Machine.slotsWith
  exact List.filter_congr fun n _ => h.hasRole r n

theorem Foot.positionWith (h : Foot s u) (r : Role) : positionWith u r = positionWith s r := by
  unfold Machine.positionWith slotWith
  rw [h.slotsWith]
  exact congrArg _ (funext h.positionOf)

theorem Foot.stackerPosition (h : Foot s u) : stackerPosition u = stackerPosition s := by
  unfold Machine.stackerPosition
  rw [h.positionWith]

theorem Foot.slotAtPosition (h : Foot s u) (p : Nat) : slotAtPosition u p = slotAtPosition s p := by
  unfold Machine.slotAtPosition
  simp only [h.positionOf]

end

/-! ### What a cell's content can become beside the shift and the closures -/

/-- The content has stayed, or a BOUND cell is condemned. -/
def Softer (c d : Cell) : Prop := d.content = c.content ∨ (c.content = .bound ∧ d.content = .condemned)

theorem Softer.trans {c d e : Cell} (h : Softer c d) (k : Softer d e) : Softer c e := by
  rcases h with same | ⟨bound, condemned⟩
  · rcases k with same' | ⟨bound, condemned⟩
    · exact .inl (same'.trans same)
    · exact .inr ⟨same ▸ bound, condemned⟩
  · rcases k with same' | ⟨bound', -⟩
    · exact .inr ⟨bound, same'.trans condemned⟩
    · exact absurd (condemned.symm.trans bound') (by decide)

/-- Every cell's content has stayed, or was BOUND and is condemned. -/
def Softens (s u : State) : Prop := List.Forall₂ Softer s.track.cells u.track.cells

theorem Softens.of_same {s u : State} (cells : u.track.cells = s.track.cells) : Softens s u := by
  unfold Softens
  rw [cells]
  exact List.forall₂_same.mpr fun _ _ => .inl rfl

theorem Softens.refl (s : State) : Softens s s := .of_same rfl

theorem Softens.trans {s t u : State} (h : Softens s t) (k : Softens t u) : Softens s u := by
  unfold Softens at *
  refine List.forall₂_iff_get.mpr ⟨h.length_eq.trans k.length_eq, fun i hi hu => ?_⟩
  exact Softer.trans (h.get hi (h.length_eq ▸ hi)) (k.get (h.length_eq ▸ hi) hu)

theorem softens_modifyCell {f : Cell → Cell} (softer : ∀ c, Softer c (f c)) (p : Nat) (s : State) : Softens s (modifyCell p f s) := by
  refine List.forall₂_iff_get.mpr ⟨(List.length_modify ..).symm, fun i hi hu => ?_⟩
  simp only [modifyCell, List.get_eq_getElem, List.getElem_modify]
  split
  · exact softer _
  · exact .inl rfl

theorem softer_condemn (k : Condemn) (c : Cell) : Softer c (c.condemn k) := (cellKept_condemn k c).2.2.2.2.2

theorem softens_condemnAt (p : Nat) (k : Condemn) (s : State) : Softens s (condemnAt p k s) := softens_modifyCell (softer_condemn k) p s

theorem softens_openExchange (n : SlotNo) (p closing : Nat) (tag : Tag) (o : CellOrder) (s : State) :
    Softens s (openExchange n p closing tag o s) :=
  softens_modifyCell (f := fun c => { c with exchanges := c.exchanges ++ [{ slot := n, closing := closing }] }) (fun _ => .inl rfl) p s

theorem softens_setPrint (p : Nat) (v : PrintState) (s : State) : Softens s (setPrint p v s) :=
  softens_modifyCell (f := fun c => { c with print := v }) (fun _ => .inl rfl) p s

theorem closeBundle_track (reason : ClosureReason) (s : State) : (closeBundle reason s).track = s.track := by
  unfold closeBundle
  split
  · rfl
  · rw [tally_track]
    exact queueReport_track _ s

theorem closeTray_track (reason : ClosureReason) (s : State) : (closeTray reason s).track = s.track := by
  unfold closeTray
  split
  · rfl
  · exact queueReport_track _ s

theorem breakBundle_track (r : Record) (w : Nat) (s : State) : (breakBundle r w s).track = s.track := by
  rcases breakBundle_cases r w s with ⟨reason, e⟩ | ⟨-, e⟩
  · rw [e, closeBundle_track]
  · rw [e]

theorem decideBreak_track (r : Record) (s : State) : (decideBreak r s).2.track = s.track := by
  unfold decideBreak
  dsimp only
  split
  · exact (closeTray_track _ _).trans (breakBundle_track _ _ s)
  · split
    · exact breakBundle_track _ _ s
    · rfl

theorem softens_derivePrint (n : SlotNo) (p : Nat) (c : Cell) (s : State) : Softens s (derivePrint n p c s) := by
  have printed := (softens_setPrint p .sent s).trans (softens_openExchange n p (printClosing s p) c.tag
    (.print c.sequence ((c.record.map (·.lines)).getD []) (c.record.bind (·.keyline))) _)
  exact printed.trans (.of_same rfl)

theorem softens_deriveStack (n : SlotNo) (p : Nat) (c : Cell) (r : Record) (s : State) : Softens s (deriveStack n p c r s) := by
  have decided : Softens s (decideBreak r s).2 := .of_same (congrArg Track.cells (decideBreak_track r s))
  have opened := softens_openExchange n p p c.tag
    (.stack (decideBreak r s).1 (openSerials (decideBreak r s).2).1 (openSerials (decideBreak r s).2).2) (decideBreak r s).2
  exact (decided.trans opened).trans (.of_same rfl)

theorem softens_deriveFor (n : SlotNo) (r : Role) (p : Nat) (c : Cell) (s : State) : Softens s (deriveFor n r p c s) := by
  rcases deriveFor_cases n r p c s with e | ⟨k, e⟩ | ⟨o, e⟩ | ⟨-, e⟩ | ⟨-, e⟩
  · rw [e]
    exact .refl s
  · exact e ▸ softens_condemnAt p k s
  · exact e ▸ softens_openExchange n p p c.tag o s
  · rw [e]
    unfold derivePrinter
    split
    · exact softens_condemnAt p _ s
    · split
      · exact softens_derivePrint n p c s
      · exact (softens_setPrint p .refused s).trans (softens_condemnAt p _ _)
  · rw [e]
    unfold deriveStacker
    split
    · exact .refl s
    · split
      · exact softens_openExchange _ _ _ _ _ s
      · split
        · exact softens_deriveStack n p c _ s
        · exact .refl s

theorem softens_deriveAt (jog : Bool) (s : State) (p : Nat) : Softens s (deriveAt jog s p) := by
  unfold deriveAt
  split
  · split
    · split
      · exact softens_deriveFor _ _ p _ s
      · exact .refl s
    · exact .refl s
  · exact .refl s

theorem softens_deriveCommands (jog : Bool) (s : State) : Softens s (deriveCommands jog s) := by
  unfold deriveCommands
  generalize List.range s.track.cells.length = l
  induction l generalizing s with
  | nil => exact .refl s
  | cons p l ih => exact (softens_deriveAt jog s p).trans (ih _)

theorem softens_takePulse (s : State) : Softens s (takePulse s).1 := by
  have changed (m : PhaseMonitor) (struck : Option (Nat × Nat)) (u : State) : Softens u (changePhase m struck u) := by
    refine .of_same ?_
    unfold changePhase
    dsimp only
    split
    · exact congrArg Track.cells (putCause_track _ _ _)
    · exact congrArg Track.cells (putCause_track _ _ { u with phase := m })
  have takes (cause : LossCause) (u : State) : Softens u (takeError cause u).1 := by
    unfold takeError
    dsimp only
    split
    · refine Softens.trans ?_ (changed _ _ _)
      refine List.forall₂_map_right_iff.mpr (List.forall₂_same.mpr fun c _ => ?_)
      exact (cellKept_takeLoss _ c).2.2.2.2.2
    · exact .refl u
  unfold takePulse
  dsimp only
  split
  · exact .refl s
  · split
    · exact .refl s
    · split
      · exact takes _ { s with phase := s.phase.counted }
      · exact .refl s

theorem softens_handPhaseFault (lost : Bool) (s : State) : Softens s (handPhaseFault lost s) := by
  cases lost
  · exact .refl s
  · exact .of_same (congrArg Track.cells (handFault_track .phase s))

theorem softens_drainTest (draining : Bool) (s : State) : Softens s (drainTest draining s) := by
  have stops (u : State) : (enterStopping u).track = u.track := by
    unfold enterStopping
    dsimp only
    rw [changeLine_eq, issueDrive_eq]
  unfold drainTest
  split
  · split
    · refine .of_same (congrArg Track.cells ((stops _).trans ?_))
      exact (closeTray_track _ _).trans (closeBundle_track _ s)
    · exact .of_same (congrArg Track.cells (stops s))
  · exact .refl s

/-! ### The advance as a whole (R48) -/

/-- Whatever the order, some state before the track's part and after it is the advance's, but for the phase monitor. -/
theorem takePitch_parts (order : AdvanceOrder) (s : State) :
    ∃ v, PulseFoot s v ∧ PulseFoot (trackAdvance v) (takePitch order s) ∧ Softens (trackAdvance v) (takePitch order s) := by
  have softFault (u : State) : Softens u (phaseThenFault u) := (softens_takePulse u).trans (softens_handPhaseFault _ _)
  cases order with
  | phaseThenTrack => exact ⟨_, pulseFoot_phaseThenFault s, (foot_drainTest _ _).pulse, softens_drainTest _ _⟩
  | phaseFaultAfterTrack =>
    exact ⟨_, pulseFoot_takePulse s, ((foot_handPhaseFault _ _).trans (foot_drainTest _ _)).pulse,
      (softens_handPhaseFault _ _).trans (softens_drainTest _ _)⟩
  | trackThenPhase =>
    exact ⟨s, (Foot.refl s).pulse, (pulseFoot_phaseThenFault _).trans (foot_drainTest _ _).pulse, (softFault _).trans (softens_drainTest _ _)⟩
  | trackThenLine =>
    exact ⟨s, (Foot.refl s).pulse, (foot_drainTest _ _).pulse.trans (pulseFoot_phaseThenFault _), (softens_drainTest _ _).trans (softFault _)⟩

theorem PulseFoot.flow {s u : State} (h : PulseFoot s u) : LineFlow s.line.state u.line.state :=
  (show Foot _ _ from h).flow

theorem LineFlow.not_running {a b : LineState} (h : LineFlow a b) (still : a ≠ .running) : b ≠ .running := by
  rintro rfl
  rcases h with same | h | ⟨running, -⟩ | ⟨-, h⟩
  · exact still same.symm
  · cases h
  · exact still running
  · cases h

theorem LineFlow.halted {a b : LineState} (h : LineFlow a b) (halted : a.halted = true) : b.halted = true := by
  rcases h with rfl | rfl | ⟨rfl, -⟩ | ⟨rfl, -⟩
  · exact halted
  · rfl
  · cases halted
  · cases halted

/-- The state of an advance after the shift, with a jog's condemnations and the lost list's test (R53, R58). -/
def movedState (v : State) : State :=
  lostListAdvance (if v.line.state.halted then condemnMoved (shift (closeExchanges v)) else shift (closeExchanges v))

theorem trackAdvance_eq (v : State) : trackAdvance v
    = tallyAdvance (deriveCommands v.line.state.halted (askBinding v.line.state.halted (movedState v))) := rfl

theorem movedState_flow (v : State) : LineFlow v.line.state (movedState v).line.state := by
  have shifted : LineFlow v.line.state (shift (closeExchanges v)).line.state := (foot_closeExchanges v).flow
  unfold movedState
  refine shifted.trans (Foot.flow (Foot.trans ?_ (foot_lostListAdvance _)))
  split
  · exact foot_condemnMoved _
  · exact .refl _

theorem tallyAdvance_track (s : State) : (tallyAdvance s).track = s.track := by
  unfold tallyAdvance moveWindows
  split
  · exact tally_track _ _ s
  · exact tally_track _ _ s

theorem softens_afterBinding (jog : Bool) (s : State) : Softens s (tallyAdvance (deriveCommands jog s)) :=
  (softens_deriveCommands jog s).trans (.of_same (congrArg Track.cells (tallyAdvance_track _)))

theorem askBinding_still {s : State} (jog : Bool) (still : s.line.state ≠ .running) : askBinding jog s = s := by
  unfold askBinding
  rw [if_neg (by simp [still])]

/-- On a line that does not run the track's part leaves the cells of the shift, but for the condemned ones. -/
theorem trackAdvance_softens {v : State} (still : v.line.state ≠ .running) : Softens (movedState v) (trackAdvance v) := by
  rw [trackAdvance_eq, askBinding_still _ ((movedState_flow v).not_running still)]
  exact softens_afterBinding _ _

/-- The new cell stands at position 0 with a next tag (R52, R53). -/
theorem movedState_head (v : State) (c : Cell) (head : (movedState v).track.cells.head? = some c) : c.content = .empty := by
  unfold movedState at head
  rw [lostListAdvance_track] at head
  split at head
  · unfold condemnMoved shift at head
    simp only [List.map_cons, List.head?_cons, Option.some.injEq] at head
    rw [← head]
    rfl
  · unfold shift at head
    simp only [List.head?_cons, Option.some.injEq] at head
    rw [← head]
    rfl

theorem takeJog_not_bound (c : Cell) : c.takeJog.content ≠ .bound := by
  unfold Cell.takeJog
  split
  next bound =>
    rw [condemn_bound _ bound]
    simp
  next other => exact other

theorem movedState_jog {v : State} (halted : v.line.state.halted = true) : ∀ c ∈ (movedState v).track.cells, c.content ≠ .bound := by
  unfold movedState
  rw [lostListAdvance_track, if_pos halted]
  intro c member
  unfold condemnMoved at member
  obtain ⟨d, -, rfl⟩ := List.mem_map.mp member
  exact takeJog_not_bound d

theorem Softens.head {s u : State} (h : Softens s u) (empty : ∀ c, s.track.cells.head? = some c → c.content = .empty) (c : Cell)
    (head : u.track.cells.head? = some c) : c.content = .empty := by
  unfold Softens at h
  generalize s.track.cells = before, u.track.cells = after at *
  revert head empty
  cases h with
  | nil => simp
  | cons here _ =>
    intro empty head
    cases head
    have was := empty _ rfl
    rcases here with same | ⟨bound, -⟩
    · exact same.trans was
    · exact absurd (was.symm.trans bound) (by decide)

theorem Softens.not_bound {s u : State} (h : Softens s u) (free : ∀ c ∈ s.track.cells, c.content ≠ .bound) :
    ∀ c ∈ u.track.cells, c.content ≠ .bound := by
  intro c member
  obtain ⟨i, inside, rfl⟩ := List.mem_iff_getElem.mp member
  have inside' : i < s.track.cells.length := by rw [List.Forall₂.length_eq h]; exact inside
  have here : Softer s.track.cells[i] u.track.cells[i] := List.Forall₂.get h inside' inside
  rcases here with same | ⟨-, condemned⟩
  · rw [same]
    exact free _ (List.getElem_mem inside')
  · rw [condemned]
    decide

theorem trackAdvance_tags (v : State) :
    (trackAdvance v).track.nextTag = v.track.nextTag + 1
      ∧ (trackAdvance v).track.cells.map (·.tag) = v.track.nextTag :: (v.track.cells.take (stackerPosition v)).map (·.tag) := by
  have closes := foot_closeExchanges v
  have whole := foot_trackAdvance v
  have next : (closeExchanges v).track.nextTag = v.track.nextTag := by rw [closes.blocks]
  constructor
  · rw [whole.blocks]
    exact congrArg (· + 1) next
  · rw [whole.tags]
    unfold shift
    simp only [List.map_cons, List.map_take]
    rw [closes.tags, closes.stackerPosition, next]
    rfl

theorem PulseFoot.places {s u : State} (h : PulseFoot s u) :
    u.track.nextTag = s.track.nextTag ∧ u.track.cells.map (·.tag) = s.track.cells.map (·.tag) ∧ stackerPosition u = stackerPosition s := by
  have foot : Foot { s with phase := u.phase } u := h
  refine ⟨?_, foot.tags, foot.stackerPosition⟩
  rw [foot.blocks]

/-- An advance moves the cells' tags one position up (R52, R53). -/
theorem takePitch_tags (order : AdvanceOrder) (s : State) :
    (takePitch order s).track.nextTag = s.track.nextTag + 1
      ∧ (takePitch order s).track.cells.map (·.tag) = s.track.nextTag :: (s.track.cells.take (stackerPosition s)).map (·.tag) := by
  obtain ⟨v, before, after, -⟩ := takePitch_parts order s
  obtain ⟨next, tags⟩ := trackAdvance_tags v
  obtain ⟨nextBefore, tagsBefore, stacker⟩ := before.places
  obtain ⟨nextAfter, tagsAfter, -⟩ := after.places
  constructor
  · rw [nextAfter, next, nextBefore]
  · rw [tagsAfter, tags, nextBefore, stacker, List.map_take, tagsBefore, List.map_take]

/-- What an advance and a shift leave alone, the cells and the phase monitor aside. -/
structure HostKept (s u : State) : Prop where
  stations : ∀ n, (stationAt u n).map Station.configured = (stationAt s n).map Station.configured
  versions : ∀ v : Fin 32, u.versions[v].definition = s.versions[v].definition
  setups : ∀ i : Fin 8, u.counters.all[i].setup = s.counters.all[i].setup
  intake : u.intake = { s.intake with queue := u.intake.queue }
  bus : u.bus = { s.bus with txQueue := u.bus.txQueue }
  link : u.link = { s.link with reports := u.link.reports, notices := u.link.notices }
  inputs : u.params = s.params ∧ u.estop = s.estop ∧ u.home = s.home ∧ u.freeIndex = s.freeIndex

theorem HostKept.trans {s t u : State} (h : HostKept s t) (k : HostKept t u) : HostKept s u := by
  obtain ⟨params, estop, home, free⟩ := h.inputs
  obtain ⟨params', estop', home', free'⟩ := k.inputs
  refine ⟨fun n => (k.stations n).trans (h.stations n), fun v => (k.versions v).trans (h.versions v), fun i => (k.setups i).trans (h.setups i),
    ?_, ?_, ?_, params'.trans params, estop'.trans estop, home'.trans home, free'.trans free⟩
  · rw [k.intake, h.intake]
  · rw [k.bus, h.bus]
  · rw [k.link, h.link]

theorem Foot.hostKept {s u : State} (h : Foot s u) : HostKept s u := by
  refine ⟨h.stations, h.versions, h.setups, ?_, ?_, ?_, ?_, ?_, ?_, ?_⟩ <;> rw [h.blocks]

theorem PulseFoot.hostKept {s u : State} (h : PulseFoot s u) : HostKept s u := by
  have foot : Foot { s with phase := u.phase } u := h
  exact ⟨foot.hostKept.stations, foot.hostKept.versions, foot.hostKept.setups, foot.hostKept.intake, foot.hostKept.bus, foot.hostKept.link,
    foot.hostKept.inputs⟩

theorem hostKept_takePitch (order : AdvanceOrder) (s : State) : HostKept s (takePitch order s) := by
  obtain ⟨v, before, after, -⟩ := takePitch_parts order s
  have shifted : HostKept (closeExchanges v) (shift (closeExchanges v)) :=
    ⟨fun _ => rfl, fun _ => rfl, fun _ => rfl, rfl, rfl, rfl, rfl, rfl, rfl, rfl⟩
  exact ((((before.hostKept).trans (foot_closeExchanges v).hostKept).trans shifted).trans (foot_trackAdvance v).hostKept).trans after.hostKept

/-! ### The advance, written out (R48 to R58) -/

section
variable (u : State)

theorem commanded_iff (jog : Bool) (r : Role) : r.commanded jog = true ↔ jog = false ∨ r = .gate ∨ r = .stacker := by
  cases jog <;> simp [Role.commanded]

/-- The command of the station at one position, by the role's names (R54, R58). -/
def commandAt (jog : Bool) (u : State) (p : Nat) : State :=
  match u.track.cells[p]?, slotAtPosition u p with
  | some c, some n => match stationAt u n with
    | some st => if jog = false ∨ st.role = .gate ∨ st.role = .stacker then deriveFor n st.role p c u else u
    | none => u
  | _, _ => u

theorem commandAt_eq (jog : Bool) (p : Nat) : commandAt jog u p = deriveAt jog u p := by
  unfold commandAt deriveAt cellAt
  cases u.track.cells[p]? with
  | none => rfl
  | some c =>
    cases slotAtPosition u p with
    | none => rfl
    | some n =>
      dsimp only
      cases stationAt u n with
      | none => rfl
      | some st =>
        dsimp only
        by_cases commanded : st.role.commanded jog = true
        · rw [if_pos ((commanded_iff jog st.role).mp commanded), if_pos commanded]
        · rw [if_neg fun h => commanded ((commanded_iff jog st.role).mpr h), if_neg commanded]

/-- The cells after the shift, a jog's condemnations made cell by cell (R53, R58). -/
def movedCells (jog : Bool) (closed : State) : List Cell :=
  (Cell.new closed.track.nextTag :: closed.track.cells.take (stackerPosition closed)).map fun c =>
    if jog = true ∧ c.content = .bound then c.condemn { kind := .movedWhileHalted, station := none } else c

theorem movedState_written : movedState u = lostListAdvance { closeExchanges u with
    track := { (closeExchanges u).track with
      cells := movedCells u.line.state.halted (closeExchanges u)
      nextTag := (closeExchanges u).track.nextTag + 1 } } := by
  unfold movedState
  split
  next halted =>
    unfold movedCells condemnMoved shift
    simp only [halted, true_and]
    rfl
  next moving =>
    unfold movedCells shift
    simp [moving]

theorem askBinding_eq (jog : Bool) : askBinding jog u = if jog = false ∧ u.line.state = .running then decideNewCell u else u := by
  unfold askBinding
  simp only [Bool.and_eq_true, Bool.not_eq_true', beq_iff_eq]

theorem halted_eq : (u.line.state == .idle || u.line.state == .faulted) = u.line.state.halted := by
  cases u.line.state <;> rfl

end

/-- Settles O51: only the shift moves a cell, and whatever comes after it softens what the cells hold; written
out, the advance is its four steps in the order given. -/
theorem pitchAdvances : Obligations.PitchAdvances := by
  intro order s
  refine ⟨takePitch order (newMoment s), rfl, ?_⟩
  obtain ⟨next, tags⟩ := takePitch_tags order (newMoment s)
  have kept := hostKept_takePitch order (newMoment s)
  obtain ⟨params, estop, home, free⟩ := kept.inputs
  obtain ⟨v, before, -, soft⟩ := takePitch_parts order (newMoment s)
  refine ⟨next, tags, fun still => ?_, fun halted => ?_, kept.stations, kept.versions, kept.setups, ?_, ?_, params, estop, home, free, ?_, ?_,
    kept.link, ?_⟩
  · exact ((trackAdvance_softens (before.flow.not_running still)).trans soft).head (movedState_head v)
  · have stands : v.line.state.halted = true := before.flow.halted (by rw [← halted_eq]; simpa using halted)
    have still : v.line.state ≠ .running := fun running => by rw [running] at stands; cases stands
    exact ((trackAdvance_softens still).trans soft).not_bound (movedState_jog stands)
  · rw [kept.intake]
    rfl
  · rw [kept.intake]
    rfl
  · rw [kept.bus]
    rfl
  · rw [kept.bus]
    rfl
  · intro close command track faulted phase drain u
    have closes : close = closeCell := by
      funext u p
      dsimp only [close]
      unfold closeCell cellAt
      cases u.track.cells[p]? <;> rfl
    have commands (jog : Bool) : command jog = deriveAt jog := by
      funext u p
      refine Eq.trans ?_ (commandAt_eq u jog p)
      dsimp only [command]
      unfold commandAt
      cases u.track.cells[p]? <;> cases slotAtPosition u p <;> rfl
    have tracks (v : State) : track v = trackAdvance v := by
      dsimp only [track]
      rw [closes, halted_eq, commands, trackAdvance_eq, askBinding_eq, movedState_written]
      rfl
    have faults (lost : Bool) (v : State) : faulted lost v = handPhaseFault lost v := by
      cases lost <;> rfl
    cases order with
    | phaseThenTrack =>
      dsimp only [drain, phase]
      rw [tracks, faults]
      rfl
    | phaseFaultAfterTrack =>
      dsimp only [drain]
      rw [tracks, faults]
      rfl
    | trackThenPhase =>
      dsimp only [drain, phase]
      rw [tracks, faults]
      rfl
    | trackThenLine =>
      dsimp only [drain, phase]
      rw [tracks, faults]
      rfl

end Sys2Proof.Machine
end

section
/-! The requests to a line that stands or moves (O38), FAULT_CLEAR (O39) and JOB_RESET (O40). -/

namespace Sys2Proof.Machine

/-! ### LINE_DRAIN, LINE_STOP, LINE_HOLD, LINE_RESUME (R170, R174, R176) -/

/-- Settles O38. -/
theorem lineRequests : Obligations.LineRequests := by
  refine ⟨fun s number rest => ?_, fun s number rest => ?_, fun c ahead behind drive before after => ⟨?_, fun d own => ?_⟩⟩
  · intro told
    refine ⟨fun option requested => ⟨fun still => ?_, fun running wide => ?_, fun running narrow => ?_⟩, fun requested =>
      ⟨fun still => ?_, fun stopping => ?_, fun n moving slot => ?_⟩⟩
    · exact serve_answered requested rfl (if_pos still)
    · refine serve_answered requested rfl ((if_neg (not_not.mpr running)).trans ?_)
      rcases option with _ | _ | more
      · omega
      · omega
      · rfl
    · have taken' : takeLineDrain option (taken rest s) = (Answer.refuse .ok [],
          told { s.line with state := .draining, drain := if option = 1 then .close else .noClose } (taken rest s)) := by
        refine (if_neg (not_not.mpr running)).trans ?_
        rcases option with _ | _ | more
        · rfl
        · rfl
        · omega
      exact serve_answered requested rfl taken'
    · have taken' : takeLineStop (taken rest s) = (Answer.refuse .state (nat1 s.line.state.code), taken rest s) := by
        unfold takeLineStop stateRefusal
        rw [show (taken rest s).line.state = s.line.state from rfl]
        rcases still with state | state <;> rw [state]
      exact serve_answered requested rfl taken'
    · have taken' : takeLineStop (taken rest s) = (Answer.refuse .ok [], taken rest s) := by
        unfold takeLineStop
        rw [show (taken rest s).line.state = s.line.state from rfl, stopping]
        rfl
      exact serve_answered requested rfl taken'
    · have slot' : slotWith (taken rest s) .drive = some n := slot
      have taken' : takeLineStop (taken rest s) = (Answer.refuse .ok [], enterStopping (taken rest s)) := by
        unfold takeLineStop
        rw [show (taken rest s).line.state = s.line.state from rfl]
        rcases moving with state | state | state <;> (rw [state]; rfl)
      rw [enterStopping_of slot'] at taken'
      exact serve_answered requested rfl taken'
  · exact ⟨fun requested => serve_answered requested rfl rfl, fun requested => serve_answered requested rfl rfl⟩
  · exact putDriveCommand_joins (by simpa using ⟨before, after⟩)
  · exact putDriveCommand_replaces own before after

/-! ### FAULT_CLEAR (R180) -/

section
variable {s : State} {number : Byte} {rest : List RxEntry}

/-- The drive stands. -/
def DriveStands (s : State) : Prop := ∃ n st, slotWith s .drive = some n ∧ stationAt s n = some st ∧ st.motion = some .stopped

/-- The guard of a station is open. -/
def GuardOpen (s : State) (m : SlotNo) : Prop := ∃ st, stationAt s m = some st ∧ st.recorded = .guardOpen

/-- A slot has the role and its station is usable. -/
def Serves (s : State) (r : Role) : Prop := ∃ n st, slotWith s r = some n ∧ stationAt s n = some st ∧ st.usable = true

theorem guardOpen_iff (m : SlotNo) : (stationAt s m).any (·.recorded == .guardOpen) = true ↔ GuardOpen s m := by
  unfold GuardOpen
  cases stationAt s m <;> simp

theorem serves_iff {r : Role} : (slotWith s r).any (usable s) = true ↔ Serves s r := by
  unfold Serves usable
  simp only [Option.any_eq_true, exists_and_left]

theorem needUsable_serves {r : Role} (serves : Serves s r) : clearRefusal.needUsable s r = none := by
  obtain ⟨n, st, slot, entry, served⟩ := serves
  have own : usable s n = true := by
    unfold usable
    rw [entry]
    exact served
  unfold clearRefusal.needUsable
  rw [slot]
  exact if_pos own

theorem needUsable_missing {r : Role} (slot : slotWith s r = none) : clearRefusal.needUsable s r = some (Answer.refuse .station [0, 0, 0]) := by
  unfold clearRefusal.needUsable
  rw [slot]
  rfl

theorem needUsable_unusable {r : Role} {n : SlotNo} {st : Station} (slot : slotWith s r = some n) (entry : stationAt s n = some st)
    (unusable : ¬ Serves s r) : clearRefusal.needUsable s r
      = some (Answer.refuse .station (nat1 (slotNumber n) ++ nat1 st.recorded.code ++ nat1 st.health.code)) := by
  have own : ¬ usable s n = true := by
    unfold usable
    rw [entry]
    exact fun served => unusable ⟨n, st, slot, entry, served⟩
  unfold clearRefusal.needUsable
  rw [slot]
  dsimp only
  rw [if_neg own, entry]
  rfl

theorem needUsable_refuses {r : Role} (unusable : ¬ Serves s r) : ∃ a, clearRefusal.needUsable s r = some a ∧ a.result = .station := by
  unfold clearRefusal.needUsable
  cases slot : slotWith s r with
  | none => exact ⟨_, rfl, rfl⟩
  | some n =>
    have own : ¬ usable s n = true := fun served => unusable (serves_iff.mp (by rw [slot]; exact served))
    exact ⟨_, if_neg own, rfl⟩

/-- The refusal of a FAULT_CLEAR by the conditions of R180 in their order. -/
theorem clearRefusal_estop (asserted : s.estop = true) : clearRefusal s = some (Answer.refuse .state (nat1 1)) := if_pos asserted

theorem clearRefusal_noDrive (released : s.estop = false) (slot : slotWith s .drive = none) :
    clearRefusal s = some (Answer.refuse .state (nat1 3)) := by
  unfold clearRefusal
  rw [if_neg (by simp [released]), slot]

theorem clearRefusal_moving {n : SlotNo} {st : Station} (released : s.estop = false) (slot : slotWith s .drive = some n)
    (entry : stationAt s n = some st) (moving : st.motion ≠ some .stopped) : clearRefusal s = some (Answer.refuse .state (nat1 2)) := by
  unfold clearRefusal
  rw [if_neg (by simp [released]), slot]
  dsimp only
  rw [entry, if_pos (by simpa using moving)]

theorem clearRefusal_stands (released : s.estop = false) (stands : DriveStands s) :
    clearRefusal s = ((allSlots.find? fun m => (stationAt s m).any (·.recorded == .guardOpen)).map fun m =>
      Answer.refuse .station (slotByte (some m))).or ((clearRefusal.needUsable s .gate).or (clearRefusal.needUsable s .stacker)) := by
  obtain ⟨n, st, slot, entry, motion⟩ := stands
  unfold clearRefusal
  rw [if_neg (by simp [released]), slot]
  dsimp only
  rw [entry, if_neg (by simp [motion])]
  cases allSlots.find? fun m => (stationAt s m).any (·.recorded == .guardOpen) <;> rfl

theorem clearRefusal_guard {m : SlotNo} (released : s.estop = false) (stands : DriveStands s) (guard : GuardOpen s m)
    (lowest : ∀ k, GuardOpen s k → m ≤ k) : clearRefusal s = some (Answer.refuse .station (nat1 (slotNumber m))) := by
  have found : (allSlots.find? fun m => (stationAt s m).any (·.recorded == .guardOpen)) = some m := by
    refine find?_allSlots_eq_some_iff.mpr ⟨(guardOpen_iff m).mpr guard, fun k less => ?_⟩
    rw [Bool.eq_false_iff]
    intro guarded
    have least := Fin.le_def.mp (lowest k ((guardOpen_iff k).mp guarded))
    omega
  rw [clearRefusal_stands released stands, found]
  rfl

theorem clearRefusal_guarded (released : s.estop = false) (stands : DriveStands s) (shut : ∀ m, ¬ GuardOpen s m) :
    clearRefusal s = (clearRefusal.needUsable s .gate).or (clearRefusal.needUsable s .stacker) := by
  have found : (allSlots.find? fun m => (stationAt s m).any (·.recorded == .guardOpen)) = none := by
    refine find?_allSlots_eq_none_iff.mpr fun m => ?_
    rw [Bool.eq_false_iff]
    exact fun guarded => shut m ((guardOpen_iff m).mp guarded)
  rw [clearRefusal_stands released stands, found]
  rfl

/-- Every condition of R180 beside the line's own state. -/
def Clearable (s : State) : Prop := s.estop = false ∧ DriveStands s ∧ (∀ m, ¬ GuardOpen s m) ∧ Serves s .gate ∧ Serves s .stacker

theorem clearRefusal_clearable (clearable : Clearable s) : clearRefusal s = none := by
  obtain ⟨released, stands, shut, gate, stacker⟩ := clearable
  rw [clearRefusal_guarded released stands shut, needUsable_serves gate, needUsable_serves stacker]
  rfl

theorem clearRefusal_refuses (notClearable : ¬ Clearable s) : ∃ a, clearRefusal s = some a ∧ a.result ≠ .ok := by
  by_cases asserted : s.estop = true
  · exact ⟨_, clearRefusal_estop asserted, by decide⟩
  have released : s.estop = false := by simpa using asserted
  by_cases stands : DriveStands s
  · by_cases shut : ∀ m, ¬ GuardOpen s m
    · rw [clearRefusal_guarded released stands shut]
      by_cases gate : Serves s .gate
      · have stacker : ¬ Serves s .stacker := fun served => notClearable ⟨released, stands, shut, gate, served⟩
        obtain ⟨a, refuses, result⟩ := needUsable_refuses stacker
        exact ⟨a, by rw [needUsable_serves gate, refuses]; rfl, by rw [result]; decide⟩
      · obtain ⟨a, refuses, result⟩ := needUsable_refuses gate
        exact ⟨a, by rw [refuses]; rfl, by rw [result]; decide⟩
    · rw [clearRefusal_stands released stands]
      cases found : allSlots.find? fun m => (stationAt s m).any (·.recorded == .guardOpen) with
      | some m => exact ⟨_, rfl, by simp [Answer.refuse]⟩
      | none =>
        have every := find?_allSlots_eq_none_iff.mp found
        exact absurd (fun m guard => Bool.false_ne_true ((every m).symm.trans ((guardOpen_iff m).mpr guard))) shut
  · cases slot : slotWith s .drive with
    | none => exact ⟨_, clearRefusal_noDrive released slot, by decide⟩
    | some n =>
      have unmoved : ¬ (stationAt s n).any (·.motion == some .stopped) = true := by
        intro motion
        cases entry : stationAt s n with
        | none => simp [entry] at motion
        | some st => exact stands ⟨n, st, slot, entry, by simpa [entry] using motion⟩
      refine ⟨Answer.refuse .state (nat1 2), ?_, by decide⟩
      unfold clearRefusal
      rw [if_neg (by simp [released]), slot]
      dsimp only
      rw [if_pos (by simpa using unmoved)]

theorem takeFaultClear_refused {a : Answer} (requested : Requested s number .faultClear rest) (faulted : s.line.state = .faulted)
    (refused : clearRefusal s = some a) : exec .faultClear s = .next (withReply number .faultClear a.result a.data (taken rest s)) := by
  refine serve_answered requested rfl ((if_neg (not_not.mpr faulted)).trans ?_)
  rw [show clearRefusal (taken rest s) = some a from refused]
  rfl

end

/-- Settles O39: the refusal of a FAULT_CLEAR is that of the first condition that fails, and none is left when
it is taken. -/
theorem faultCleared : Obligations.FaultCleared := by
  intro s number rest requested clearable cleared refused guardOpen serves turnedAway
  have conditions : clearable ↔ s.line.state = .faulted ∧ Clearable s := by
    refine ⟨fun ⟨faulted, released, stands, shut, gate, stacker⟩ => ⟨faulted, released, stands, ?_, gate, stacker⟩,
      fun ⟨faulted, released, stands, shut, gate, stacker⟩ => ⟨faulted, released, stands, fun n st entry guarded => ?_, gate, stacker⟩⟩
    · exact fun m ⟨st, entry, guarded⟩ => shut m st entry guarded
    · exact shut n ⟨st, entry, guarded⟩
  have answered {a : Answer} (faulted : s.line.state = .faulted) (known : clearRefusal s = some a) : refused a.result a.data :=
    takeFaultClear_refused requested faulted known
  have away (r : Role) (faulted : s.line.state = .faulted) (known : ∀ a, clearRefusal.needUsable s r = some a → clearRefusal s = some a)
      (unusable : ¬ Serves s r) : turnedAway r := by
    refine ⟨fun slot => ?_, fun n st slot entry => ?_⟩
    · exact answered faulted (known _ (needUsable_missing slot))
    · exact answered faulted (known _ (needUsable_unusable slot entry unusable))
  refine ⟨fun other => ?_, fun faulted asserted => ?_, fun faulted released => ⟨fun slot => ?_, fun n st slot entry moving => ?_,
    fun stands => ⟨fun m guard lowest => ?_, fun shut => ⟨fun gate => ?_, fun gate stacker => ?_⟩⟩⟩, fun not => ?_, fun holds => ?_⟩
  · exact serve_answered requested rfl (if_pos other)
  · exact answered faulted (clearRefusal_estop asserted)
  · exact answered faulted (clearRefusal_noDrive released slot)
  · exact answered faulted (clearRefusal_moving released slot entry moving)
  · exact answered faulted (clearRefusal_guard released stands guard lowest)
  · refine away .gate faulted (fun a refuses => ?_) gate
    rw [clearRefusal_guarded released stands shut, refuses]
    rfl
  · refine away .stacker faulted (fun a refuses => ?_) stacker
    rw [clearRefusal_guarded released stands shut, needUsable_serves gate, refuses]
    rfl
  · by_cases faulted : s.line.state = .faulted
    · obtain ⟨a, known, result⟩ := clearRefusal_refuses fun holds => not (conditions.mpr ⟨faulted, holds⟩)
      exact ⟨a.result, a.data, result, answered faulted known⟩
    · exact ⟨.state, nat1 s.line.state.code, by decide, serve_answered requested rfl (if_pos faulted)⟩
  · obtain ⟨faulted, holds'⟩ := conditions.mp holds
    have taken' : takeFaultClear (taken rest s) = (Answer.refuse .ok [], raise (lineNotice .faulted cleared) { taken rest s with line := cleared }) := by
      refine (if_neg (not_not.mpr faulted)).trans ?_
      rw [show clearRefusal (taken rest s) = none from clearRefusal_clearable holds']
      unfold clearFault changeLine
      rw [show (taken rest s).line.state = .faulted from faulted]
      rfl
    exact serve_answered requested rfl taken'

/-! ### JOB_RESET (R181) -/

theorem resetFeed_notice (s : State) {i : Fin 33} (other : i ≠ 1) : (resetFeed s).link.notices[i] = s.link.notices[i] := by
  unfold resetFeed
  split
  · rfl
  · exact raise_notice_other _ _ i other

theorem clearPhase_notice (s : State) {i : Fin 33} (other : i ≠ 4) : (clearPhase s).link.notices[i] = s.link.notices[i] := by
  unfold clearPhase
  dsimp only
  split
  · rfl
  · exact raise_notice_other _ _ i other

theorem clearStep_notice (s : State) {i : Fin 33} (other : i ≠ 2) : (clearStep s).link.notices[i] = s.link.notices[i] := by
  unfold clearStep
  dsimp only
  split
  · rfl
  · exact raise_notice_other _ _ i other

/-- A job reset tells nothing but the suppression set and the two monitors. -/
theorem resetJob_notice (s : State) {i : Fin 33} (feed : i ≠ 1) (step : i ≠ 2) (phase : i ≠ 4) : (resetJob s).link.notices[i] = none := by
  unfold resetJob
  rw [resetFeed_notice _ feed, clearPhase_notice _ phase, clearStep_notice _ step]
  simp [clearBlocks]

theorem clearBlocks_eq (s : State) : clearBlocks s = { s with
    bus := { s.bus with txQueue := s.bus.txQueue.filter (·.forDrive) }
    intake := { queue := [], lastSequence := 0, lastKeys := none }
    versions := s.versions.map fun v => { v with refCount := 0 }
    track := { cells := [], nextTag := s.track.nextTag, printJobs := 0, lateCount := 0 }
    binding := Binding.reset
    bundles := BundleBuilder.reset
    counters := { all := s.counters.all.map Counter.jobReset, frozen := false, source := none }
    line := { s.line with fault := none, laterFaults := 0, lastLater := none }
    link := { s.link with notices := Vector.replicate 33 none } } := by
  have versions : (Vector.ofFn fun i : Fin 32 => { s.versions[i] with refCount := 0 }) = s.versions.map fun v => { v with refCount := 0 } := by
    ext i inside
    simp
  have counters : (Vector.ofFn fun i : Fin 8 => s.counters.all[i].jobReset) = s.counters.all.map Counter.jobReset := by
    ext i inside
    simp
  unfold clearBlocks
  rw [versions, counters]
  rfl

/-- Settles O40: the reset clears its blocks and then says what its two monitors and the suppression set are. -/
theorem jobResets : Obligations.JobResets := by
  intro s number rest requested
  refine ⟨fun other => serve_answered requested rfl (if_pos other), fun idle waiting => ?_, fun idle sent => ?_⟩
  · exact serve_answered requested rfl ((if_neg (not_not.mpr idle)).trans (if_pos waiting))
  · have taken' : takeJobReset (taken rest s) = (Answer.refuse .ok [], resetJob (taken rest s)) :=
      (if_neg (not_not.mpr idle)).trans (if_neg (not_not.mpr sent))
    refine ⟨resetJob (taken rest s), serve_answered requested rfl taken', ?_, fun c => ?_, fun i feed step phase => resetJob_notice _ feed step phase⟩
    · refine (resetJob_eq (taken rest s)).trans ?_
      rw [clearBlocks_eq]
      rfl
    · rw [resetJob_has]
      cases c with
      | phase =>
        change (resetJob (taken rest s)).phase.state.suppresses = _
        rw [resetJob_eq]
        change (phaseStateAtStart s.params.chainLength).suppresses = _
        unfold phaseStateAtStart
        by_cases zero : s.params.chainLength = 0 <;> simp [zero, PhaseState.suppresses]
      | station n =>
        have entry : stationAt (resetJob (taken rest s)) n = stationAt s n := by
          rw [resetJob_eq, clearBlocks_eq]
          rfl
        change suppresses (resetJob (taken rest s)) n = _
        unfold suppresses
        rw [entry]
      | _ => rfl

end Sys2Proof.Machine
end

section
/-! LINE_START (O37): the table of R171 row by row, and the start. -/

namespace Sys2Proof.Machine

section
variable {s : State} {n : SlotNo} {st : Station} {r : Role} {k : LineUp}

theorem mem_slotsWith : n ∈ slotsWith s r ↔ ∃ st, stationAt s n = some st ∧ st.role = r := by
  unfold slotsWith
  rw [List.mem_filter]
  have listed : n ∈ allSlots := List.mem_finRange n
  simp only [listed, true_and]
  exact hasRole_iff

theorem slotWith_single (single : slotsWith s r = [n]) : slotWith s r = some n := by
  unfold slotWith
  rw [single]
  rfl

theorem placeOf_of (entry : stationAt s n = some st) : placeOf s n = st.position.getD 0 := by
  unfold placeOf positionOf
  rw [entry]
  rfl

/-! ### The tests of the table -/

theorem above_iff (entry : stationAt s n = some st) : above s r n = true ↔ StandsAbove s r st := by
  unfold above StandsAbove
  rw [List.all_eq_true]
  constructor
  · intro all m other own role
    have less := all m (mem_slotsWith.mpr ⟨other, own, role⟩)
    rw [placeOf_of own, placeOf_of entry] at less
    exact of_decide_eq_true less
  · intro all m member
    obtain ⟨other, own, role⟩ := mem_slotsWith.mp member
    rw [placeOf_of own, placeOf_of entry]
    exact decide_eq_true (all m other own role)

theorem one_iff {test : Station → Prop} {testAt : SlotNo → Bool} (same : ∀ n st, stationAt s n = some st → (testAt n = true ↔ test st)) :
    One s r test ↔ ∃ n, slotsWith s r = [n] ∧ testAt n = true := by
  constructor
  · rintro ⟨n, st, single, entry, meets⟩
    exact ⟨n, single, (same n st entry).mpr meets⟩
  · rintro ⟨n, single, meets⟩
    obtain ⟨st, entry, -⟩ := mem_slotsWith.mp (single ▸ List.mem_singleton_self n)
    exact ⟨n, st, single, entry, (same n st entry).mp meets⟩

theorem needOne_single {test : SlotNo → Bool} {more : SlotNo → List Byte} (single : slotsWith s r = [n]) :
    needOne s k r test more = if test n then none else some (configRefusal k (slotByte (some n) ++ more n)) := by
  unfold needOne
  rw [single]

theorem needOne_count {test : SlotNo → Bool} {more : SlotNo → List Byte} (other : ∀ n, slotsWith s r ≠ [n]) :
    needOne s k r test more = some (configRefusal k (nat1 (slotsWith s r).length)) := by
  unfold needOne
  split
  next n single => exact absurd single (other n)
  · rfl

theorem needAtMostOne_single {test : SlotNo → Bool} (single : slotsWith s r = [n]) :
    needAtMostOne s k r test = if test n then none else some (configRefusal k (slotByte (some n) ++ [])) := by
  unfold needAtMostOne
  rw [single, List.append_nil]

theorem needAtMostOne_count {test : SlotNo → Bool} (other : ∀ n, slotsWith s r ≠ [n]) (present : slotsWith s r ≠ []) :
    needAtMostOne s k r test = some (configRefusal k (nat1 (slotsWith s r).length)) := by
  unfold needAtMostOne
  split
  next empty => exact absurd empty present
  next n single => exact absurd single (other n)
  · rfl

theorem needAtMostOne_none {test : SlotNo → Bool} (empty : slotsWith s r = []) : needAtMostOne s k r test = none := by
  unfold needAtMostOne
  rw [empty]

theorem needOne_eq_none {test : SlotNo → Bool} {more : SlotNo → List Byte} :
    needOne s k r test more = none ↔ ∃ n, slotsWith s r = [n] ∧ test n = true := by
  by_cases single : ∃ n, slotsWith s r = [n]
  · obtain ⟨n, single⟩ := single
    rw [needOne_single single, single]
    by_cases meets : test n = true <;> simp [meets]
  · rw [needOne_count fun n own => single ⟨n, own⟩]
    exact iff_of_false (by simp) fun ⟨n, own, _⟩ => single ⟨n, own⟩

theorem needAtMostOne_eq_none {test : SlotNo → Bool} :
    needAtMostOne s k r test = none ↔ slotsWith s r = [] ∨ ∃ n, slotsWith s r = [n] ∧ test n = true := by
  by_cases single : ∃ n, slotsWith s r = [n]
  · obtain ⟨n, single⟩ := single
    rw [needAtMostOne_single single, single]
    by_cases meets : test n = true <;> simp [meets]
  · by_cases empty : slotsWith s r = []
    · exact iff_of_true (needAtMostOne_none empty) (.inl empty)
    · rw [needAtMostOne_count (fun n own => single ⟨n, own⟩) empty]
      exact iff_of_false (by simp) fun h => h.elim empty fun ⟨n, own, _⟩ => single ⟨n, own⟩

theorem insertLineUp_eq_none : insertLineUp s = none ↔ (slotsWith s .insertFeeder).length ≤ 8
    ∧ ∀ n st, stationAt s n = some st → st.role = .insertFeeder → st.position.getD 0 < carrierAt s := by
  unfold insertLineUp roleCount
  by_cases many : 8 < (slotsWith s .insertFeeder).length
  · rw [if_pos many]
    exact iff_of_false (by simp) fun h => absurd h.1 (by omega)
  · rw [if_neg many, Option.map_eq_none_iff, List.find?_eq_none]
    refine ⟨fun all => ⟨by omega, fun n st entry role => ?_⟩, fun ⟨_, all⟩ n member => ?_⟩
    · have less := all n (mem_slotsWith.mpr ⟨st, entry, role⟩)
      rw [placeOf_of entry] at less
      exact Nat.lt_of_not_le fun reaches => less (decide_eq_true reaches)
    · obtain ⟨st, entry, role⟩ := mem_slotsWith.mp member
      have less := all n st entry role
      rw [placeOf_of entry]
      have : ¬ rolePlace s .carrierFeeder ≤ st.position.getD 0 := by
        unfold carrierAt at less
        unfold rolePlace
        omega
      simpa using this

theorem notUpstream_eq_none (single : slotsWith s .stacker = [n]) (entry : stationAt s n = some st) :
    notUpstream s n = none ↔ ∀ m other p, stationAt s m = some other → other.role ≠ .stacker → other.position = some p → p < st.position.getD 0 := by
  have only (m : SlotNo) (other : Station) (own : stationAt s m = some other) : m ≠ n ↔ other.role ≠ .stacker := by
    have listed : m ∈ slotsWith s .stacker ↔ m = n := by rw [single, List.mem_singleton]
    rw [mem_slotsWith] at listed
    refine not_congr ⟨fun same => ?_, fun role => listed.mp ⟨other, own, role⟩⟩
    obtain ⟨st', own', role⟩ := listed.mpr same
    cases own.symm.trans own'
    exact role
  unfold notUpstream
  rw [find?_allSlots_eq_none_iff, placeOf_of entry]
  constructor
  · intro all m other p own role position
    have test := all m
    unfold positionOf at test
    have apart := (only m other own).mpr role
    simp [own, apart, position] at test
    exact test
  · intro all m
    unfold positionOf
    cases own : stationAt s m with
    | none => simp
    | some other =>
      by_cases same : m = n
      · simp [same]
      · cases position : other.position with
        | none => simp [position]
        | some p =>
          have less := all m other p own ((only m other own).mp same) position
          simp [position, less]

theorem stackerLineUp_eq_none : stackerLineUp s = none ↔ LineUpRow s 10 := by
  unfold stackerLineUp
  by_cases single : ∃ n, slotsWith s .stacker = [n]
  · obtain ⟨n, single⟩ := single
    obtain ⟨st, entry, -⟩ := mem_slotsWith.mp (single ▸ List.mem_singleton_self n)
    rw [single]
    dsimp only
    rw [Option.map_eq_none_iff, notUpstream_eq_none single entry]
    constructor
    · exact fun all => ⟨n, st, single, entry, all⟩
    · rintro ⟨m, other, single', entry', all⟩
      cases single.symm.trans single'
      cases entry.symm.trans entry'
      exact all
  · refine iff_of_false ?_ fun ⟨n, _, own, _⟩ => single ⟨n, own⟩
    split
    next n own => exact absurd ⟨n, own⟩ single
    · simp

/-! ### The rows -/

/-- The check of a row of the table. -/
def rowCheck (s : State) (row : Nat) : Option Answer := ((lineUpChecks s)[row - 1]?).join

theorem row_two : roleCount s .drive = 1 ↔ LineUpRow s 2 := by
  unfold roleCount
  rw [List.length_eq_one_iff]
  constructor
  · rintro ⟨n, single⟩
    obtain ⟨st, entry, -⟩ := mem_slotsWith.mp (single ▸ List.mem_singleton_self n)
    exact ⟨n, st, single, entry, trivial⟩
  · rintro ⟨n, -, single, -⟩
    exact ⟨n, single⟩

theorem needAtMostOne_iff {test : Station → Prop} {testAt : SlotNo → Bool}
    (same : ∀ n st, stationAt s n = some st → (testAt n = true ↔ test st)) : needAtMostOne s k r testAt = none ↔ AtMostOne s r test := by
  rw [needAtMostOne_eq_none, ← one_iff same]
  rfl

theorem needOne_iff {test : Station → Prop} {testAt : SlotNo → Bool} {more : SlotNo → List Byte}
    (same : ∀ n st, stationAt s n = some st → (testAt n = true ↔ test st)) : needOne s k r testAt more = none ↔ One s r test := by
  rw [needOne_eq_none, ← one_iff same]

/-- The first ten rows of the table say of themselves alone whether they hold. -/
theorem rowCheck_iff {row : Nat} (low : 1 ≤ row) (high : row ≤ 10) : rowCheck s row = none ↔ LineUpRow s row := by
  match row with
  | 1 =>
    change (if s.line.state = .idle then none else some (Answer.refuse .state (nat1 s.line.state.code))) = none ↔ s.line.state = .idle
    by_cases idle : s.line.state = .idle <;> simp [idle]
  | 2 =>
    rw [← row_two]
    change (if roleCount s .drive = 1 then none else some _) = none ↔ _
    by_cases one : roleCount s .drive = 1 <;> simp [one]
  | 3 =>
    refine needOne_iff fun n st entry => ?_
    rw [placeOf_of entry, beq_iff_eq]
  | 4 => exact needOne_iff fun n st entry => by simp
  | 5 =>
    refine needOne_iff fun n st entry => ?_
    unfold printLeadHolds
    rw [placeOf_of entry, Bool.and_eq_true, decide_eq_true_iff, decide_eq_true_iff]
    rfl
  | 6 => exact insertLineUp_eq_none
  | 7 => exact needAtMostOne_iff fun n st entry => above_iff entry
  | 8 =>
    refine needAtMostOne_iff fun n st entry => ?_
    rw [Bool.and_eq_true, above_iff entry, above_iff entry]
  | 9 =>
    refine needOne_iff fun n st entry => ?_
    rw [Bool.and_eq_true, Bool.and_eq_true, above_iff entry, above_iff entry, above_iff entry, and_assoc]
  | 10 => exact stackerLineUp_eq_none

theorem slotWith_of_row {row : Nat} {r : Role} (held : LineUpRow s row) (which : (row, r) ∈ [(2, Role.drive), (9, .gate), (10, .stacker)]) :
    ∃ n st, slotWith s r = some n ∧ stationAt s n = some st := by
  simp only [List.mem_cons, Prod.mk.injEq, List.not_mem_nil, or_false] at which
  rcases which with ⟨rfl, rfl⟩ | ⟨rfl, rfl⟩ | ⟨rfl, rfl⟩
  all_goals
    obtain ⟨n, st, single, entry, -⟩ := held
    exact ⟨n, st, slotWith_single single, entry⟩

theorem usable_of (entry : stationAt s n = some st) : usable s n = st.usable := by
  unfold usable
  rw [entry]
  rfl

/-- The last row, with the slots that the rows before it have found. -/
theorem unusableDisposer_of {g m d : SlotNo} (gate : slotWith s .gate = some g) (stacker : slotWith s .stacker = some m)
    (drive : slotWith s .drive = some d) : unusableDisposer s = ([g, m, d].find? (!usable s ·)).map fun n =>
      Answer.refuse .station (slotByte (some n) ++ conditionBytes (stationAt s n)) := by
  unfold unusableDisposer
  simp only [List.filterMap_cons, gate, stacker, drive, List.filterMap_nil]

theorem rowCheck_last (two : LineUpRow s 2) (nine : LineUpRow s 9) (ten : LineUpRow s 10) : rowCheck s 11 = none ↔ LineUpRow s 11 := by
  obtain ⟨d, std, drive, entryD⟩ := slotWith_of_row (r := .drive) two (by simp)
  obtain ⟨g, stg, gate, entryG⟩ := slotWith_of_row (r := .gate) nine (by simp)
  obtain ⟨m, stm, stacker, entryM⟩ := slotWith_of_row (r := .stacker) ten (by simp)
  change unusableDisposer s = none ↔ _
  rw [unusableDisposer_of gate stacker drive, Option.map_eq_none_iff, List.find?_eq_none]
  have serves {r : Role} {n : SlotNo} {st : Station} (slot : slotWith s r = some n) (entry : stationAt s n = some st) :
      (∃ n st, slotWith s r = some n ∧ stationAt s n = some st ∧ st.usable = true) ↔ ¬ (!usable s n) = true := by
    rw [usable_of entry]
    constructor
    · rintro ⟨n', st', slot', entry', served⟩
      cases slot.symm.trans slot'
      cases entry.symm.trans entry'
      simp [served]
    · exact fun served => ⟨n, st, slot, entry, by simpa using served⟩
  constructor
  · intro all r member
    simp only [List.mem_cons, List.not_mem_nil, or_false] at member
    rcases member with rfl | rfl | rfl
    · exact (serves gate entryG).mpr (all g (by simp))
    · exact (serves stacker entryM).mpr (all m (by simp))
    · exact (serves drive entryD).mpr (all d (by simp))
  · intro all n member
    simp only [List.mem_cons, List.not_mem_nil, or_false] at member
    rcases member with rfl | rfl | rfl
    · exact (serves gate entryG).mp (all .gate (by simp))
    · exact (serves stacker entryM).mp (all .stacker (by simp))
    · exact (serves drive entryD).mp (all .drive (by simp))

/-- With the rows before it met a row's check says whether the row holds. -/
theorem rowCheck_first {row : Nat} (low : 1 ≤ row) (high : row ≤ 11) (before : ∀ b, b < row → LineUpRow s b) :
    rowCheck s row = none ↔ LineUpRow s row := by
  by_cases last : row = 11
  · subst last
    exact rowCheck_last (before 2 (by omega)) (before 9 (by omega)) (before 10 (by omega))
  · exact rowCheck_iff low (by omega)

/-! ### The first refusal -/

theorem findSome?_id_first {α : Type} {l : List (Option α)} {i : Nat} {a : α} (here : l[i]? = some (some a))
    (before : ∀ j, j < i → l[j]? = some none) : l.findSome? id = some a := by
  induction l generalizing i with
  | nil => simp at here
  | cons x xs ih =>
    cases i with
    | zero =>
      cases here
      rfl
    | succ i =>
      have skipped : x = none := by simpa using before 0 (by omega)
      subst skipped
      exact ih (by simpa using here) fun j less => by simpa using before (j + 1) (by omega)

theorem lineUpChecks_get {row : Nat} (low : 1 ≤ row) (high : row ≤ 11) : (lineUpChecks s)[row - 1]? = some (rowCheck s row) := by
  have inside : row - 1 < (lineUpChecks s).length := by
    change row - 1 < 11
    omega
  unfold rowCheck
  rw [List.getElem?_eq_getElem inside]
  rfl

/-- The refusal of a LINE_START is that of the first row that fails. -/
theorem startRefusal_first {row : Nat} {a : Answer} (low : 1 ≤ row) (high : row ≤ 11) (before : ∀ b, b < row → LineUpRow s b)
    (refuses : rowCheck s row = some a) : startRefusal s = some a := by
  refine findSome?_id_first (i := row - 1) ((lineUpChecks_get low high).trans (congrArg some refuses)) fun j less => ?_
  have held := (rowCheck_first (s := s) (row := j + 1) (by omega) (by omega) fun b below => before b (by omega)).mpr (before (j + 1) (by omega))
  rw [← held]
  exact lineUpChecks_get (row := j + 1) (by omega) (by omega)

theorem startRefusal_eq_none : startRefusal s = none ↔ LinedUp s := by
  constructor
  · intro none' row
    have checks {row : Nat} (low : 1 ≤ row) (high : row ≤ 11) : rowCheck s row = none := by
      have all := List.findSome?_eq_none_iff.mp none'
      exact all _ (List.mem_of_getElem? (lineUpChecks_get low high))
    have ten {row : Nat} (low : 1 ≤ row) (high : row ≤ 10) : LineUpRow s row := (rowCheck_iff low high).mp (checks low (by omega))
    by_cases zero : row = 0
    · subst zero
      trivial
    by_cases last : row = 11
    · subst last
      exact (rowCheck_last (ten (by omega) (by omega)) (ten (by omega) (by omega)) (ten (by omega) (by omega))).mp (checks (by omega) (by omega))
    by_cases high : row ≤ 10
    · exact ten (by omega) high
    · obtain ⟨more, rfl⟩ : ∃ more, row = more + 12 := ⟨row - 12, by omega⟩
      trivial
  · intro lined
    by_contra some'
    obtain ⟨a, refuses⟩ := Option.ne_none_iff_exists'.mp some'
    obtain ⟨x, member, is⟩ := List.exists_of_findSome?_eq_some refuses
    obtain ⟨i, inside, rfl⟩ := List.mem_iff_getElem.mp member
    have short : i < 11 := inside
    have held := (rowCheck_first (s := s) (row := i + 1) (by omega) (by omega) fun b _ => lined b).mpr (lined (i + 1))
    have known := lineUpChecks_get (s := s) (row := i + 1) (by omega) (by omega)
    rw [held] at known
    have own : (lineUpChecks s)[i]? = some none := known
    rw [List.getElem?_eq_getElem inside] at own
    rw [Option.some.inj own] at is
    cases is

end

/-! ### What a refusal says -/

section
variable {s : State} {n : SlotNo} {r : Role} {k : LineUp} {a : Answer}

theorem needOne_result {test : SlotNo → Bool} {more : SlotNo → List Byte} (refuses : needOne s k r test more = some a) : a.result ≠ .ok := by
  unfold needOne at refuses
  split at refuses
  · split at refuses
    · cases refuses
    · cases refuses
      simp [configRefusal, Answer.refuse]
  · cases refuses
    simp [configRefusal, Answer.refuse]

theorem needAtMostOne_result {test : SlotNo → Bool} (refuses : needAtMostOne s k r test = some a) : a.result ≠ .ok := by
  unfold needAtMostOne at refuses
  split at refuses
  · cases refuses
  · split at refuses
    · cases refuses
    · cases refuses
      simp [configRefusal, Answer.refuse]
  · cases refuses
    simp [configRefusal, Answer.refuse]

theorem insertLineUp_result (refuses : insertLineUp s = some a) : a.result ≠ .ok := by
  unfold insertLineUp at refuses
  split at refuses
  · cases refuses
    simp [configRefusal, Answer.refuse]
  · obtain ⟨m, -, rfl⟩ := Option.map_eq_some_iff.mp refuses
    simp [configRefusal, Answer.refuse]

theorem stackerLineUp_result (refuses : stackerLineUp s = some a) : a.result ≠ .ok := by
  unfold stackerLineUp at refuses
  split at refuses
  · obtain ⟨m, -, rfl⟩ := Option.map_eq_some_iff.mp refuses
    simp [configRefusal, Answer.refuse]
  · cases refuses
    simp [configRefusal, Answer.refuse]

theorem unusableDisposer_result (refuses : unusableDisposer s = some a) : a.result ≠ .ok := by
  obtain ⟨m, -, rfl⟩ := Option.map_eq_some_iff.mp refuses
  simp [Answer.refuse]

/-- No row of the table refuses with OK. -/
theorem startRefusal_result (refuses : startRefusal s = some a) : a.result ≠ .ok := by
  obtain ⟨x, member, is⟩ := List.exists_of_findSome?_eq_some refuses
  change x = some a at is
  subst is
  unfold lineUpChecks at member
  simp only [List.mem_cons, List.not_mem_nil, or_false] at member
  rcases member with own | own | own | own | own | own | own | own | own | own | own
  · split at own
    · cases own
    · cases own
      simp [Answer.refuse]
  · split at own
    · cases own
    · cases own
      simp [configRefusal, Answer.refuse]
  · exact needOne_result own.symm
  · exact needOne_result own.symm
  · exact needOne_result own.symm
  · exact insertLineUp_result own.symm
  · exact needAtMostOne_result own.symm
  · exact needAtMostOne_result own.symm
  · exact needOne_result own.symm
  · exact stackerLineUp_result own.symm
  · exact unusableDisposer_result own.symm

theorem firstFailing_refuses {row : Nat} (low : 1 ≤ row) (high : row ≤ 11) (first : FirstFailing s row) :
    rowCheck s row ≠ none ∧ startRefusal s = rowCheck s row := by
  obtain ⟨fails, before⟩ := first
  have refuses : rowCheck s row ≠ none := fun none' => fails ((rowCheck_first low high before).mp none')
  obtain ⟨a, known⟩ := Option.ne_none_iff_exists'.mp refuses
  exact ⟨refuses, known ▸ startRefusal_first low high before known⟩

/-- A check of one role: what it refuses with a slot, and with the count. -/
def Needs (s : State) (c : Option Answer) (k : LineUp) (r : Role) (more : SlotNo → List Byte) : Prop :=
  (∀ n, slotsWith s r = [n] → c ≠ none → c = some (configRefusal k (slotByte (some n) ++ more n)))
    ∧ ((∀ n, slotsWith s r ≠ [n]) → c ≠ none → c = some (configRefusal k (nat1 (slotsWith s r).length)))

theorem needs_needOne {test : SlotNo → Bool} {more : SlotNo → List Byte} : Needs s (needOne s k r test more) k r more := by
  refine ⟨fun n single refuses => ?_, fun other _ => needOne_count other⟩
  rw [needOne_single single] at refuses ⊢
  exact if_neg fun meets => refuses (if_pos meets)

theorem needs_needAtMostOne {test : SlotNo → Bool} : Needs s (needAtMostOne s k r test) k r fun _ => [] := by
  refine ⟨fun n single refuses => ?_, fun other refuses => needAtMostOne_count other fun empty => refuses (needAtMostOne_none empty)⟩
  rw [needAtMostOne_single single] at refuses ⊢
  exact if_neg fun meets => refuses (if_pos meets)

theorem needs_drive : Needs s (rowCheck s 2) .driveCount .drive fun _ => [] := by
  have check : rowCheck s 2 = if roleCount s .drive = 1 then none else some (configRefusal .driveCount (nat1 (roleCount s .drive))) := rfl
  refine ⟨fun n single refuses => absurd ?_ refuses, fun other refuses => ?_⟩
  · rw [check]
    refine if_pos ?_
    unfold roleCount
    rw [single]
    rfl
  · rw [check] at refuses ⊢
    exact if_neg fun one => refuses (if_pos one)

/-- The rows whose refusal is by one role's slots alone. -/
theorem needs_row {row : Nat} (listed : (row, r) ∈ [(2, Role.drive), (3, .mainFeeder), (4, .carrierFeeder), (5, .printer), (7, .reader), (8, .sealer),
    (9, .gate)]) : ∃ k, k.code = row - 1 ∧ Needs s (rowCheck s row) k r fun n => if row = 5 then leadBytes s n else [] := by
  simp only [List.mem_cons, Prod.mk.injEq, List.not_mem_nil, or_false] at listed
  rcases listed with ⟨rfl, rfl⟩ | ⟨rfl, rfl⟩ | ⟨rfl, rfl⟩ | ⟨rfl, rfl⟩ | ⟨rfl, rfl⟩ | ⟨rfl, rfl⟩ | ⟨rfl, rfl⟩
  · exact ⟨.driveCount, rfl, needs_drive⟩
  · exact ⟨.mainFeeder, rfl, needs_needOne⟩
  · exact ⟨.carrierFeeder, rfl, needs_needOne⟩
  · exact ⟨.printer, rfl, needs_needOne⟩
  · exact ⟨.reader, rfl, needs_needAtMostOne⟩
  · exact ⟨.sealer, rfl, needs_needAtMostOne⟩
  · exact ⟨.gate, rfl, needs_needOne⟩

end

/-! ### The start (R172) -/

section
variable {s : State} {n : SlotNo}

/-- The phase monitor at the start of the line (R136). -/
def startedPhase (m : PhaseMonitor) : PhaseMonitor :=
  if m.state = .lost then { PhaseMonitor.cleared .seeking with restarts := m.restarts, lossCount := m.lossCount } else m

/-- The stop point at the start of the line (R84). -/
def startedStop : StopPoint → StopPoint
  | .met _ _ => .none
  | p => p

theorem phaseLineStart_moved (s : State) : Announces { s with phase := startedPhase s.phase } (phaseLineStart s) := by
  unfold phaseLineStart startedPhase
  split
  next lost =>
    unfold changePhase
    dsimp only
    split
    · exact announces_putCause _ _ _
    · exact (announces_putCause _ _ _).trans (announces_raise _ _)
  · exact Announces.refl s

theorem phaseLineStart_has (s : State) (c : FeedCause) :
    (phaseLineStart s).line.feed.has c = if c = .phase then s.phase.state == .lost || s.line.feed.has .phase else s.line.feed.has c := by
  unfold phaseLineStart
  split
  next lost =>
    have put : ∀ u : State, (putCause .phase (s.phase.afresh .seeking).state.suppresses u).line.feed.has c
        = if c = .phase then true else u.line.feed.has c := fun u => putCause_has .phase c true u
    have told : (changePhase (s.phase.afresh .seeking) none s).line.feed.has c = if c = .phase then true else s.line.feed.has c := by
      unfold changePhase
      dsimp only
      split
      · exact put _
      · exact put { s with phase := s.phase.afresh .seeking }
    rw [told, lost]
    rfl
  next other =>
    have notLost : (s.phase.state == .lost) = false := by simpa using other
    rw [notLost, Bool.false_or]
    split
    next same => rw [same]
    · rfl

theorem bindingLineStart_met {t : StopTarget} {q : Nat} (met : s.binding.stopPoint = .met t q) :
    bindingLineStart s = removeCause .stopPoint { s with binding := { s.binding with stopPoint := .none } } := by
  unfold bindingLineStart
  rw [met]

theorem bindingLineStart_unmet (unmet : startedStop s.binding.stopPoint = s.binding.stopPoint) : bindingLineStart s = s := by
  unfold bindingLineStart
  cases stop : s.binding.stopPoint with
  | met t q =>
    rw [stop] at unmet
    cases unmet
  | _ => rfl

/-- A stop point stays at a start, or is met. -/
theorem startedStop_cases (p : StopPoint) : startedStop p = p ∨ ∃ t q, p = .met t q := by
  cases p with
  | met t q => exact .inr ⟨t, q, rfl⟩
  | _ => exact .inl rfl

theorem bindingLineStart_moved (s : State) : Announces { s with binding := { s.binding with stopPoint := startedStop s.binding.stopPoint } } (bindingLineStart s) := by
  rcases startedStop_cases s.binding.stopPoint with unmet | ⟨t, q, met⟩
  · rw [bindingLineStart_unmet unmet, unmet]
    exact Announces.refl s
  · rw [bindingLineStart_met met, met]
    exact announces_removeCause _ _

theorem bindingLineStart_has (s : State) (c : FeedCause) : (bindingLineStart s).line.feed.has c
    = if c = .stopPoint ∧ startedStop s.binding.stopPoint ≠ s.binding.stopPoint then false else s.line.feed.has c := by
  rcases startedStop_cases s.binding.stopPoint with unmet | ⟨t, q, met⟩
  · rw [bindingLineStart_unmet unmet, if_neg fun h => h.2 unmet]
  · have ends : startedStop s.binding.stopPoint ≠ s.binding.stopPoint := by
      rw [met]
      simp [startedStop]
    rw [bindingLineStart_met met]
    refine (removeCause_has .stopPoint c _).trans ?_
    simp only [ends, ne_eq, not_false_eq_true, and_true]

/-- The line when it starts (R172). -/
def startingLine (startTime : Nat) (l : Line) : Line := { l with
  state := .starting
  fault := none
  laterFaults := 0
  lastLater := none
  driveOrder := .run false
  startTimer := .running (startTime * 1000) }

/-- The two blocks that are told of a start before the line changes. -/
def toldOfStart (s : State) : State := bindingLineStart (phaseLineStart s)

theorem toldOfStart_moved (s : State) : Announces { s with
    phase := startedPhase s.phase
    binding := { s.binding with stopPoint := startedStop s.binding.stopPoint } } (toldOfStart s) := by
  have phase := phaseLineStart_moved s
  have stop := bindingLineStart_moved (phaseLineStart s)
  unfold Announces toldOfStart at *
  rw [stop, phase]

theorem startLine_of (slot : slotWith s .drive = some n) : startLine s
    = changeLine (startingLine s.params.driveStartTime (toldOfStart s).line) { toldOfStart s with
        bus := { s.bus with txQueue := putDriveCommand { slot := n, order := .run } s.bus.txQueue } } := by
  have moved := toldOfStart_moved s
  have slot' : slotWith (toldOfStart s) .drive = some n := (slotWith_congr (by rw [moved]) .drive).trans slot
  have bus : (toldOfStart s).bus = s.bus := by rw [moved]
  have params : (toldOfStart s).params = s.params := by rw [moved]
  change changeLine (startingLine (issueDrive .run (toldOfStart s)).params.driveStartTime (issueDrive .run (toldOfStart s)).line)
    (issueDrive .run (toldOfStart s)) = _
  rw [issueDrive_of slot', bus]
  exact congrArg (fun time => changeLine (startingLine time (toldOfStart s).line) { toldOfStart s with
    bus := { s.bus with txQueue := putDriveCommand { slot := n, order := .run } s.bus.txQueue } }) (congrArg (·.driveStartTime) params)

end

section
variable {s : State} {n : SlotNo}

/-- What a start changes and tells (R84, R136, R172). -/
theorem startLine_moved (slot : slotWith s .drive = some n) :
    startLine s = { s with
        bus := { s.bus with txQueue := putDriveCommand { slot := n, order := .run } s.bus.txQueue }
        binding := { s.binding with stopPoint := startedStop s.binding.stopPoint }
        phase := startedPhase s.phase
        line := { startingLine s.params.driveStartTime s.line with feed := (startLine s).line.feed }
        link := { s.link with notices := (startLine s).link.notices } }
      ∧ (∀ c, (startLine s).line.feed.has c
        = if c = .stopPoint ∧ startedStop s.binding.stopPoint ≠ s.binding.stopPoint then false
          else if c = .phase then s.phase.state == .lost || s.line.feed.has .phase else s.line.feed.has c)
      ∧ Noticed (startLine s) 0 (.line { state := .starting, before := s.line.state, fault := none, laterFaults := 0, lastLater := none, drain := s.line.drain, restarted := s.line.restarted }) := by
  have moved := toldOfStart_moved s
  have binding : (phaseLineStart s).binding = s.binding := by rw [phaseLineStart_moved]
  have has (c : FeedCause) : (toldOfStart s).line.feed.has c
      = if c = .stopPoint ∧ startedStop s.binding.stopPoint ≠ s.binding.stopPoint then false
        else if c = .phase then s.phase.state == .lost || s.line.feed.has .phase else s.line.feed.has c := by
    rw [← phaseLineStart_has, ← binding]
    exact bindingLineStart_has (phaseLineStart s) c
  have line : (toldOfStart s).line = { s.line with feed := (toldOfStart s).line.feed } := by rw [moved]
  have told : lineNotice (toldOfStart s).line.state (startingLine s.params.driveStartTime (toldOfStart s).line)
      = .line { state := .starting, before := s.line.state, fault := none, laterFaults := 0, lastLater := none, drain := s.line.drain, restarted := s.line.restarted } := by
    rw [line]
    rfl
  rw [startLine_of slot]
  unfold Announces at moved
  refine ⟨?_, has, ?_⟩
  · unfold changeLine
    rw [moved]
    rfl
  · rw [← told]
    exact noticed_changeLine _ _

end

/-! ### The rows with a slot of their own -/

section
variable {s : State} {n : SlotNo}

theorem stackerLineUp_count (other : ∀ n, slotsWith s .stacker ≠ [n]) :
    stackerLineUp s = some (configRefusal .stacker (nat1 (slotsWith s .stacker).length)) := by
  unfold stackerLineUp
  split
  next n single => exact absurd single (other n)
  · rfl

/-- The lowest slot that is not upstream of the stacker (R171, order 10). -/
theorem stackerLineUp_lowest (single : slotsWith s .stacker = [n]) (refuses : stackerLineUp s ≠ none) :
    ∃ m, ((m ≠ n ∧ ∃ p, positionOf s m = some p ∧ placeOf s n ≤ p)
        ∧ ∀ k, (k ≠ n ∧ ∃ p, positionOf s k = some p ∧ placeOf s n ≤ p) → m ≤ k)
      ∧ stackerLineUp s = some (configRefusal .stacker (slotByte (some m))) := by
  have check : stackerLineUp s = (notUpstream s n).map fun m => configRefusal .stacker (slotByte (some m)) := by
    unfold stackerLineUp
    rw [single]
  have test (m : SlotNo) : (m != n && (positionOf s m).any fun p => placeOf s n ≤ p) = true
      ↔ m ≠ n ∧ ∃ p, positionOf s m = some p ∧ placeOf s n ≤ p := by
    cases positionOf s m <;> simp
  rw [check] at refuses ⊢
  cases found : notUpstream s n with
  | none => exact absurd (by rw [found]; rfl) refuses
  | some m =>
    obtain ⟨own, least⟩ := find?_allSlots_eq_some_iff.mp found
    refine ⟨m, ⟨(test m).mp own, fun k out => Fin.le_def.mpr (Nat.le_of_not_lt fun less => ?_)⟩, rfl⟩
    exact Bool.false_ne_true ((least k less).symm.trans ((test k).mpr out))

theorem find?_slotsWith {r : Role} (test : SlotNo → Bool) : (slotsWith s r).find? test = allSlots.find? fun m => hasRole s r m && test m := by
  unfold slotsWith
  refine List.find?_filter.trans (congrArg (List.find? · allSlots) (funext fun m => ?_))
  simp

/-- The lowest insert feeder that is not upstream of the carrier feeder (R171, order 6). -/
theorem insertLineUp_lowest (few : (slotsWith s .insertFeeder).length ≤ 8) (refuses : insertLineUp s ≠ none) :
    ∃ m, ((hasRole s .insertFeeder m = true ∧ carrierAt s ≤ placeOf s m)
        ∧ ∀ k, (hasRole s .insertFeeder k = true ∧ carrierAt s ≤ placeOf s k) → m ≤ k)
      ∧ insertLineUp s = some (configRefusal .insertFeeder (slotByte (some m))) := by
  have check : insertLineUp s = ((slotsWith s .insertFeeder).find? fun n => rolePlace s .carrierFeeder ≤ placeOf s n).map fun n =>
      configRefusal .insertFeeder (slotByte (some n)) := if_neg (by unfold roleCount; omega)
  have test (m : SlotNo) : (hasRole s .insertFeeder m && decide (rolePlace s .carrierFeeder ≤ placeOf s m)) = true
      ↔ hasRole s .insertFeeder m = true ∧ carrierAt s ≤ placeOf s m := by
    rw [Bool.and_eq_true, decide_eq_true_iff]
    rfl
  rw [check] at refuses ⊢
  rw [find?_slotsWith] at refuses ⊢
  cases found : allSlots.find? fun m => hasRole s .insertFeeder m && decide (rolePlace s .carrierFeeder ≤ placeOf s m) with
  | none => exact absurd (by rw [found]; rfl) refuses
  | some m =>
    obtain ⟨own, least⟩ := find?_allSlots_eq_some_iff.mp found
    refine ⟨m, ⟨(test m).mp own, fun k out => Fin.le_def.mpr (Nat.le_of_not_lt fun less => ?_)⟩, rfl⟩
    exact Bool.false_ne_true ((least k less).symm.trans ((test k).mpr out))

/-- The first unusable slot of the last row (R171, order 11). -/
theorem unusableDisposer_first {g m d : SlotNo} {stg stm std : Station} (gate : slotWith s .gate = some g) (entryG : stationAt s g = some stg)
    (stacker : slotWith s .stacker = some m) (entryM : stationAt s m = some stm) (drive : slotWith s .drive = some d)
    (entryD : stationAt s d = some std) (refuses : unusableDisposer s ≠ none) :
    ∃ before r after n st, [Role.gate, .stacker, .drive] = before ++ r :: after ∧ slotWith s r = some n ∧ stationAt s n = some st
      ∧ st.usable = false ∧ (∀ q ∈ before, ∃ m other, slotWith s q = some m ∧ stationAt s m = some other ∧ other.usable = true)
      ∧ unusableDisposer s = some (Answer.refuse .station (nat1 (slotNumber n) ++ nat1 st.recorded.code ++ nat1 st.health.code)) := by
  have told {n : SlotNo} {st : Station} (entry : stationAt s n = some st) : Answer.refuse .station (slotByte (some n) ++ conditionBytes (stationAt s n))
      = Answer.refuse .station (nat1 (slotNumber n) ++ nat1 st.recorded.code ++ nat1 st.health.code) := by
    rw [entry]
    rfl
  have check := unusableDisposer_of gate stacker drive
  by_cases usableG : stg.usable = true
  · by_cases usableM : stm.usable = true
    · by_cases usableD : std.usable = true
      · refine absurd ?_ refuses
        rw [check]
        simp [usable_of entryG, usable_of entryM, usable_of entryD, usableG, usableM, usableD]
      · refine ⟨[.gate, .stacker], .drive, [], d, std, rfl, drive, entryD, by simpa using usableD, fun q member => ?_, ?_⟩
        · simp only [List.mem_cons, List.not_mem_nil, or_false] at member
          rcases member with rfl | rfl
          · exact ⟨g, stg, gate, entryG, usableG⟩
          · exact ⟨m, stm, stacker, entryM, usableM⟩
        · rw [check, ← told entryD]
          simp [usable_of entryG, usable_of entryM, usable_of entryD, usableG, usableM, usableD]
    · refine ⟨[.gate], .stacker, [.drive], m, stm, rfl, stacker, entryM, by simpa using usableM, fun q member => ?_, ?_⟩
      · simp only [List.mem_cons, List.not_mem_nil, or_false] at member
        subst member
        exact ⟨g, stg, gate, entryG, usableG⟩
      · rw [check, ← told entryM]
        simp [usable_of entryG, usable_of entryM, usableG, usableM]
  · refine ⟨[], .gate, [.stacker, .drive], g, stg, rfl, gate, entryG, by simpa using usableG, by simp, ?_⟩
    rw [check, ← told entryG]
    simp [usable_of entryG, usableG]

end

/-- Settles O37: each row of the table refuses exactly when it fails after those before it, and a start that
none refuses changes what its steps say. -/
theorem lineStarts : Obligations.LineStarts := by
  refine ⟨fun s => startRefusal_eq_none, fun s number rest requested => ?_⟩
  intro refused place lowest
  have answers {a : Answer} (refuses : startRefusal s = some a) : refused a.result a.data := by
    refine serve_answered requested rfl ?_
    unfold takeLineStart
    rw [show startRefusal (taken rest s) = some a from refuses]
    rfl
  refine ⟨fun a refuses => ⟨startRefusal_result refuses, answers refuses⟩, fun first => ?_, fun row r listed first => ?_, fun first => ?_,
    fun first => ?_, fun starts => ?_⟩
  · obtain ⟨refuses, known⟩ := firstFailing_refuses (by omega) (by omega) first
    have busy : s.line.state ≠ .idle := first.1
    exact answers (known.trans (if_neg busy))
  · by_cases stacker : row = 10
    · subst stacker
      have which : r = .stacker := by simpa using listed
      subst which
      obtain ⟨refuses, known⟩ := firstFailing_refuses (by omega) (by omega) first
      refine ⟨fun other => answers (known.trans (stackerLineUp_count other)), fun n single => ⟨fun _ not => absurd rfl not, fun five => absurd five (by omega), fun _ => ?_⟩⟩
      obtain ⟨m, least, refusal⟩ := stackerLineUp_lowest single refuses
      exact ⟨m, least, answers (known.trans refusal)⟩
    · have short : (row, r) ∈ [(2, Role.drive), (3, .mainFeeder), (4, .carrierFeeder), (5, .printer), (7, .reader), (8, .sealer), (9, .gate)] := by
        simpa [stacker] using listed
      have bounds : 1 ≤ row ∧ row ≤ 11 := by
        simp only [List.mem_cons, Prod.mk.injEq, List.not_mem_nil, or_false] at short
        omega
      obtain ⟨refuses, known⟩ := firstFailing_refuses bounds.1 bounds.2 first
      obtain ⟨k, code, single, count⟩ := needs_row (s := s) short
      refine ⟨fun other => ?_, fun n own => ⟨fun notFive _ => ?_, fun five => ?_, fun ten => absurd ten stacker⟩⟩
      · rw [← code]
        exact answers (known.trans (count other refuses))
      · have refusal := answers (known.trans (single n own refuses))
        simp only [if_neg notFive, List.append_nil] at refusal
        rw [← code]
        exact refusal
      · have refusal := answers (known.trans (single n own refuses))
        have four : k.code = 4 := by omega
        simp only [if_pos five] at refusal
        unfold configRefusal Answer.refuse at refusal
        rw [four] at refusal
        exact refusal
  · obtain ⟨refuses, known⟩ := firstFailing_refuses (by omega) (by omega) first
    refine ⟨fun many => answers (known.trans (if_pos many)), fun few => ?_⟩
    obtain ⟨m, least, refusal⟩ := insertLineUp_lowest few refuses
    exact ⟨m, least, answers (known.trans refusal)⟩
  · obtain ⟨refuses, known⟩ := firstFailing_refuses (by omega) (by omega) first
    obtain ⟨d, std, drive, entryD⟩ := slotWith_of_row (r := .drive) (first.2 2 (by omega)) (by simp)
    obtain ⟨g, stg, gate, entryG⟩ := slotWith_of_row (r := .gate) (first.2 9 (by omega)) (by simp)
    obtain ⟨m, stm, stacker, entryM⟩ := slotWith_of_row (r := .stacker) (first.2 10 (by omega)) (by simp)
    obtain ⟨before, r, after, n, st, split, slot, entry, unusable, usables, refusal⟩ :=
      unusableDisposer_first gate entryG stacker entryM drive entryD refuses
    exact ⟨before, r, after, n, st, split, slot, entry, unusable, usables, answers (known.trans refusal)⟩
  · have lined := startRefusal_eq_none.mp starts
    obtain ⟨n, -, drive, -⟩ := slotWith_of_row (r := .drive) (lined 2) (by simp)
    have taken' : takeLineStart (taken rest s) = (Answer.refuse .ok [], startLine (taken rest s)) := by
      unfold takeLineStart
      rw [show startRefusal (taken rest s) = none from starts]
      rfl
    refine ⟨startLine (taken rest s), n, serve_answered requested rfl taken', drive, ?_⟩
    obtain ⟨foot, feed, notice⟩ := startLine_moved (s := taken rest s) drive
    have stays (c : FeedCause) : (startLine (taken rest s)).line.feed.has c
        = if c = .stopPoint ∧ startedStop s.binding.stopPoint ≠ s.binding.stopPoint then false
          else if c = .phase then s.phase.state == .lost || s.line.feed.has .phase else s.line.feed.has c := feed c
    refine ⟨?_, fun c notStop notPhase => ?_, ?_, ?_, notice⟩
    · refine foot.trans ?_
      rw [show (taken rest s).binding.stopPoint = s.binding.stopPoint from rfl]
      cases s.binding.stopPoint <;> rfl
    · rw [stays, if_neg fun h => notStop h.1, if_neg notPhase]
    · rw [stays, if_neg (by simp), if_pos rfl]
    · rw [stays]
      cases s.binding.stopPoint <;> simp [startedStop]

end Sys2Proof.Machine
end

section
/-! PARAM_SET (O41) and the requests to binding (O42). -/

namespace Sys2Proof.Machine

/-! ### The parameters by their numbers (12.5) -/

/-- The number of a parameter (12.5). -/
def Param.number (k : Param) : Nat := k.ctorIdx + 1

theorem paramOf_number (p : Param) : paramOf p.number = some p := by cases p <;> rfl

theorem paramValues_number (p : Param) (ps : Params) : (paramValues ps)[p.number - 1]? = some (p.value ps) := by cases p <;> rfl

theorem paramValues_assign (p : Param) (v : Nat) (ps : Params) : paramValues (p.assign v ps) = (paramValues ps).set (p.number - 1) v := by
  cases p <;> rfl

/-- Every number of 1 to 20 is a parameter's. -/
theorem exists_number {k : Nat} (low : 1 ≤ k) (high : k ≤ 20) : ∃ p : Param, p.number = k := by
  have numbers : ∀ i : Fin 20, ∃ p ∈ Param.all, p.number = i.val + 1 := by decide
  obtain ⟨p, -, number⟩ := numbers ⟨k - 1, by omega⟩
  exact ⟨p, number.trans (by simp; omega)⟩

theorem paramOf_outside {k : Nat} (outside : k = 0 ∨ 20 < k) : paramOf k = none := by
  unfold paramOf
  split
  · rfl
  next positive =>
    have beyond : Param.all.length ≤ k - 1 := by
      change 20 ≤ k - 1
      omega
    exact List.getElem?_eq_none beyond

/-- The ranges of the parameters, in number order (12.5). -/
def paramRanges (ps : Params) : List (Nat × Nat) :=
  [(0, 255), (0, 3), (0, 63), (4, 16), (1, ps.stepWindow), (0, 1), (0, 1), (0, 1), (1, 8), (1, 999), (0, 1), (16, 1024), (1, 500), (100, 40000),
    (0, 50), (1, 64), (1000, 100000), (1, 30), (1, 60), (0, 1)]

theorem paramRanges_number (p : Param) (ps : Params) : (paramRanges ps)[p.number - 1]? = some (p.bounds ps) := by cases p <;> rfl

theorem chainLength_number (p : Param) : p = .chainLength ↔ p.number = 12 := by cases p <;> decide

theorem admits_iff (p : Param) (ps : Params) (v : Nat) :
    p.admits ps v = true ↔ ((p.bounds ps).1 ≤ v ∧ v ≤ (p.bounds ps).2) ∨ (p.number = 12 ∧ v = 0) := by
  unfold Param.admits
  rw [Bool.or_eq_true, Bool.and_eq_true, Bool.and_eq_true, decide_eq_true_iff, decide_eq_true_iff, beq_iff_eq, beq_iff_eq, chainLength_number]

theorem idleOnly_iff (p : Param) : p.idleOnly = true ↔ p.number ∈ [4, 5, 6, 7, 12] := by cases p <;> decide

theorem bytes_number (p : Param) (v : Nat) :
    p.bytes v = if p.number = 17 then nat4 v else if p.number ∈ [10, 12, 13, 14] then nat2 v else nat1 v := by
  cases p <;> rfl

/-! ### The refusals of the owning chapters (R37, R122, R166) -/

section
variable {s : State} {p : Param} {v : Nat}

/-- The count of an open bundle with the stack in flight. -/
theorem bundleItems_open {b : OpenBundle} (bundle : s.bundles.bundle = some b) :
    bundleItems s = b.items + if s.bundles.inFlight.isSome then 1 else 0 := by
  unfold bundleItems
  rw [bundle]
  rfl

theorem bundleWeight_open {b : OpenBundle} (bundle : s.bundles.bundle = some b) : bundleWeight s = b.weight + inFlightWeight s := by
  unfold bundleWeight
  rw [bundle]
  rfl

/-- The refusal of an owning chapter, condition by condition. -/
def Clashes (s : State) (p : Param) (v : Nat) (result : ResultCode) (data : List Byte) : Prop :=
  (p = .remakeLimit ∧ 0 < remakesAbove s v ∧ result = .inUse ∧ data = nat1 (remakesAbove s v))
    ∨ (p = .stepWindow ∧ v < s.params.stepThreshold ∧ result = .field ∧ data = [0, 2])
    ∨ ∃ b, s.bundles.bundle = some b ∧ result = .inUse
      ∧ ((p = .bundleMaxItems ∧ v < bundleItems s ∧ data = nat2 (bundleItems s))
        ∨ (p = .bundleMaxWeight ∧ 2 ≤ bundleItems s ∧ v < bundleWeight s ∧ data = nat4 (bundleWeight s)))

theorem ownerRefusal_of_clashes {result : ResultCode} {data : List Byte} (clash : Clashes s p v result data) :
    ownerRefusal p v s = some (Answer.refuse result data) := by
  rcases clash with ⟨rfl, some', rfl, rfl⟩ | ⟨rfl, less, rfl, rfl⟩ | ⟨b, bundle, rfl, ⟨rfl, less, rfl⟩ | ⟨rfl, items, less, rfl⟩⟩
  · exact if_pos some'
  · exact if_pos less
  · exact if_pos ⟨by rw [bundle]; rfl, less⟩
  · exact if_pos ⟨by rw [bundle]; rfl, items, less⟩

theorem clashes_of_ownerRefusal {a : Answer} (refuses : ownerRefusal p v s = some a) : Clashes s p v a.result a.data := by
  cases p with
  | remakeLimit =>
    obtain ⟨some', ⟨⟩⟩ := Option.ite_none_right_eq_some.mp refuses
    exact .inl ⟨rfl, some', rfl, rfl⟩
  | stepWindow =>
    obtain ⟨less, ⟨⟩⟩ := Option.ite_none_right_eq_some.mp refuses
    exact .inr (.inl ⟨rfl, less, rfl, rfl⟩)
  | bundleMaxItems =>
    obtain ⟨⟨opened, less⟩, ⟨⟩⟩ := Option.ite_none_right_eq_some.mp refuses
    obtain ⟨b, bundle⟩ := Option.isSome_iff_exists.mp opened
    exact .inr (.inr ⟨b, bundle, rfl, .inl ⟨rfl, less, rfl⟩⟩)
  | bundleMaxWeight =>
    obtain ⟨⟨opened, items, less⟩, ⟨⟩⟩ := Option.ite_none_right_eq_some.mp refuses
    obtain ⟨b, bundle⟩ := Option.isSome_iff_exists.mp opened
    exact .inr (.inr ⟨b, bundle, rfl, .inr ⟨rfl, items, less, rfl⟩⟩)
  | _ => cases refuses

theorem inFlightWeight_eq (s : State) : inFlightWeight s
    = (((s.bundles.inFlight.bind fun f => (s.track.cells.find? (·.tag == f.tag)).bind (·.record)).map fun x : Record =>
      (s.versions[x.version].definition.map (·.weight)).getD 0).getD 0) := by
  unfold inFlightWeight
  cases s.bundles.inFlight with
  | none => rfl
  | some f =>
    dsimp only [Option.bind_some]
    cases (s.track.cells.find? (·.tag == f.tag)).bind (·.record) <;> rfl

end

/-! ### The change (R118, R122, R127) -/

section
variable {s : State} {v : Nat}

theorem paramEffect_stepAuto : paramEffect .stepAuto v s = if v = 1 then stepAutoExit s else s := rfl

/-- The four parameters with an effect of their own. -/
theorem paramEffect_plain {p : Param} (window : p.number ≠ 4) (auto : p.number ≠ 8) (chain : p.number ≠ 12) : paramEffect p v s = s := by
  cases p with
  | stepWindow => exact absurd rfl window
  | stepAuto => exact absurd rfl auto
  | chainLength => exact absurd rfl chain
  | _ => rfl

theorem changePhase_moved (m : PhaseMonitor) (struck : Option (Nat × Nat)) (s : State) :
    Announces { s with phase := m } (changePhase m struck s) := by
  unfold changePhase
  dsimp only
  split
  · exact announces_putCause _ _ _
  · exact (announces_putCause _ _ _).trans (announces_raise _ _)

theorem changePhase_has (m : PhaseMonitor) (struck : Option (Nat × Nat)) (s : State) (c : FeedCause) :
    (changePhase m struck s).line.feed.has c = if c = .phase then m.state.suppresses else s.line.feed.has c := by
  unfold changePhase
  dsimp only
  split
  · exact putCause_has .phase c _ _
  · exact putCause_has .phase c _ { s with phase := m }

theorem leaveOutOfStep_has (s : State) (c : FeedCause) :
    (leaveOutOfStep s).line.feed.has c = if c = .step then false else s.line.feed.has c := removeCause_has .step c s

end

section
variable {s : State} {number : Byte} {value : Nat} {rest : List RxEntry} {p : Param}

theorem takeParamSet_known (p : Param) (value : Nat) (s : State) : takeParamSet p.number value s =
    if p.admits s.params value = false then (Answer.field 2, s)
    else if p.idleOnly = true ∧ s.line.state ≠ .idle then (Answer.refuse .state [], s)
    else (ownerRefusal p value s).elim (Answer.ok (p.bytes (p.value s.params) ++ p.bytes value), setParam p value s) fun a => (a, s) := by
  unfold takeParamSet
  rw [paramOf_number]
  dsimp only
  cases ownerRefusal p value s <;> rfl

/-- A value that nothing speaks against is taken (R198). -/
theorem paramSet_ok (requested : Requested s number (.paramSet p.number value) rest) (admits : p.admits s.params value = true)
    (idle : p.idleOnly = true → s.line.state = .idle) (allowed : ownerRefusal p value s = none) :
    exec .paramSet s = .next (withReply number (.paramSet p.number value) .ok (p.bytes (p.value s.params) ++ p.bytes value)
      (setParam p value (taken rest s))) := by
  refine serve_answered requested rfl ((takeParamSet_known p value (taken rest s)).trans ?_)
  rw [if_neg (by rw [show (taken rest s).params = s.params from rfl, admits]; simp), if_neg fun h => h.2 (idle h.1),
    show ownerRefusal p value (taken rest s) = none from allowed]
  rfl

theorem paramSet_field (requested : Requested s number (.paramSet p.number value) rest) (outside : p.admits s.params value = false) :
    exec .paramSet s = .next (withReply number (.paramSet p.number value) .field [0, 2] (taken rest s)) :=
  serve_answered requested rfl ((takeParamSet_known p value (taken rest s)).trans (if_pos outside))

theorem paramSet_state (requested : Requested s number (.paramSet p.number value) rest) (admits : p.admits s.params value = true)
    (idleOnly : p.idleOnly = true) (busy : s.line.state ≠ .idle) :
    exec .paramSet s = .next (withReply number (.paramSet p.number value) .state [] (taken rest s)) := by
  refine serve_answered requested rfl ((takeParamSet_known p value (taken rest s)).trans ?_)
  rw [if_neg (by rw [show (taken rest s).params = s.params from rfl, admits]; simp)]
  exact if_pos ⟨idleOnly, busy⟩

theorem paramSet_owner {result : ResultCode} {data : List Byte} (requested : Requested s number (.paramSet p.number value) rest)
    (admits : p.admits s.params value = true) (idle : p.idleOnly = true → s.line.state = .idle)
    (refuses : ownerRefusal p value s = some (Answer.refuse result data)) :
    exec .paramSet s = .next (withReply number (.paramSet p.number value) result data (taken rest s)) := by
  refine serve_answered requested rfl ((takeParamSet_known p value (taken rest s)).trans ?_)
  rw [if_neg (by rw [show (taken rest s).params = s.params from rfl, admits]; simp), if_neg fun h => h.2 (idle h.1),
    show ownerRefusal p value (taken rest s) = some (Answer.refuse result data) from refuses]
  rfl

theorem number_eq {q : Param} : p.number = q.number ↔ p = q := by
  refine ⟨fun same => ?_, fun same => same ▸ rfl⟩
  exact Option.some.inj ((paramOf_number p).symm.trans ((congrArg paramOf same).trans (paramOf_number q)))

end

/-- Settles O41: the parameter with a number has the range and the bytes of its place in the lists, and the
owning chapters refuse in their own terms. -/
theorem parameterSet : Obligations.ParameterSet := by
  intro s number k value rest r requested ranges refused
  refine ⟨fun outside => ?_, fun old low high positive known range => ?_⟩
  · refine serve_answered requested rfl ?_
    unfold takeParamSet
    rw [paramOf_outside outside]
    rfl
  · intro within idleOnly bytes above remakes flying flyingWeight clash
    have inside : k - 1 < 20 := (List.getElem?_eq_some_iff.mp known).1
    obtain ⟨p, rfl⟩ := exists_number positive (by omega : k ≤ 20)
    have oldIs : old = p.value s.params := Option.some.inj (known.symm.trans (paramValues_number p s.params))
    have rangeIs : (low, high) = p.bounds s.params := Option.some.inj (range.symm.trans (paramRanges_number p s.params))
    have admits : within ↔ p.admits s.params value = true := by
      rw [admits_iff, ← rangeIs]
    have idles : idleOnly ↔ p.idleOnly = true := (idleOnly_iff p).symm
    have inBytes (v : Nat) : p.bytes v = bytes v := bytes_number p v
    have weight : flyingWeight = inFlightWeight s := by
      rw [inFlightWeight_eq]
      dsimp only [flyingWeight]
      cases s.bundles.inFlight.bind fun f => (s.track.cells.find? (·.tag == f.tag)).bind (·.record) <;> rfl
    have clashes (result : ResultCode) (data : List Byte) : clash result data ↔ Clashes s p value result data := by
      have remakeLimit : p.number = 2 ↔ p = .remakeLimit := number_eq (q := .remakeLimit)
      have stepWindow : p.number = 4 ↔ p = .stepWindow := number_eq (q := .stepWindow)
      have maxItems : p.number = 13 ↔ p = .bundleMaxItems := number_eq (q := .bundleMaxItems)
      have maxWeight : p.number = 14 ↔ p = .bundleMaxWeight := number_eq (q := .bundleMaxWeight)
      dsimp only [clash]
      unfold Clashes
      rw [remakeLimit, stepWindow, maxItems, maxWeight, weight]
      refine or_congr Iff.rfl (or_congr Iff.rfl (exists_congr fun b => and_congr_right fun bundle => ?_))
      rw [bundleItems_open bundle, bundleWeight_open bundle]
    have owner : (∀ result data, ¬ clash result data) → ownerRefusal p value s = none := by
      intro free
      by_contra refuses
      obtain ⟨a, refuses⟩ := Option.ne_none_iff_exists'.mp refuses
      exact free _ _ ((clashes _ _).mpr (clashes_of_ownerRefusal refuses))
    refine ⟨p.assign value s.params, paramValues_assign p value s.params, ?_⟩
    intro set ok proves
    refine ⟨fun outside => ?_, fun inside idle busy => ?_, fun inside idle => ⟨fun result data conflict => ?_, fun free => ?_⟩⟩
    · exact paramSet_field requested (by rw [admits] at outside; simpa using outside)
    · exact paramSet_state requested (admits.mp inside) (idles.mp idle) busy
    · exact paramSet_owner requested (admits.mp inside) (fun only => idle (idles.mpr only))
        (ownerRefusal_of_clashes ((clashes result data).mp conflict))
    · have taken' : ok (setParam p value (taken rest s)) := by
        have reply := paramSet_ok requested (admits.mp inside) (fun only => idle (idles.mpr only)) (owner free)
        rw [inBytes, inBytes, ← oldIs] at reply
        exact reply
      refine ⟨fun notWindow notChain notProves => ?_, fun window => ?_, fun auto proves => ?_, fun chain => ?_⟩
      · by_cases auto : p.number = 8
        · cases (number_eq (q := .stepAuto)).mp auto
          have same : setParam .stepAuto value (taken rest s) = set := by
            change paramEffect .stepAuto value set = set
            rw [paramEffect_stepAuto]
            split
            next one => exact if_neg fun ⟨_, out, empty⟩ => notProves ⟨rfl, one, out, empty⟩
            · rfl
          rw [same] at taken'
          exact taken'
        · have same : setParam p value (taken rest s) = set := paramEffect_plain notWindow auto notChain
          rw [same] at taken'
          exact taken'
      · cases (number_eq (q := .stepWindow)).mp window
        exact taken'
      · cases (number_eq (q := .stepAuto)).mp auto
        obtain ⟨one, out, empty⟩ := proves
        have same : setParam .stepAuto value (taken rest s) = stepAutoExit set := if_pos one
        have leaves : set.params.stepAuto = 1 ∧ set.step.state = .outOfStep ∧ set.step.lost = [] := ⟨one, out, empty⟩
        have exits : stepAutoExit set = leaveOutOfStep set := if_pos leaves
        rw [same] at taken'
        refine ⟨stepAutoExit set, taken', stepAutoExit_taken leaves, announces_stepAutoExit set, fun c other => ?_⟩
        rw [exits, leaveOutOfStep_has, if_neg other]
        rfl
      · cases (number_eq (q := .chainLength)).mp chain
        have moved := changePhase_moved (s.phase.afresh (phaseStateAtStart value)) none set
        refine ⟨changePhase (s.phase.afresh (phaseStateAtStart value)) none set, taken', ?_, ?_, fun c => ?_⟩
        · rw [moved]
          rfl
        · rw [moved]
          rfl
        · refine (changePhase_has (s.phase.afresh (phaseStateAtStart value)) none set c).trans ?_
          have suppresses : (s.phase.afresh (phaseStateAtStart value)).state.suppresses = decide (value ≠ 0) := by
            unfold PhaseMonitor.afresh PhaseMonitor.cleared phaseStateAtStart
            by_cases zero : value = 0 <;> simp [zero, PhaseState.suppresses]
          rw [suppresses]
          rfl

/-! ### The requests to binding (R83 to R85) -/

/-- Settles O42. -/
theorem bindingRequests : Obligations.BindingRequests := by
  refine ⟨fun s number rest => ?_, fun s number rest requested => ⟨fun pending => ?_, fun free => ?_⟩⟩
  · intro now before
    refine ⟨fun n positive requested => ?_, fun n requested => serve_answered requested rfl rfl, fun k n kind requested => ?_,
      fun requested => serve_answered requested rfl rfl, fun requested => serve_answered requested rfl rfl⟩
    · have target : targetOf 1 n = .ok (.sequence n) := if_neg positive
      refine serve_answered requested rfl ?_
      unfold takeStopPointSet
      rw [target]
      rfl
    · have target : targetOf k n = .error 1 := by
        rcases k with _ | _ | _ | more
        · rfl
        · omega
        · omega
        · rfl
      refine serve_answered requested rfl ?_
      unfold takeStopPointSet
      rw [target]
      rfl
  · exact serve_answered requested rfl (if_pos pending)
  · exact serve_answered requested rfl (if_neg (by rw [show (taken rest s).binding.proofPending = false from free]; simp))

end Sys2Proof.Machine
end

section
/-! The step monitor: RESTEP, a step loss and the lost list (O44), and the taking of a read (O45). -/

namespace Sys2Proof.Machine

section
variable {s : State} {r : Nat}

theorem upToReader_of (reader : readerPosition s = some r) : upToReader s = r + 1 := by
  unfold upToReader
  rw [reader]

/-! ### Leaving OUT_OF_STEP (R118, R119) -/

theorem leaveOutOfStep_eq (s : State) : leaveOutOfStep s = { s with
    step := { s.step with state := .proving, provingCount := 0 }
    line := { s.line with feed := (leaveOutOfStep s).line.feed }
    link := { s.link with notices := (leaveOutOfStep s).link.notices } } := by
  have removed := announces_removeCause .step s
  unfold Announces at removed
  unfold leaveOutOfStep changeStep raise
  rw [removed]

theorem noticed_leaveOutOfStep (s : State) :
    Noticed (leaveOutOfStep s) 2 (stepNotice { s.step with state := .proving, provingCount := 0 } none none) :=
  noticed_raise (stepNotice { s.step with state := .proving, provingCount := 0 } none none) _

/-! ### A step loss (R116, R118) -/

/-- The monitor that a loss leaves OUT_OF_STEP, before the test of R118. -/
def lossMonitor (conditions : List StepCondition) (lost : List Tag) (m : StepMonitor) : StepMonitor := { m with
  state := .outOfStep
  window := []
  slipCount := 0
  provingCount := 0
  lost := lost
  lossCount := min 65535 (m.lossCount + 1)
  conditions := conditions }

/-- The tags of the cells that a loss strikes, downstream first. -/
def struckTags (near : List Cell) : List Tag :=
  (near.filter fun c => c.content == .bound || (c.content == .offered && c.offerMark == none)).reverse.map (·.tag)

theorem struckTags_eq (near : List Cell) : ((near.filter Cell.struckByLoss).map (·.tag)).reverse = struckTags near := by
  have same : (fun c : Cell => c.content == .bound || (c.content == .offered && c.offerMark == none)) = Cell.struckByLoss := by
    funext c
    unfold Cell.struckByLoss
    cases c.offerMark <;> rfl
  unfold struckTags
  rw [same, List.map_reverse]

/-- The cells after a loss up to a position. -/
def struckCells (reach : Nat) (cells : List Cell) : List Cell :=
  (cells.take reach).map (Cell.takeLoss { kind := .stepLost, station := none }) ++ cells.drop reach

theorem struckCells_get (reach p : Nat) (cells : List Cell) : (struckCells reach cells)[p]?
    = cells[p]?.map fun c => if p < reach then c.takeLoss { kind := .stepLost, station := none } else c := by
  unfold struckCells
  by_cases near : p < reach
  · simp only [near, if_true]
    by_cases inside : p < cells.length
    · rw [List.getElem?_append_left (by simp; omega), List.getElem?_map, List.getElem?_take_of_lt near]
    · rw [List.getElem?_eq_none (by simp; omega), List.getElem?_eq_none (by omega)]
      rfl
  · simp only [near, if_false, Option.map_id']
    by_cases within : reach ≤ cells.length
    · rw [List.getElem?_append_right (by simp; omega), List.getElem?_drop]
      congr 1
      simp
      omega
    · rw [List.getElem?_eq_none (by simp; omega), List.getElem?_eq_none (by omega)]

theorem struckCells_length (reach : Nat) (cells : List Cell) : (struckCells reach cells).length = cells.length := by
  unfold struckCells
  simp
  omega

/-- The state of a loss, before the test of R118. -/
def lossState (conditions : List StepCondition) (evidence : Option StepEvidence) (s : State) : State :=
  let m := lossMonitor conditions (struckTags (s.track.cells.take (upToReader s))) s.step
  raise (stepNotice m (some (struckCounts (s.track.cells.take (upToReader s)))) evidence)
    (addCause .step { s with track := { s.track with cells := struckCells (upToReader s) s.track.cells }, step := m })

theorem enterOutOfStep_eq (conditions : List StepCondition) (evidence : Option StepEvidence) (s : State) :
    enterOutOfStep conditions evidence s = stepAutoExit (lossState conditions evidence s) := by
  unfold enterOutOfStep lossState lossMonitor
  dsimp only
  rw [struckTags_eq]
  rfl

theorem lossState_moved (conditions : List StepCondition) (evidence : Option StepEvidence) (s : State) :
    Announces { s with
        track := { s.track with cells := struckCells (upToReader s) s.track.cells }
        step := lossMonitor conditions (struckTags (s.track.cells.take (upToReader s))) s.step } (lossState conditions evidence s) :=
  (announces_addCause .step _).trans (announces_raise _ _)

theorem lossState_has (conditions : List StepCondition) (evidence : Option StepEvidence) (s : State) (c : FeedCause) :
    (lossState conditions evidence s).line.feed.has c = if c = .step then true else s.line.feed.has c := addCause_has .step c _

/-- What a loss does, with the test of R118 at its end. -/
theorem enterOutOfStep_moved (conditions : List StepCondition) (evidence : Option StepEvidence) (s : State) :
    let t := enterOutOfStep conditions evidence s
    let lost := struckTags (s.track.cells.take (upToReader s))
    let m := lossMonitor conditions lost s.step
    let through : Prop := s.params.stepAuto = 1 ∧ lost = []
    t = { s with
        track := { s.track with cells := struckCells (upToReader s) s.track.cells }
        step := t.step
        line := { s.line with feed := t.line.feed }
        link := { s.link with notices := t.link.notices } }
      ∧ (¬ through → t.step = m ∧ ∀ c, t.line.feed.has c = if c = .step then true else s.line.feed.has c)
      ∧ (through → t.step = { m with state := .proving, provingCount := 0 }
        ∧ ∀ c, t.line.feed.has c = if c = .step then false else s.line.feed.has c) := by
  intro t lost m through
  have moved := lossState_moved conditions evidence s
  have has := lossState_has conditions evidence s
  have step : (lossState conditions evidence s).step = m := by rw [moved]
  have params : (lossState conditions evidence s).params = s.params := by rw [moved]
  have whole : t = stepAutoExit (lossState conditions evidence s) := enterOutOfStep_eq conditions evidence s
  generalize lossState conditions evidence s = u at *
  unfold Announces at moved
  by_cases leaves : through
  · have exits : stepAutoExit u = leaveOutOfStep u := if_pos ⟨params ▸ leaves.1, by rw [step]; rfl, by rw [step]; exact leaves.2⟩
    have left := leaveOutOfStep_eq u
    rw [exits] at whole
    refine ⟨?_, fun stays => absurd leaves stays, fun _ => ⟨?_, fun c => ?_⟩⟩
    · rw [whole, left, moved]
    · rw [whole, left, step]
    · rw [whole, leaveOutOfStep_has, has]
      by_cases same : c = .step <;> simp [same]
  · have stays : stepAutoExit u = u := if_neg fun ⟨auto, _, empty⟩ => leaves ⟨params ▸ auto, by rw [step] at empty; exact empty⟩
    rw [stays] at whole
    refine ⟨?_, fun _ => ⟨?_, fun c => ?_⟩, fun h => absurd h leaves⟩
    · rw [whole, moved]
    · rw [whole, step]
    · rw [whole, has]

end

/-- Settles O44: a loss is one change of the monitor and the cells near it, and the test of R118 then ends it at
once or leaves it to the lost list's own changes. -/
theorem restepAndLoss : Obligations.RestepAndLoss := by
  refine ⟨fun s number rest requested => ?_, fun s r reader => ?_, fun s conditions evidence r reader => ?_⟩
  · intro before u
    have answers {a : Answer} {t : State} (rule : takeRestep (taken rest s) = (a, t)) :
        exec .restep s = .next (withReply number .restep a.result a.data t) := serve_answered requested rfl rule
    have step : (taken rest s).step = s.step := rfl
    refine ⟨fun off => ?_, fun out waits => ?_, fun out empty => ?_, fun runs => ?_⟩
    · refine answers (a := Answer.refuse .state before) ?_
      unfold takeRestep
      rw [step, off]
      dsimp only
      rw [← off]
    · refine answers (a := Answer.refuse .busy (before ++ nat1 s.step.lost.length)) ?_
      unfold takeRestep
      rw [step, out]
      dsimp only
      rw [if_neg waits, ← out]
    · refine ⟨leaveOutOfStep u, answers (a := Answer.ok before) ?_, leaveOutOfStep_eq u, leaveOutOfStep_has u⟩
      unfold takeRestep
      rw [step, out]
      dsimp only
      rw [if_pos empty, ← out]
    · refine answers (a := Answer.ok before) ?_
      unfold takeRestep
      rw [step]
      rcases runs with state | state <;> rw [state] <;> dsimp only <;> rw [← state]
  · intro near kept through t
    have filtered : (s.step.lost.filter (((s.track.cells.take (upToReader s)).map (·.tag)).contains ·)) = kept := by
      rw [upToReader_of reader]
      exact List.filter_congr fun x _ => List.contains_eq_mem ..
    have whole : t = stepAutoExit { s with step := { s.step with lost := kept } } := by
      rw [← filtered]
      rfl
    refine ⟨fun stays => ?_, fun ⟨auto, out, empty⟩ => ?_⟩
    · exact whole.trans (if_neg stays)
    · have exits : t = leaveOutOfStep { s with step := { s.step with lost := kept } } := whole.trans (if_pos ⟨auto, out, empty⟩)
      have left := leaveOutOfStep_eq { s with step := { s.step with lost := kept } }
      rw [exits]
      refine ⟨?_, leaveOutOfStep_has _, _, noticed_leaveOutOfStep _, rfl, ?_⟩
      · refine left.trans ?_
        rw [empty]
      · change kept.length = 0
        rw [empty]
        rfl
  · intro t k near lost through
    obtain ⟨foot, stays, leaves⟩ := enterOutOfStep_moved conditions evidence s
    rw [upToReader_of reader] at foot stays leaves
    have track : t.track = { s.track with cells := struckCells (r + 1) s.track.cells } := congrArg (·.track) foot
    have cell (p : Nat) : t.track.cells[p]? = s.track.cells[p]?.map fun c => if p < r + 1 then c.takeLoss k else c := by
      rw [track]
      exact struckCells_get (r + 1) p s.track.cells
    refine ⟨?_, ?_, ?_, fun p c close here struck => ?_, fun p c here far => ?_, ?_, fun out => ?_, fun out => ?_⟩
    · refine foot.trans ?_
      rw [track]
    · rw [track]
    · rw [track]
      exact struckCells_length (r + 1) s.track.cells
    · rw [cell, here, Option.map_some, if_pos (by omega)]
      unfold Cell.takeLoss
      rw [if_pos (by simpa using struck)]
    · rw [cell, here, Option.map_some]
      rcases far with beyond | ⟨notBound, notOffered⟩
      · rw [if_neg (by omega)]
      · have kept : c.takeLoss k = c := by
          unfold Cell.takeLoss
          exact if_neg (by simp [notBound, notOffered])
        rw [kept, ite_self]
    · by_cases out : through
      · exact (leaves out).1.trans (by rw [show t.step.state = .proving from congrArg (·.state) (leaves out).1]; rfl)
      · exact (stays out).1.trans (by rw [show t.step.state = .outOfStep from congrArg (·.state) (stays out).1]; rfl)
    · exact ⟨congrArg (·.state) (stays out).1, (stays out).2⟩
    · exact ⟨congrArg (·.state) (leaves out).1, (leaves out).2⟩

end Sys2Proof.Machine
end

section
/-! The step monitor's taking of a read (O45). -/

namespace Sys2Proof.Machine

section
variable {s : State} {o : ReadOutcome} {x : StepEntry} {e : StepEvidence}

/-! ### The entry of an outcome (R113) -/

theorem takeReadOutcome_still (off : s.step.state = .notMonitored ∨ s.step.state = .outOfStep) : takeReadOutcome o e s = s := by
  unfold takeReadOutcome
  rcases off with state | state <;> rw [state]

theorem takeReadOutcome_uncounted (on : s.step.state = .proving ∨ s.step.state = .inStep)
    (nothing : o.entry s.params.stepNoreadCounts = none) :
    takeReadOutcome o e s = { s with step := { s.step with slipCount := o.slipCount s.step.slipCount } } := by
  unfold takeReadOutcome
  rcases on with state | state <;> rw [state] <;> dsimp only <;> rw [nothing]

theorem entry_of_counts {counts : Nat} (counted : o = .noRead → counts = 1) :
    o.entry counts = some (if o = .matched then .pass else .fail) := by
  cases o with
  | matched => rfl
  | mismatch delta => rfl
  | noRead => exact if_pos (counted rfl)

theorem enter_eq (size : Nat) (x : StepEntry) (m : StepMonitor) : m.enter size x = { m with
    window := (m.window ++ [x]).drop (m.window.length + 1 - size)
    blockEntered := m.blockEntered + 1
    blockFailures := m.blockFailures + if x = .fail then 1 else 0 } := by
  unfold StepMonitor.enter newest
  rw [List.length_append]
  cases x <;> rfl

/-! ### The judgement of an entry (R114, R115, R120) -/

/-- The monitor with an outcome entered. -/
def enteredMonitor (o : ReadOutcome) (x : StepEntry) (s : State) : StepMonitor :=
  StepMonitor.enter s.params.stepWindow x { s.step with slipCount := o.slipCount s.step.slipCount }

/-- The state after the entry and its notice. -/
def notedState (o : ReadOutcome) (x : StepEntry) (s : State) : State :=
  noteExcess ((enteredMonitor o x s).exceeds s.params.excessLimit x) { s with step := enteredMonitor o x s }

/-- The conditions that an entry meets. -/
def metConditions (o : ReadOutcome) (x : StepEntry) (s : State) : List StepCondition :=
  lossConditions s.params (enteredMonitor o x s) x ((enteredMonitor o x s).exceeds s.params.excessLimit x)

theorem notedState_step (o : ReadOutcome) (x : StepEntry) (s : State) :
    (notedState o x s).step.state = s.step.state ∧ (notedState o x s).step.lossCount = s.step.lossCount
      ∧ (notedState o x s).step.provingCount = s.step.provingCount ∧ (notedState o x s).params = s.params := by
  unfold notedState noteExcess
  split <;> exact ⟨rfl, rfl, rfl, rfl⟩

theorem takeReadOutcome_enters (on : s.step.state = .proving ∨ s.step.state = .inStep)
    (enters : o.entry s.params.stepNoreadCounts = some x) :
    takeReadOutcome o e s = judgeEntry x e { s with step := enteredMonitor o x s } := by
  unfold takeReadOutcome
  rcases on with state | state <;> rw [state] <;> dsimp only <;> rw [enters] <;> rfl

theorem judgeEntry_entered : judgeEntry x e { s with step := enteredMonitor o x s } = completeBlock
    (if metConditions o x s ≠ [] then enterOutOfStep (metConditions o x s) (some e) (notedState o x s)
    else if s.step.state = .proving then provingPass (notedState o x s)
    else notedState o x s) := by
  rw [← (notedState_step o x s).1]
  rfl

/-- In PROVING a PASS meets no condition. -/
theorem metConditions_provingPass (state : s.step.state = .proving) : metConditions o .pass s = [] := by
  unfold metConditions lossConditions enteredMonitor StepMonitor.exceeds
  simp [enter_eq, state]

theorem changeStep_eq (m : StepMonitor) (s : State) : changeStep m s = { s with
    step := m
    link := { s.link with notices := (changeStep m s).link.notices } } := rfl

theorem provingPass_eq (s : State) : provingPass s =
    if s.params.provingRun ≤ s.step.provingCount + 1 then changeStep { s.step with state := .inStep, provingCount := 0 } s
    else { s with step := { s.step with provingCount := s.step.provingCount + 1 } } := rfl

/-- What a loss leaves in the monitor. -/
theorem enterOutOfStep_step (conditions : List StepCondition) (evidence : Option StepEvidence) (s : State) :
    let t := enterOutOfStep conditions evidence s
    t.step.conditions = conditions ∧ t.step.lossCount = min 65535 (s.step.lossCount + 1)
      ∧ t.step.window = [] ∧ t.step.slipCount = 0 ∧ t.step.provingCount = 0
      ∧ (t.step.state = .outOfStep ∨ (t.step.state = .proving ∧ t.step.lost = [])) := by
  intro t
  obtain ⟨-, stays, leaves⟩ := enterOutOfStep_moved conditions evidence s
  by_cases out : s.params.stepAuto = 1 ∧ struckTags (s.track.cells.take (upToReader s)) = []
  · rw [show t.step = _ from (leaves out).1]
    exact ⟨rfl, rfl, rfl, rfl, rfl, .inr ⟨rfl, out.2⟩⟩
  · rw [show t.step = _ from (stays out).1]
    exact ⟨rfl, rfl, rfl, rfl, rfl, .inl rfl⟩

/-- The completion of a block changes its own numbers alone. -/
theorem completeBlock_step (s : State) : (completeBlock s).step = { s.step with
    blocksCompleted := (completeBlock s).step.blocksCompleted
    blockEntered := (completeBlock s).step.blockEntered
    blockFailures := (completeBlock s).step.blockFailures
    blockNoticeRaised := (completeBlock s).step.blockNoticeRaised } := by
  unfold completeBlock
  split <;> rfl

end

/-- Settles O45: an entry is a record update, its notice, the change that its conditions or its PASS make, and
the completion of the block, one after the other. -/
theorem readEntered : Obligations.ReadEntered := by
  intro s o e t m p slips entry window failures excess entered noted when free loses completed enters
  have slip : o.slipCount m.slipCount = slips := by
    rcases o with _ | (_ | _) | _ <;> rfl
  have enter : enteredMonitor o entry s = { m with
      window := window, slipCount := slips, blockEntered := m.blockEntered + 1, blockFailures := failures } := by
    rw [← slip]
    exact enter_eq ..
  have exceeds : (enteredMonitor o entry s).exceeds p.excessLimit entry = excess := by
    rw [enter]
    rfl
  have isNoted : notedState o entry s = noted := by
    unfold notedState noteExcess
    rw [exceeds, enter]
    by_cases known : excess = true
    · refine (if_pos known).trans (Eq.trans ?_ (if_pos known).symm)
      dsimp only [entered]
      rw [known, Bool.or_true]
    · refine (if_neg known).trans (Eq.trans ?_ (if_neg known).symm)
      dsimp only [entered]
      rw [Bool.not_eq_true _ |>.mp known, Bool.or_false]
  have met : metConditions o entry s = loses := by
    unfold metConditions
    rw [exceeds, enter]
    unfold lossConditions
    simp only [loses, when, free, Bool.and_eq_true, beq_iff_eq, decide_eq_true_eq, and_assoc, and_comm]
    rfl
  obtain ⟨state, count, proving, params⟩ := notedState_step o entry s
  rw [isNoted] at state count proving params
  have judged (on : m.state = .proving ∨ m.state = .inStep) (counted : o = .noRead → p.stepNoreadCounts = 1) :
      t = completed (if loses ≠ [] then enterOutOfStep loses (some e) noted
        else if s.step.state = .proving then provingPass noted else noted) := by
    rw [← met, ← isNoted]
    exact (takeReadOutcome_enters on (entry_of_counts counted)).trans judgeEntry_entered
  have passes (on : m.state = .proving) (matched : o = .matched) : t = completed (provingPass noted) := by
    have pass : entry = .pass := if_pos matched
    have nothing : loses = [] := by
      rw [← met, pass]
      exact metConditions_provingPass on
    rw [judged (.inl on) (by rw [matched]; intro no; cases no), if_neg (not_not_intro nothing)]
    exact congrArg completed (if_pos on)
  refine ⟨takeReadOutcome_still, fun on none uncounted => ?_, fun ⟨on, counted⟩ some => ?_, fun ⟨on, counted⟩ nothing inStep => ?_,
    fun on matched few => ?_, fun on matched enough => ?_⟩
  · subst none
    exact takeReadOutcome_uncounted on (if_neg uncounted)
  · have whole : t = completed (enterOutOfStep loses (.some e) noted) := (judged on counted).trans (by rw [if_pos some])
    have left := enterOutOfStep_step loses (.some e) noted
    rw [count] at left
    refine ⟨whole, ?_⟩
    rw [show t.step = _ from (congrArg (·.step) whole).trans (completeBlock_step _)]
    exact left
  · rw [judged on counted, if_neg (not_not_intro nothing), if_neg (by simp [show s.step.state = .inStep from inStep])]
  · rw [passes on matched, provingPass_eq, params, proving, if_neg (Nat.not_le.mpr few)]
  · have through : provingPass noted = changeStep { noted.step with state := .inStep, provingCount := 0 } noted := by
      rw [provingPass_eq, params, proving]
      exact if_pos enough
    exact ⟨_, (passes on matched).trans (congrArg completed through), changeStep_eq _ noted, _,
      noticed_raise (stepNotice { noted.step with state := .inStep, provingCount := 0 } none none) _, rfl⟩

end Sys2Proof.Machine
end

section
/-! Binding's decision for the new cell (O43). -/

namespace Sys2Proof.Machine

section
variable {s t : State}

/-! ### A counter's cause does not depend on the other causes (R186) -/

theorem announceCounter_has_congr {c : FeedCause} {x : Bool} (before : Vector Counter 8) (i : Fin 8)
    (counters : t.counters = s.counters) (has : t.line.feed.has c = (x || s.line.feed.has c)) :
    (announceCounter before t i).line.feed.has c = (x || (announceCounter before s i).line.feed.has c) := by
  unfold announceCounter
  dsimp only
  rw [counters]
  split
  · split
    · by_cases own : c = .counter i
      · rw [addCause_has, addCause_has, if_pos own, if_pos own, Bool.or_true]
      · rw [addCause_has, addCause_has, if_neg own, if_neg own]
        exact has
    · exact has
  · exact has

theorem announceCounters_has_congr {c : FeedCause} {x : Bool} (before : Vector Counter 8) (l : List (Fin 8))
    (counters : t.counters = s.counters) (has : t.line.feed.has c = (x || s.line.feed.has c)) :
    (l.foldl (announceCounter before) t).line.feed.has c = (x || (l.foldl (announceCounter before) s).line.feed.has c) := by
  induction l generalizing s t with
  | nil => exact has
  | cons i l ih =>
    refine ih ?_ (announceCounter_has_congr before i counters has)
    rw [(announces_announceCounter before t i).counters_eq, (announces_announceCounter before s i).counters_eq, counters]

/-- What an event adds to the causes, it adds whatever they are. -/
theorem tally_has_congr {c : FeedCause} {x : Bool} (e : TallyEvent) (slot : Option SlotNo) (counters : t.counters = s.counters)
    (params : t.params = s.params) (has : t.line.feed.has c = (x || s.line.feed.has c)) :
    (tally e slot t).line.feed.has c = (x || (tally e slot s).line.feed.has c) := by
  unfold tally
  rw [counters, params]
  split
  · exact has
  · exact announceCounters_has_congr _ _ rfl has

/-! ### The tests of the head (R73 to R75) -/

theorem decideNewCell_suppressed (cause : ∃ c, s.line.feed.has c = true) : decideNewCell s = gap s := by
  obtain ⟨c, present⟩ := cause
  have some : s.line.feed.isEmpty = false := by
    cases empty : s.line.feed.isEmpty with
    | false => rfl
    | true =>
      rw [(FeedSet.isEmpty_iff _).mp empty c] at present
      cases present
  unfold decideNewCell
  rw [some]
  rfl

theorem decideNewCell_free (free : ∀ c, s.line.feed.has c = false) :
    decideNewCell s = if s.binding.proofPending then offerProof s else decideHead (strandHeads s) := by
  unfold decideNewCell
  rw [(FeedSet.isEmpty_iff _).mpr free]
  rfl

theorem strandable_iff (last : Option Nat) (r : Record) :
    strandable last r = true ↔ r.kind = .remake ∧ ∃ key, last = some key ∧ r.bundleKey ≠ key := by
  unfold strandable
  cases last <;> simp [ne_comm]

theorem strandHeads_still {head : Record} {behind : List Record} (queue : s.intake.queue = head :: behind)
    (same : ∀ key, head.kind = .remake → s.binding.lastKey = some key → head.bundleKey = key) : strandHeads s = s := by
  have stays : strandable s.binding.lastKey head = false := by
    rw [← Bool.not_eq_true, strandable_iff]
    exact fun ⟨remake, key, last, other⟩ => other (same key remake last)
  unfold strandHeads
  rw [queue, List.takeWhile_cons, stays]
  rfl

theorem strandHeads_nil (queue : s.intake.queue = []) : strandHeads s = s := by
  unfold strandHeads
  rw [queue]
  rfl

/-- The head meets the target of the armed stop point (R74). -/
def Meets (s : State) (head : Record) (target : StopTarget) : Prop :=
  s.binding.stopPoint = .armed target
    ∧ (target = .sequence head.sequence ∨ (target = .versionChange ∧ ∃ v, s.binding.lastVersion = some v ∧ v ≠ head.version))

theorem metBy_iff (last : Option (Fin 32)) (head : Record) (target : StopTarget) : target.metBy last head = true
    ↔ target = .sequence head.sequence ∨ (target = .versionChange ∧ ∃ v, last = some v ∧ v ≠ head.version) := by
  cases target with
  | sequence n =>
    simp only [StopTarget.metBy, beq_iff_eq, StopTarget.sequence.injEq, reduceCtorEq, false_and, or_false]
    exact eq_comm
  | versionChange =>
    unfold StopTarget.metBy
    rw [Option.any_eq_true]
    simp only [bne_iff_ne, reduceCtorEq, false_or, true_and]

theorem stopPointMet_iff (s : State) (head : Record) (target : StopTarget) :
    stopPointMet s head = some target ↔ Meets s head target := by
  unfold stopPointMet Meets
  rw [← metBy_iff]
  cases s.binding.stopPoint with
  | none => simp
  | met _ _ => simp
  | armed t =>
    dsimp only
    rw [Option.ite_none_right_eq_some, Option.some.injEq, StopPoint.armed.injEq]
    constructor
    · rintro ⟨met, rfl⟩
      exact ⟨rfl, met⟩
    · rintro ⟨rfl, met⟩
      exact ⟨met, rfl⟩

theorem keyUpstreamOfGate_iff (s : State) (key : Nat) : keyUpstreamOfGate s key = true ↔ ∃ g, positionWith s .gate = some g
    ∧ ∃ p c r, p ≤ g ∧ s.track.cells[p]? = some c ∧ c.record = some r ∧ r.bundleKey = key
      ∧ (c.content = .offered ∨ c.content = .bound ∨ c.content = .condemned) := by
  unfold keyUpstreamOfGate
  cases positionWith s .gate with
  | none => simp
  | some g =>
    simp only [List.any_eq_true, Bool.and_eq_true, Bool.or_eq_true, beq_iff_eq, Option.any_eq_true, or_assoc, Option.some.injEq]
    constructor
    · rintro ⟨c, near, content, r, record, same⟩
      obtain ⟨p, here⟩ := List.mem_iff_getElem?.mp near
      rw [List.getElem?_take] at here
      split at here
      · exact ⟨g, rfl, p, c, r, by omega, here, record, same, content⟩
      · cases here
    · rintro ⟨_, rfl, p, c, r, before, here, record, same, content⟩
      exact ⟨c, List.mem_iff_getElem?.mpr ⟨p, by rw [List.getElem?_take, if_pos (by omega), here]⟩, content, r, record, same⟩

/-- The key wait leaves a gap for the head (R75). -/
def Waits (s : State) (head : Record) : Prop :=
  s.binding.keyWaitCount < s.params.keyWait ∧ head.kind = .fresh
    ∧ ∃ key g, s.binding.lastKey = some key ∧ head.bundleKey ≠ key ∧ positionWith s .gate = some g
      ∧ ∃ p c r, p ≤ g ∧ s.track.cells[p]? = some c ∧ c.record = some r ∧ r.bundleKey = key
        ∧ (c.content = .offered ∨ c.content = .bound ∨ c.content = .condemned)

theorem keyWait_iff (s : State) (head : Record) :
    (keyWaitHolds s head && decide (s.binding.keyWaitCount < s.params.keyWait)) = true ↔ Waits s head := by
  unfold keyWaitHolds Waits
  cases s.binding.lastKey with
  | none => simp
  | some key =>
    have upstream := keyUpstreamOfGate_iff s key
    simp only [Bool.and_eq_true, decide_eq_true_eq, beq_iff_eq, bne_iff_ne, upstream]
    constructor
    · rintro ⟨⟨⟨-, fresh⟩, other, g, gate, cell⟩, few⟩
      exact ⟨few, fresh, key, g, rfl, other, gate, cell⟩
    · rintro ⟨few, fresh, k, g, ⟨⟩, other, gate, cell⟩
      exact ⟨⟨⟨by omega, fresh⟩, other, g, gate, cell⟩, few⟩

theorem decideHead_met {head : Record} {behind : List Record} {target : StopTarget} (queue : s.intake.queue = head :: behind)
    (met : Meets s head target) : decideHead s = meetStopPoint target head s := by
  unfold decideHead
  rw [queue]
  dsimp only
  rw [(stopPointMet_iff s head target).mpr met]

theorem decideHead_unmet {head : Record} {behind : List Record} (queue : s.intake.queue = head :: behind)
    (unmet : ∀ target, ¬ Meets s head target) : decideHead s =
      if keyWaitHolds s head && s.binding.keyWaitCount < s.params.keyWait then keyWaitGap s else offerHead head s := by
  have no : stopPointMet s head = none := Option.eq_none_iff_forall_ne_some.mpr fun target met =>
    unmet target ((stopPointMet_iff s head target).mp met)
  unfold decideHead
  rw [queue]
  dsimp only
  rw [no]

theorem decideHead_nil (queue : s.intake.queue = []) : decideHead s = gap s := by
  unfold decideHead
  rw [queue]

/-! ### The stop point is met (R74) -/

/-- The state of a met stop point, before its gap is tallied. -/
def stopMetState (target : StopTarget) (head : Record) (s : State) : State :=
  let v := addCause .stopPoint { s with binding := { s.binding with stopPoint := .met target head.sequence } }
  raise (.stopPoint target head.sequence) (if v.line.state = .running then enterDraining .noClose v else v)

theorem meetStopPoint_eq (target : StopTarget) (head : Record) (s : State) :
    meetStopPoint target head s = tally .gaps none (stopMetState target head s) := rfl

theorem stopMetState_moved (target : StopTarget) (head : Record) (s : State) :
    let v := stopMetState target head s
    v = { s with
        binding := { s.binding with stopPoint := .met target head.sequence }
        line := { s.line with state := v.line.state, drain := v.line.drain, feed := v.line.feed }
        link := { s.link with notices := v.link.notices } }
      ∧ (∀ c, v.line.feed.has c = (c == .stopPoint || s.line.feed.has c))
      ∧ (s.line.state = .running → v.line.state = .draining ∧ v.line.drain = .noClose) := by
  intro v
  have moved := announces_addCause .stopPoint { s with binding := { s.binding with stopPoint := .met target head.sequence } }
  have has := fun c => addCause_has .stopPoint c { s with binding := { s.binding with stopPoint := .met target head.sequence } }
  have whole : v = stopMetState target head s := rfl
  unfold stopMetState at whole
  generalize addCause .stopPoint { s with binding := { s.binding with stopPoint := .met target head.sequence } } = w at *
  unfold Announces at moved
  have state : w.line.state = s.line.state := by rw [moved]
  have causes (c : FeedCause) : w.line.feed.has c = (c == .stopPoint || s.line.feed.has c) := by
    rw [has]
    by_cases own : c = .stopPoint <;> simp [own]
  dsimp only at whole
  by_cases running : w.line.state = .running
  · rw [if_pos running] at whole
    refine ⟨?_, ?_, fun _ => ?_⟩
    · rw [whole, moved]
      rfl
    · rw [whole]
      exact causes
    · rw [whole]
      exact ⟨rfl, rfl⟩
  · rw [if_neg running] at whole
    refine ⟨?_, ?_, fun runs => absurd (state.trans runs) running⟩
    · rw [whole, moved]
      rfl
    · rw [whole]
      exact causes

/-! ### A head is stranded (R73, R33) -/

theorem strandHead_moved {head : Record} {behind : List Record} (queue : s.intake.queue = head :: behind) :
    let u := strandHead s head
    u = { s with
        intake := { s.intake with queue := behind }
        versions := released head s
        counters := u.counters
        line := { s.line with feed := u.line.feed }
        link := { s.link with
          reports := s.link.reports ++ [.item (offlineReport head .stranded none head.attempts)]
          notices := u.link.notices } }
      ∧ u.counters = (tally .offlineFinishes none (tally .strands none s)).counters := by
  intro u
  have reported := tallies_queueReport (.item (offlineReport head .stranded none head.attempts))
    (releaseVersion head (setQueue s.intake.queue.tail s))
  have counters : u.counters = (tally .offlineFinishes none (tally .strands none s)).counters :=
    tally_counters_congr _ _ (tally_counters_congr _ _ (queueReport_counters _ _) (queueReport_params _ _))
      ((tally_params _ _ _).trans ((queueReport_params _ _).trans (tally_params .strands none s).symm))
  refine ⟨?_, counters⟩
  have moved : Tallies { s with
      intake := { s.intake with queue := behind }
      versions := released head s
      link := { s.link with reports := s.link.reports ++ [.item (offlineReport head .stranded none head.attempts)] } } u := by
    refine Tallies.trans ?_ ((tallies_tally _ _ _).trans (tallies_tally _ _ _))
    rw [queue] at reported ⊢
    exact reported
  exact moved

theorem strandHeads_step {head : Record} {behind : List Record} {key : Nat} (queue : s.intake.queue = head :: behind)
    (remake : head.kind = .remake) (last : s.binding.lastKey = some key) (other : head.bundleKey ≠ key) :
    strandHeads s = strandHeads (strandHead s head) := by
  have strands : strandable s.binding.lastKey head = true := (strandable_iff _ _).mpr ⟨remake, key, last, other⟩
  have moved := (strandHead_moved queue).1
  have left : (strandHead s head).intake.queue = behind := by rw [moved]
  have binding : (strandHead s head).binding = s.binding := by rw [moved]
  unfold strandHeads
  rw [left, binding, queue, List.takeWhile_cons, strands]
  rfl

end

/-- Settles O43: each of binding's tests is an `↔` about the head, and what follows it is a record update and its
tallies. -/
theorem bindingDecides : Obligations.BindingDecides := by
  refine ⟨fun s new cells track => ?_, fun s head behind key queue remake last other => ?_⟩
  · intro u suppressed placed
    have free (clear : ¬ suppressed) (c : FeedCause) : s.line.feed.has c = false := by
      rw [← Bool.not_eq_true]
      exact fun present => clear ⟨c, present⟩
    have modified (f : Cell → Cell) : modifyCell 0 f s = { s with track := placed (f new) } := by
      unfold modifyCell
      rw [track]
      rfl
    refine ⟨decideNewCell_suppressed, fun clear pending => ?_, fun clear idle empty => ?_, fun head behind clear idle queue same => ?_⟩
    · rw [show u = _ from decideNewCell_free (free clear), if_pos pending]
      exact modified _
    · rw [show u = _ from decideNewCell_free (free clear), idle, if_neg Bool.false_ne_true, strandHeads_nil empty]
      exact decideHead_nil empty
    · have decided : u = decideHead s := by
        rw [show u = _ from decideNewCell_free (free clear), idle, if_neg Bool.false_ne_true, strandHeads_still queue same]
      intro met waits
      refine ⟨fun target meets => ?_, fun unmet wait => ?_, fun unmet passes => ?_⟩
      · obtain ⟨moved, causes, drains⟩ := stopMetState_moved target head s
        rw [decided, decideHead_met queue meets, meetStopPoint_eq]
        have told : Noticed (stopMetState target head s) 7 (.stopPoint target head.sequence) := noticed_raise _ _
        generalize stopMetState target head s = v at *
        have tallied := tallies_tally .gaps none v
        have counters : (tally .gaps none v).counters = (tally .gaps none s).counters :=
          tally_counters_congr _ _ (by rw [moved]) (by rw [moved])
        have has (c : FeedCause) := tally_has_congr (c := c) (t := v) (s := s) .gaps none (by rw [moved]) (by rw [moved]) (causes c)
        have notice : (tally .gaps none v).link.notices[(7 : Fin 33)] = v.link.notices[(7 : Fin 33)] :=
          tally_notice (by decide) (by decide) ..
        unfold Tallies at tallied
        rw [counters] at tallied
        generalize tally .gaps none v = w at *
        have line : w.line = { s.line with state := w.line.state, drain := w.line.drain, feed := w.line.feed } := by
          rw [tallied, moved]
        refine ⟨?_, line, has, fun running => ?_, ?_⟩
        · rw [tallied, moved]
        · rw [tallied]
          exact drains running
        · unfold Noticed at told ⊢
          rw [notice]
          exact told
      · rw [decided, decideHead_unmet queue unmet, if_pos ((keyWait_iff s head).mpr wait)]
        rfl
      · rw [decided, decideHead_unmet queue unmet, if_neg (fun holds => passes ((keyWait_iff s head).mp holds))]
        have queued : s.intake.queue.tail = behind := by rw [queue]; rfl
        unfold offerHead modifyCell setQueue
        dsimp only
        rw [queued, track]
        rfl
  · intro u
    obtain ⟨moved, counters⟩ := strandHead_moved queue
    have steps := strandHeads_step queue remake last other
    refine ⟨moved, counters, steps, fun free idle => ?_⟩
    rw [decideNewCell_free free, idle, if_neg Bool.false_ne_true, steps]

end Sys2Proof.Machine
end

section
/-! BUNDLE_CLOSE (O46). -/

namespace Sys2Proof.Machine

section
variable {s t u : State}

theorem builtState_keeps (s : State) : builtState s.bundles [] s = s := by
  unfold builtState
  rw [List.append_nil]

/-! ### Closures asked for by the host, with or without a thing to close (R154) -/

/-- The builder with no bundle, after a closure for the host. -/
def BundleBuilder.bundleClosed (m : BundleBuilder) : BundleBuilder :=
  { m with bundle := none, bundleSplitKey := (m.bundle.map (·.key)).or m.bundleSplitKey }

/-- The builder with no tray, after a closure for the host. -/
def BundleBuilder.trayClosed (m : BundleBuilder) : BundleBuilder :=
  { m with tray := none, traySplitKey := (m.tray.map (·.key)).or m.traySplitKey }

theorem closeBundle_asked (s : State) :
    Tallies (builtState s.bundles.bundleClosed (s.bundles.bundle.toList.map hostBundle) s) (closeBundle .host s)
      ∧ (closeBundle .host s).counters = if s.bundles.bundle.isSome then (tally .bundlesClosed none s).counters else s.counters := by
  unfold BundleBuilder.bundleClosed
  cases bundle : s.bundles.bundle with
  | none =>
    have built := builtState_keeps s
    rw [closeBundle_none bundle]
    refine ⟨?_, rfl⟩
    change Tallies (builtState { s.bundles with bundle := none } [] s) s
    rw [← bundle, built]
    exact Tallies.refl s
  | some b => exact closeBundle_host bundle

theorem closeTray_asked (s : State) :
    Tallies (builtState s.bundles.trayClosed (s.bundles.tray.toList.map hostTray) s) (closeTray .host s)
      ∧ (closeTray .host s).counters = s.counters := by
  unfold BundleBuilder.trayClosed
  cases tray : s.bundles.tray with
  | none =>
    have built := builtState_keeps s
    rw [closeTray_none tray]
    refine ⟨?_, rfl⟩
    change Tallies (builtState { s.bundles with tray := none } [] s) s
    rw [← tray, built]
    exact Tallies.refl s
  | some y => exact closeTray_host tray

theorem closeBoth_asked (s : State) :
    Tallies (builtState s.bundles.bundleClosed.trayClosed
        (s.bundles.bundle.toList.map hostBundle ++ s.bundles.tray.toList.map hostTray) s) (closeTray .host (closeBundle .host s))
      ∧ (closeTray .host (closeBundle .host s)).counters
        = if s.bundles.bundle.isSome then (tally .bundlesClosed none s).counters else s.counters := by
  obtain ⟨bundle, counters⟩ := closeBundle_asked s
  obtain ⟨tray, same⟩ := closeTray_asked (closeBundle .host s)
  refine ⟨?_, same.trans counters⟩
  generalize closeBundle .host s = v at *
  have left : v.bundles = s.bundles.bundleClosed := by rw [bundle]; rfl
  rw [left] at tray
  unfold Tallies builtState at *
  rw [tray, bundle]
  simp [BundleBuilder.bundleClosed]

theorem closeNow_deferred {f : StackInFlight} (flying : s.bundles.inFlight = some f) (withTray : Bool) :
    closeNow withTray s = (closeReply (some f.bundleSerial) (some f.traySerial) true,
      { s with bundles := { s.bundles with closePending := if withTray then .bundleAndTray else .bundle } }) := by
  unfold closeNow
  rw [flying]

theorem closeNow_now (free : s.bundles.inFlight = none) (withTray : Bool) :
    closeNow withTray s = (closeReply (s.bundles.bundle.map (·.serial)) (if withTray then s.bundles.tray.map (·.serial) else none) false,
      if withTray then closeTray .host (closeBundle .host s) else closeBundle .host s) := by
  unfold closeNow
  rw [free]

theorem takeBundleClose_now {option : Nat} (small : option ≤ 1) (few : s.link.reports.length < 64)
    (idle : s.bundles.closePending = .none) : takeBundleClose option s = closeNow (option == 1) s := by
  unfold takeBundleClose
  rw [if_neg (by omega), if_neg (by omega), if_neg (not_not_intro idle)]

end

/-- Settles O46: a close that is taken at once is the closure of the bundle and then that of the tray, each
with its report. -/
theorem bundleCloses : Obligations.BundleCloses := by
  intro s number option rest r requested waiting free
  have answers {a : Answer} {t : State} (rule : takeBundleClose option (taken rest s) = (a, t)) :
      exec .bundleClose s = .next (withReply number r a.result a.data t) := serve_answered requested rfl rule
  refine ⟨fun large => ?_, fun small many => ?_, fun small few busy => ?_, fun f small ⟨few, idle⟩ flying => ?_,
    fun small ⟨few, idle⟩ rests => ?_⟩
  · exact answers (a := Answer.field 1) (if_pos large)
  · refine answers (a := Answer.refuse .busy (nat2 waiting)) ?_
    unfold takeBundleClose
    rw [if_neg (by omega)]
    exact if_pos many
  · refine answers (a := Answer.refuse .busy (nat1 s.bundles.closePending.code)) ?_
    unfold takeBundleClose
    exact (if_neg (by omega)).trans ((if_neg (Nat.not_le.mpr few)).trans (if_pos busy))
  · have rule := (takeBundleClose_now (s := taken rest s) small few idle).trans (closeNow_deferred (s := taken rest s) flying (option == 1))
    simp only [beq_iff_eq] at rule
    exact answers rule
  · intro bundle tray reports
    have rule := (takeBundleClose_now (s := taken rest s) small few idle).trans (closeNow_now (s := taken rest s) rests (option == 1))
    have same : (tally .bundlesClosed none (taken rest s)).counters = (tally .bundlesClosed none s).counters :=
      tally_counters_congr _ _ rfl rfl
    by_cases one : option = 1
    · obtain ⟨closes, counters⟩ := closeBoth_asked (taken rest s)
      have whole : tray = s.bundles.tray := if_pos one
      subst one
      refine ⟨_, answers rule, ?_⟩
      change closeTray .host (closeBundle .host (taken rest s)) = _
      generalize closeTray .host (closeBundle .host (taken rest s)) = v at *
      rw [same] at counters
      unfold Tallies at closes
      rw [counters] at closes
      exact closes
    · obtain ⟨closes, counters⟩ := closeBundle_asked (taken rest s)
      have only : tray = none := if_neg one
      have zero : option = 0 := by omega
      subst zero
      refine ⟨_, answers rule, ?_⟩
      change closeBundle .host (taken rest s) = _
      generalize closeBundle .host (taken rest s) = v at *
      rw [same] at counters
      unfold Tallies at closes
      rw [counters] at closes
      refine closes.trans ?_
      rw [show reports = s.bundles.bundle.toList.map hostBundle from List.append_nil _]
      rfl

end Sys2Proof.Machine
end

section
/-! The break decision (O47). -/

namespace Sys2Proof.Machine

section
variable {s x : State} {r : Record} {v : VersionDef} {b : OpenBundle} {t : OpenTray} {w : Nat}

/-! ### The tests of R153 -/

/-- The bundle would become too heavy (R153). -/
def BundleHeavy (s : State) (b : OpenBundle) (w : Nat) : Prop := 1 ≤ b.items ∧ s.params.bundleMaxWeight < b.weight + w

/-- The item does not join the open bundle (R153, case 2). -/
def WantsBundle (s : State) (r : Record) (w : Nat) (b : OpenBundle) : Prop :=
  b.key ≠ r.bundleKey ∨ s.params.bundleMaxItems ≤ b.items ∨ BundleHeavy s b w

/-- The tray would become too heavy (R153). -/
def TrayHeavy (s : State) (t : OpenTray) (w : Nat) : Prop := 1 ≤ t.items ∧ s.params.trayMaxWeight < t.weight + w

theorem versionWeight_of (defined : s.versions[r.version].definition = some v) : versionWeight s r.version = v.weight := by
  unfold versionWeight
  rw [defined]
  rfl

theorem needsBundle_none (bundle : s.bundles.bundle = none) : needsBundle s r w = true := by
  unfold needsBundle
  rw [bundle]

theorem needsBundle_iff (bundle : s.bundles.bundle = some b) : needsBundle s r w = true ↔ WantsBundle s r w b := by
  unfold needsBundle WantsBundle BundleHeavy
  rw [bundle]
  simp [or_assoc]

theorem needsTray_none (tray : s.bundles.tray = none) : needsTray s r w = true := by
  unfold needsTray
  rw [tray]

theorem needsTray_iff (tray : s.bundles.tray = some t) : needsTray s r w = true
    ↔ t.key ≠ r.trayKey ∨ TrayHeavy s t w ∨ (needsBundle s r w = true ∧ s.params.trayMaxBundles ≤ t.bundles) := by
  unfold needsTray TrayHeavy OpenTray.overweight
  rw [tray]
  simp [or_assoc]

theorem decideBreak_joins (noTray : ¬ needsTray s r (versionWeight s r.version) = true)
    (noBundle : ¬ needsBundle s r (versionWeight s r.version) = true) : decideBreak r s = (.none, s) := by
  unfold decideBreak
  exact (if_neg noTray).trans (if_neg noBundle)

theorem decideBreak_bundle (noTray : ¬ needsTray s r (versionWeight s r.version) = true)
    (bundle : needsBundle s r (versionWeight s r.version) = true) :
    decideBreak r s = (.newBundle, openBundle r.bundleKey (breakBundle r (versionWeight s r.version) s)) := by
  unfold decideBreak
  exact (if_neg noTray).trans (if_pos bundle)

theorem decideBreak_tray (tray : needsTray s r (versionWeight s r.version) = true) :
    decideBreak r s = (.newTray, openBundle r.bundleKey (openTray r.trayKey
      (closeTray ((s.bundles.tray.map (trayBreakReason s r (versionWeight s r.version))).getD .trayWeight)
        (breakBundle r (versionWeight s r.version) s)))) := by
  unfold decideBreak
  exact if_pos tray

/-! ### The reasons of R154 -/

/-- What a break's reason for its bundle is, test by test. -/
theorem bundleBreakReason_of (tray : s.bundles.tray = some t) :
    let reason := bundleBreakReason s r w b
    (b.key ≠ r.bundleKey → reason = .bundleKey)
      ∧ (b.key = r.bundleKey → t.key ≠ r.trayKey → reason = .trayKey)
      ∧ (b.key = r.bundleKey → t.key = r.trayKey → s.params.bundleMaxItems ≤ b.items → reason = .itemLimit)
      ∧ (b.key = r.bundleKey → t.key = r.trayKey → b.items < s.params.bundleMaxItems → BundleHeavy s b w → reason = .bundleWeight)
      ∧ (b.key = r.bundleKey → t.key = r.trayKey → b.items < s.params.bundleMaxItems → ¬ BundleHeavy s b w → reason = .trayWeight) := by
  intro reason
  have rule : reason = if b.key ≠ r.bundleKey then .bundleKey else if t.key ≠ r.trayKey then .trayKey
      else if s.params.bundleMaxItems ≤ b.items then .itemLimit else if 1 ≤ b.items ∧ s.params.bundleMaxWeight < b.weight + w then .bundleWeight else .trayWeight := by
    change bundleBreakReason s r w b = _
    unfold bundleBreakReason
    rw [tray]
    simp only [Option.any_some, bne_iff_ne]
  refine ⟨fun other => ?_, fun own other => ?_, fun own same full => ?_, fun own same few heavy => ?_, fun own same few light => ?_⟩
  · rw [rule, if_pos other]
  · rw [rule, if_neg (not_not_intro own), if_pos other]
  · rw [rule, if_neg (not_not_intro own), if_neg (not_not_intro same), if_pos full]
  · rw [rule, if_neg (not_not_intro own), if_neg (not_not_intro same), if_neg (Nat.not_le.mpr few)]
    exact if_pos heavy
  · rw [rule, if_neg (not_not_intro own), if_neg (not_not_intro same), if_neg (Nat.not_le.mpr few)]
    exact if_neg light

theorem bundleBreakReason_ne_drain (s : State) (r : Record) (w : Nat) (b : OpenBundle) : bundleBreakReason s r w b ≠ .drain := by
  unfold bundleBreakReason
  split
  · simp
  · split
    · simp
    · split
      · simp
      · split <;> simp

theorem trayBreakReason_of (s : State) (r : Record) (w : Nat) (t : OpenTray) :
    let reason := trayBreakReason s r w t
    (t.key ≠ r.trayKey → reason = .trayKey)
      ∧ (t.key = r.trayKey → needsBundle s r w = true ∧ s.params.trayMaxBundles ≤ t.bundles → reason = .trayBundles)
      ∧ (t.key = r.trayKey → ¬ (needsBundle s r w = true ∧ s.params.trayMaxBundles ≤ t.bundles) → reason = .trayWeight) := by
  intro reason
  refine ⟨fun other => if_pos other, fun same full => ?_, fun same room => ?_⟩
  · exact (if_neg (not_not_intro same)).trans (if_pos full)
  · exact (if_neg (not_not_intro same)).trans (if_neg room)

theorem trayBreakReason_ne_drain (s : State) (r : Record) (w : Nat) (t : OpenTray) : trayBreakReason s r w t ≠ .drain := by
  unfold trayBreakReason
  split
  · simp
  · split <;> simp

theorem splitKey_of {reason : ClosureReason} (stays : reason ≠ .drain) (key : Nat) : reason.splitKey key = some key := if_neg stays

/-! ### What is closed and what is opened -/

/-- The BUNDLE report of a break. -/
def brokenBundle (s : State) (b : OpenBundle) (reason : ClosureReason) : Report :=
  .bundle { bundle := b, residual := (reason == .bundleKey || reason == .trayKey) && b.items < s.params.bundleMinItems, reason := reason }

theorem bundleReport_of {reason : ClosureReason} (stays : reason ≠ .drain) (s : State) (b : OpenBundle) :
    bundleReport reason s b = brokenBundle s b reason := by
  have residual : reason.mayBeResidual = (reason == .bundleKey || reason == .trayKey) := by
    cases reason with
    | drain => exact absurd rfl stays
    | bundleKey | trayKey | itemLimit | bundleWeight | trayBundles | trayWeight | host => rfl
  unfold bundleReport brokenBundle
  rw [residual]

/-- The builder with a bundle opened (R155). -/
def BundleBuilder.bundleOpened (key : Nat) (m : BundleBuilder) : BundleBuilder := { m with
  bundle := some { serial := m.nextBundleSerial, traySerial := (m.tray.map (·.serial)).getD 0, key := key, items := 0, weight := 0, first := none, last := none, split := m.bundleSplitKey == some key, unconfirmed := 0 }
  nextBundleSerial := nextSerial m.nextBundleSerial
  tray := m.tray.map fun t => { t with bundles := t.bundles + 1 } }

/-- The builder with a tray opened (R155). -/
def BundleBuilder.trayOpened (key : Nat) (m : BundleBuilder) : BundleBuilder := { m with
  tray := some { serial := m.nextTraySerial, key := key, bundles := 0, items := 0, weight := 0, split := m.traySplitKey == some key }
  nextTraySerial := nextSerial m.nextTraySerial }

theorem openBundle_eq (key : Nat) (s : State) : openBundle key s = { s with bundles := s.bundles.bundleOpened key } := rfl

theorem openTray_eq (key : Nat) (s : State) : openTray key s = { s with bundles := s.bundles.trayOpened key } := rfl

theorem tallies_withBuilder (f : BundleBuilder → BundleBuilder) (h : Tallies s x) :
    Tallies { s with bundles := f s.bundles } { x with bundles := f x.bundles } := by
  unfold Tallies at *
  rw [h]

theorem announces_withBuilder (f : BundleBuilder → BundleBuilder) (h : Announces s x) :
    Announces { s with bundles := f s.bundles } { x with bundles := f x.bundles } := by
  unfold Announces at *
  rw [h]

theorem breakBundle_none (bundle : s.bundles.bundle = none) : breakBundle r w s = s := by
  unfold breakBundle
  rw [bundle]

theorem breakBundle_open (bundle : s.bundles.bundle = some b) :
    let reason := bundleBreakReason s r w b
    Tallies (builtState (s.bundles.bundleOut b) [brokenBundle s b reason] s) (breakBundle r w s)
      ∧ (breakBundle r w s).counters = (tally .bundlesClosed none s).counters := by
  intro reason
  have stays := bundleBreakReason_ne_drain s r w b
  have closes := closeBundle_open bundle reason
  rw [splitKey_of stays, bundleReport_of stays] at closes
  have rule : breakBundle r w s = closeBundle reason s := by
    unfold breakBundle
    rw [bundle]
  rw [rule]
  exact closes

theorem closeTray_break (tray : s.bundles.tray = some t) {reason : ClosureReason} (stays : reason ≠ .drain) :
    Tallies (builtState (s.bundles.trayOut t) [trayReport reason t] s) (closeTray reason s) ∧ (closeTray reason s).counters = s.counters := by
  have closes := closeTray_open tray reason
  rw [splitKey_of stays] at closes
  exact ⟨closes.tallies, closes.counters_eq⟩

/-- A break that closes the bundle and the tray. -/
theorem breakBoth_open (bundle : s.bundles.bundle = some b) (tray : s.bundles.tray = some t) {trayReason : ClosureReason}
    (stays : trayReason ≠ .drain) :
    let u := closeTray trayReason (breakBundle r w s)
    Tallies (builtState ((s.bundles.bundleOut b).trayOut t)
        [brokenBundle s b (bundleBreakReason s r w b), trayReport trayReason t] s) u
      ∧ u.counters = (tally .bundlesClosed none s).counters := by
  intro u
  obtain ⟨closes, counters⟩ := breakBundle_open (r := r) (w := w) bundle
  have left : (breakBundle r w s).bundles = s.bundles.bundleOut b := by rw [closes]; rfl
  obtain ⟨trays, same⟩ := closeTray_break (s := breakBundle r w s) (t := t) (by rw [left]; exact tray) stays
  refine ⟨?_, same.trans counters⟩
  rw [left] at trays
  change Tallies _ (closeTray trayReason (breakBundle r w s))
  generalize closeTray trayReason (breakBundle r w s) = y at *
  generalize breakBundle r w s = z at *
  unfold Tallies builtState at *
  rw [trays, closes]
  simp

end

/-- Settles O47: the tests of R153 say which closures and openings follow one another, and the reasons of R154 are read
off their tests. -/
theorem breakDecided : Obligations.BreakDecided := by
  refine ⟨fun s r v b t defined bundle tray => ?_, fun s r v defined bundle => ?_⟩
  · intro p trayHeavy bundleHeavy wantsBundle wantsTray d next opened closed only
    have weight := versionWeight_of defined
    have bundles : needsBundle s r v.weight = true ↔ wantsBundle := needsBundle_iff bundle
    have trays : needsTray s r v.weight = true ↔ wantsTray := by
      rw [needsTray_iff tray, bundles]
      rfl
    refine ⟨fun noTray noBundle => ?_, fun noTray wants => ?_, fun wants => ?_⟩
    · exact decideBreak_joins (by rwa [weight, trays]) (by rwa [weight, bundles])
    · have decided : d = _ := decideBreak_bundle (by rwa [weight, trays]) (by rwa [weight, bundles])
      rw [weight] at decided
      obtain ⟨other, -, full, heavy, -⟩ := bundleBreakReason_of (s := s) (r := r) (w := v.weight) (b := b) tray
      obtain ⟨closes, counters⟩ := breakBundle_open (r := r) (w := v.weight) bundle
      have sameTray : t.key = r.trayKey := not_not.mp fun h => noTray (.inl h)
      rw [decided]
      refine ⟨rfl, bundleBreakReason s r v.weight b, other, fun own => full own sameTray, fun own few => heavy own sameTray few ?_, ?_⟩
      · exact ((wants.resolve_left (not_not_intro own)).resolve_left (Nat.not_le.mpr few))
      · have whole := tallies_withBuilder (BundleBuilder.bundleOpened r.bundleKey) closes
        rw [openBundle_eq]
        change _ = _
        unfold Tallies at whole
        refine whole.trans ?_
        rw [counters]
        simp only [builtState, BundleBuilder.bundleOut, BundleBuilder.bundleOpened, tray]
        rfl
    · have decided : d = _ := decideBreak_tray (by rwa [weight, trays])
      rw [weight, tray] at decided
      have reasons := bundleBreakReason_of (s := s) (r := r) (w := v.weight) (b := b) tray
      obtain ⟨own, full, heavy⟩ := trayBreakReason_of s r v.weight t
      rw [bundles] at full heavy
      obtain ⟨closes, counters⟩ := breakBoth_open (r := r) (w := v.weight) bundle tray (trayBreakReason_ne_drain s r v.weight t)
      rw [decided]
      obtain ⟨r1, r2, r3, r4, r5⟩ := reasons
      refine ⟨rfl, bundleBreakReason s r v.weight b, trayBreakReason s r v.weight t, r1, r2, r3, r4, r5, own,
        fun same wants many => full same ⟨wants, many⟩, heavy, ?_⟩
      have whole := tallies_withBuilder (fun m => (m.trayOpened r.trayKey).bundleOpened r.bundleKey) closes
      rw [openBundle_eq, openTray_eq]
      unfold Tallies at whole
      refine whole.trans ?_
      rw [counters]
      rfl
  · intro p d next opened fresh inNewTray
    have weight := versionWeight_of defined
    have wants : needsBundle s r v.weight = true := needsBundle_none bundle
    refine ⟨fun tray => ?_, fun t tray => ?_⟩
    · have decided : d = _ := decideBreak_tray (needsTray_none tray)
      rw [tray, breakBundle_none bundle, closeTray_none tray] at decided
      rw [decided, openBundle_eq, openTray_eq]
      rfl
    · intro heavy full
      have trays : needsTray s r v.weight = true ↔ full := by
        rw [needsTray_iff tray, wants]
        simp only [true_and]
        rfl
      refine ⟨fun room => ?_, fun is => ?_⟩
      · have decided : d = _ := decideBreak_bundle (by rwa [weight, trays]) (by rwa [weight])
        rw [breakBundle_none bundle, openBundle_eq] at decided
        rw [decided]
        simp only [BundleBuilder.bundleOpened, tray]
        rfl
      · have decided : d = _ := decideBreak_tray (by rwa [weight, trays])
        rw [weight, tray, breakBundle_none bundle] at decided
        obtain ⟨own, many, light⟩ := trayBreakReason_of s r v.weight t
        have closes := closeTray_open tray (trayBreakReason s r v.weight t)
        rw [splitKey_of (trayBreakReason_ne_drain s r v.weight t)] at closes
        rw [decided]
        refine ⟨rfl, trayBreakReason s r v.weight t, own, fun same limit => many same ⟨wants, limit⟩,
          fun same few => light same fun ⟨_, limit⟩ => absurd few (Nat.not_lt.mpr limit), ?_⟩
        have whole := announces_withBuilder (fun m => (m.trayOpened r.trayKey).bundleOpened r.bundleKey) closes
        rw [openBundle_eq, openTray_eq]
        unfold Announces at whole
        refine whole.trans ?_
        rfl

end Sys2Proof.Machine
end

section
/-! COUNTER_SET (O48). -/

namespace Sys2Proof.Machine

/-! ### The events and their codes (11.2) -/

theorem eventOf_outside {event : Nat} (outside : 27 < event) : eventOf event = none := by
  have codes : ∀ e ∈ TallyEvent.all, e.code ≤ 27 := by decide
  refine List.find?_eq_none.mpr fun e member same => ?_
  have code := codes e member
  rw [beq_iff_eq] at same
  omega

theorem eventOf_zero : eventOf 0 = none := by decide

theorem eventOf_isSome {event : Nat} (inside : event ≤ 27) (given : event ≠ 0) : (eventOf event).isNone = false := by
  have known : ∀ e < 28, e ≠ 0 → (eventOf e).isNone = false := by decide
  exact known event (by omega) given

/-- The events that carry no station. -/
def stationlessCodes : List Nat := [1, 2, 4, 21, 23, 27]

theorem eventOf_stationless {event : Nat} (inside : event ≤ 27) :
    (eventOf event).any (!·.carriesStation) = true ↔ event ∈ stationlessCodes := by
  have known : ∀ e < 28, ((eventOf e).any (!·.carriesStation) = true ↔ e ∈ stationlessCodes) := by decide
  exact known event (by omega)

theorem actionOf_eq_none {action : Nat} (one : action ≠ 1) (two : action ≠ 2) : actionOf action = none := by
  unfold actionOf
  split
  · exact absurd rfl one
  · exact absurd rfl two
  · rfl

theorem startModeOf_eq_none {start : Nat} (one : start ≠ 1) (two : start ≠ 2) : startModeOf start = none := by
  unfold startModeOf
  split
  · exact absurd rfl one
  · exact absurd rfl two
  · rfl

theorem actionOf_of {action : Nat} (given : action = 1 ∨ action = 2) :
    actionOf action = some (if action = 1 then .notice else .noticeHold) := by
  rcases given with rfl | rfl <;> rfl

theorem startModeOf_of {start : Nat} (given : start = 1 ∨ start = 2) :
    startModeOf start = some (if start = 1 then .free else .afterFirst) := by
  rcases given with rfl | rfl <;> rfl

/-! ### The tests of COUNTER_SET, in their order (R184) -/

section
variable {i : Fin 8} {event qualifier window threshold action start : Nat}

theorem knownEvent (inside : event ≤ 27) : ¬ (event ≠ 0 ∧ (eventOf event).isNone = true) := by
  rintro ⟨given, none⟩
  rw [eventOf_isSome inside given] at none
  cases none

theorem mayQualify (inside : event ≤ 27) (free : qualifier = 0 ∨ event ∉ stationlessCodes) :
    ¬ (0 < qualifier ∧ (eventOf event).any (!·.carriesStation) = true) := by
  rw [eventOf_stationless inside]
  rintro ⟨given, none⟩
  rcases free with rfl | free
  · omega
  · exact free none

/-- The setup that a COUNTER_SET names, once nothing refuses it. -/
def namedSetup (qualifier window threshold action start : Nat) (e : TallyEvent) : CounterSetup where
  event := e
  qualifier := slotOf qualifier
  window := window
  threshold := BitVec.ofNat 32 threshold
  action := if action = 1 then .notice else .noticeHold
  start := if start = 1 then .free else .afterFirst

theorem counterSetupOf_event (outside : 27 < event) :
    counterSetupOf i event qualifier window threshold action start = .error 2 := by
  unfold counterSetupOf
  exact if_pos ⟨by omega, by rw [eventOf_outside outside]; rfl⟩

theorem counterSetupOf_qualifier (inside : event ≤ 27) (outside : 16 < qualifier) :
    counterSetupOf i event qualifier window threshold action start = .error 3 := by
  unfold counterSetupOf
  rw [if_neg (knownEvent inside)]
  exact if_pos outside

theorem counterSetupOf_stationless (inside : event ≤ 27) (slot : qualifier ≤ 16) (given : 1 ≤ qualifier)
    (none : event ∈ stationlessCodes) : counterSetupOf i event qualifier window threshold action start = .error 3 := by
  unfold counterSetupOf
  rw [if_neg (knownEvent inside), if_neg (by omega)]
  exact if_pos ⟨given, (eventOf_stationless inside).mpr none⟩

variable (inside : event ≤ 27) (slot : qualifier ≤ 16) (free : qualifier = 0 ∨ event ∉ stationlessCodes)
include inside slot free

theorem counterSetupOf_window (large : 65535 < window) :
    counterSetupOf i event qualifier window threshold action start = .error 4 := by
  unfold counterSetupOf
  rw [if_neg (knownEvent inside), if_neg (by omega), if_neg (mayQualify inside free)]
  exact if_pos large

variable (small : window ≤ 65535)
include small

theorem counterSetupOf_action (one : action ≠ 1) (two : action ≠ 2) :
    counterSetupOf i event qualifier window threshold action start = .error 6 := by
  unfold counterSetupOf
  rw [if_neg (knownEvent inside), if_neg (by omega), if_neg (mayQualify inside free), if_neg (by omega), actionOf_eq_none one two]

variable (acts : action = 1 ∨ action = 2)
include acts

theorem counterSetupOf_start (one : start ≠ 1) (two : start ≠ 2) :
    counterSetupOf i event qualifier window threshold action start = .error 7 := by
  unfold counterSetupOf
  rw [if_neg (knownEvent inside), if_neg (by omega), if_neg (mayQualify inside free), if_neg (by omega), actionOf_of acts,
    startModeOf_eq_none one two]

theorem counterSetupOf_first (first : i = 0) : counterSetupOf i event qualifier window threshold action 2 = .error 7 := by
  unfold counterSetupOf
  rw [if_neg (knownEvent inside), if_neg (by omega), if_neg (mayQualify inside free), if_neg (by omega), actionOf_of acts]
  exact if_pos ⟨rfl, first⟩

theorem counterSetupOf_named (starts : start = 1 ∨ (start = 2 ∧ i ≠ 0)) :
    counterSetupOf i event qualifier window threshold action start
      = .ok ((eventOf event).map (namedSetup qualifier window threshold action start)) := by
  have mode : start = 1 ∨ start = 2 := starts.imp id And.left
  unfold counterSetupOf
  rw [if_neg (knownEvent inside), if_neg (by omega), if_neg (mayQualify inside free), if_neg (by omega), actionOf_of acts,
    startModeOf_of mode]
  refine (if_neg ?_).trans rfl
  rintro ⟨after, first⟩
  rcases starts with rfl | ⟨-, other⟩
  · cases after
  · exact other first

end

/-- Settles O48: the tests of COUNTER_SET in their order, and a setup that passes them all. -/
theorem counterRequests : Obligations.CounterRequests := by
  intro s number rest
  refine ⟨fun i event qualifier window threshold action start => ?_, fun k event qualifier window threshold action start outside requested => ?_⟩
  · intro r requested old fresh set begins refused stationless
    have refuses {n : Nat} (rule : counterSetupOf i event qualifier window threshold action start = .error n) :
        refused (BitVec.ofNat 8 n) := by
      refine serve_answered (t := taken rest s) (result := .field) (data := [0, BitVec.ofNat 8 n]) requested rfl ?_
      unfold takeCounterSet
      rw [counterOf_number]
      dsimp only
      rw [rule]
      rfl
    have accepts {u : Option CounterSetup} (rule : counterSetupOf i event qualifier window threshold action start = .ok u) : begins u := by
      refine serve_answered (t := giveUpHold old.hold i (set u)) requested rfl ?_
      unfold takeCounterSet
      rw [counterOf_number]
      dsimp only
      rw [rule]
      rfl
    refine ⟨fun outside => refuses (counterSetupOf_event outside), fun inside outside => refuses (counterSetupOf_qualifier inside outside),
      fun inside slot given none => ⟨3, by simp, refuses (counterSetupOf_stationless inside slot given none)⟩, fun inside slot free => ?_⟩
    refine ⟨fun large => refuses (counterSetupOf_window inside slot free large),
      fun small one two => refuses (counterSetupOf_action inside slot free small one two),
      fun small acts one two => refuses (counterSetupOf_start inside slot free small acts one two),
      fun small acts after first => ⟨7, by simp, refuses ?_⟩, fun small acts starts => ?_⟩
    · subst after
      exact counterSetupOf_first inside slot free small acts first
    · have named := counterSetupOf_named (threshold := threshold) inside slot free small acts starts
      refine ⟨fun zero => ?_, fun e known => ?_⟩
      · rw [show eventOf event = none by rw [zero]; exact eventOf_zero] at named
        exact accepts named
      · rw [known] at named
        exact accepts named
  · refine serve_answered (t := taken rest s) (result := .field) (data := [0, 1]) requested rfl ?_
    unfold takeCounterSet
    rw [counterOf_eq_none outside]
    rfl

end Sys2Proof.Machine
end

section
/-! The tally counters at an event, at an advance and at the end of a window (O50). -/

namespace Sys2Proof.Machine

section
variable {e : TallyEvent} {slot : Option SlotNo} {c : Counter} {cs : Vector Counter 8} {i : Fin 8} {s : State}

/-! ### What counts and what reaches (R185, R186) -/

/-- The counter counts an event. -/
def CountsAt (e : TallyEvent) (slot : Option SlotNo) (c : Counter) : Prop := ∃ u, c.setup = some u ∧ u.event = e
  ∧ (u.qualifier = none ∨ u.qualifier = slot) ∧ (u.start = .free ∨ c.started = true)

/-- The counter reaches its threshold at an event. -/
def ReachesAt (e : TallyEvent) (slot : Option SlotNo) (c : Counter) : Prop := CountsAt e slot c ∧ c.armed = true
  ∧ ∃ u, c.setup = some u ∧ u.threshold ≠ 0 ∧ c.value + 1 = u.threshold

theorem running_iff (c : Counter) (u : CounterSetup) : c.running u = true ↔ u.start = .free ∨ c.started = true := by
  simp [Counter.running]

theorem counts_iff : c.counts e slot = true ↔ CountsAt e slot c := by
  unfold Counter.counts CountsAt
  cases c.setup with
  | none => simp
  | some u => simp [running_iff, and_assoc]

theorem reaches_iff : c.reaches e slot = true ↔ ReachesAt e slot c := by
  unfold Counter.reaches ReachesAt
  rw [← counts_iff]
  cases c.setup with
  | none => simp
  | some u => simp [and_assoc]

theorem holds_iff : c.holds = true ↔ ∃ u, c.setup = some u ∧ u.action = .noticeHold := by
  unfold Counter.holds
  simp [Option.any_eq_true]

theorem mem_reached : i ∈ reached e slot cs ↔ (cs[i]).reaches e slot = true := by
  simp [reached]

/-- The first of the counters that reach is the lowest (R189). -/
theorem reached_head (some' : ∃ i : Fin 8, (cs[i]).reaches e slot = true) : ∃ i : Fin 8, (reached e slot cs).head? = some i
    ∧ (cs[i]).reaches e slot = true ∧ ∀ j : Fin 8, j < i → ¬ (cs[j]).reaches e slot = true := by
  have ascending : (reached e slot cs).Pairwise (· < ·) := (List.pairwise_lt_finRange 8).filter _
  obtain ⟨k, reaches⟩ := some'
  have member := mem_reached.mpr reaches
  have all (j : Fin 8) : j ∈ reached e slot cs ↔ (cs[j]).reaches e slot = true := mem_reached
  generalize reached e slot cs = l at *
  cases l with
  | nil => cases member
  | cons i l =>
    refine ⟨i, rfl, (all i).mp (List.mem_cons_self ..), fun j lower reaches => ?_⟩
    rcases List.mem_cons.mp ((all j).mpr reaches) with rfl | later
    · exact lt_irrefl _ lower
    · exact lt_asymm lower ((List.pairwise_cons.mp ascending).1 j later)

/-! ### A counter after an event -/

theorem starting_keeps (c : Counter) : c.starting = { c with started := c.starting.started } := by
  unfold Counter.starting
  split <;> rfl

theorem starting_started (c : Counter) :
    c.starting.started = true ↔ c.started = true ∨ ∃ u, c.setup = some u ∧ u.start = .afterFirst := by
  unfold Counter.starting
  cases c.setup with
  | none => simp
  | some u => by_cases after : u.start = .afterFirst <;> simp [after]

/-- A counter after an event, before the AFTER_FIRST counters start. -/
theorem taking_of (c : Counter) : c.taking e slot = { c with
    value := (c.taking e slot).value
    armed := (c.taking e slot).armed
    hold := (c.taking e slot).hold } := by
  unfold Counter.taking
  split <;> rfl

theorem taking_value_counted (counts : c.counts e slot = true) : (c.taking e slot).value = c.value + 1 := by
  unfold Counter.taking
  rw [if_pos counts]

theorem taking_uncounted (misses : ¬ c.counts e slot = true) : c.taking e slot = c := if_neg misses

theorem taking_armed (c : Counter) : (c.taking e slot).armed = (c.armed && !c.reaches e slot) := by
  unfold Counter.taking
  split
  · rfl
  next misses =>
    have missed : c.reaches e slot = false := Bool.eq_false_iff.mpr fun h => misses (counts_of_reaches h)
    rw [missed, Bool.not_false, Bool.and_true]

theorem countersAfter_get (e : TallyEvent) (slot : Option SlotNo) (cs : Vector Counter 8) (i : Fin 8) :
    (countersAfter e slot cs)[i] = if (cs[(0 : Fin 8)]).reaches e slot then ((cs[i]).taking e slot).starting else (cs[i]).taking e slot := by
  simp [countersAfter]

/-- A counter after an event is as the event left it, but for its start. -/
theorem countersAfter_keeps (e : TallyEvent) (slot : Option SlotNo) (cs : Vector Counter 8) (i : Fin 8) :
    (countersAfter e slot cs)[i] = { (cs[i]).taking e slot with started := ((countersAfter e slot cs)[i]).started } := by
  rw [countersAfter_get]
  split
  · exact starting_keeps _
  · rfl

theorem countersAfter_started (e : TallyEvent) (slot : Option SlotNo) (cs : Vector Counter 8) (i : Fin 8) :
    ((countersAfter e slot cs)[i]).started = true ↔ (cs[i]).started = true
      ∨ ((cs[(0 : Fin 8)]).reaches e slot = true ∧ ∃ u, (cs[i]).setup = some u ∧ u.start = .afterFirst) := by
  have started : ((cs[i]).taking e slot).started = (cs[i]).started := by rw [taking_of]
  rw [countersAfter_get]
  split
  next first => rw [starting_started, taking_setup, started, first, eq_self_iff_true, true_and]
  next later =>
    rw [started]
    exact ⟨.inl, fun h => h.resolve_right fun ⟨first, _⟩ => later first⟩

/-! ### The notices of an event (R191) -/

/-- The content of a COUNTER notice in a state. -/
def counterNotice (before : Vector Counter 8) (s : State) (i : Fin 8) (u : CounterSetup) : CounterNotice where
  setup := u
  value := (s.counters.all[i]).value
  added := (s.counters.all[i]).holds && !(before[i]).hold
  frozen := s.counters.frozen
  source := s.counters.source

theorem announceCounter_keeps {before : Vector Counter 8} (j : Fin 8) (other : j ≠ i) (s : State) :
    (announceCounter before s j).link.notices[25 + i.val] = s.link.notices[25 + i.val] := by
  have apart (k : CounterNotice) : (⟨25 + i.val, by omega⟩ : Fin 33) ≠ (Notice.counter j k).slot := fun same => by
    have value : 25 + i.val = 25 + j.val := congrArg Fin.val same
    exact other (Fin.ext (by omega))
  have high : (⟨25 + i.val, by omega⟩ : Fin 33) ≠ 1 := fun same => by
    have value : 25 + i.val = 1 := congrArg Fin.val same
    omega
  unfold announceCounter
  dsimp only
  split
  · split
    · exact (putCause_notice_other (.counter j) true _ ⟨25 + i.val, by omega⟩ high).trans (raise_notice_other _ s _ (apart _))
    · exact raise_notice_other _ s ⟨25 + i.val, by omega⟩ (apart _)
  · rfl

theorem noticed_announceCounter {before : Vector Counter 8} {u : CounterSetup} (setup : (s.counters.all[i]).setup = some u) :
    Noticed (announceCounter before s i) ⟨25 + i.val, by omega⟩ (.counter i (counterNotice before s i u)) := by
  have high : (⟨25 + i.val, by omega⟩ : Fin 33) ≠ 1 := fun same => by
    have value : 25 + i.val = 1 := congrArg Fin.val same
    omega
  have raised := noticed_raise (.counter i (counterNotice before s i u)) s
  unfold announceCounter
  dsimp only
  rw [setup]
  dsimp only
  split
  · have kept := putCause_notice_other (.counter i) true (raise (.counter i (counterNotice before s i u)) s) ⟨25 + i.val, by omega⟩ high
    unfold Noticed at *
    rw [← raised]
    exact congrArg _ kept
  · exact raised

theorem counterNotice_congr {before : Vector Counter 8} {t : State} (counters : t.counters = s.counters) (u : CounterSetup) :
    counterNotice before t i u = counterNotice before s i u := by
  unfold counterNotice
  rw [counters]

theorem announceCounters_keeps {before : Vector Counter 8} {l : List (Fin 8)} (away : i ∉ l) (s : State) :
    (l.foldl (announceCounter before) s).link.notices[25 + i.val] = s.link.notices[25 + i.val] := by
  induction l generalizing s with
  | nil => rfl
  | cons j l ih =>
    obtain ⟨other, later⟩ := not_or.mp (List.mem_cons.not.mp away)
    exact (ih later _).trans (announceCounter_keeps j (Ne.symm other) s)

theorem noticed_announceCounters {before : Vector Counter 8} {u : CounterSetup} {l : List (Fin 8)} (member : i ∈ l)
    (setup : (s.counters.all[i]).setup = some u) :
    Noticed (l.foldl (announceCounter before) s) ⟨25 + i.val, by omega⟩ (.counter i (counterNotice before s i u)) := by
  induction l generalizing s with
  | nil => cases member
  | cons j l ih =>
    have same := (announces_announceCounter before s j).counters_eq
    by_cases later : i ∈ l
    · rw [← counterNotice_congr same u]
      exact ih later (by rw [same]; exact setup)
    · have here : i = j := (List.mem_cons.mp member).resolve_right later
      subst here
      have kept := announceCounters_keeps (before := before) later (announceCounter before s i)
      have told := noticed_announceCounter (before := before) setup
      unfold Noticed at *
      rw [← told]
      exact congrArg _ kept

/-! ### The block after an event (R185 to R189) -/

/-- The state with an event counted, before it is announced. -/
def countedEvent (e : TallyEvent) (slot : Option SlotNo) (s : State) : State :=
  { s with counters := blockAfter e slot s.params.counterFreeze s.counters }

theorem tally_frozen (frozen : s.counters.frozen = true) : tally e slot s = s := if_pos frozen

theorem tally_unfrozen (free : s.counters.frozen = false) :
    tally e slot s = (reached e slot s.counters.all).foldl (announceCounter s.counters.all) (countedEvent e slot s) := by
  unfold tally countedEvent blockAfter
  rw [free]
  rfl

theorem blockAfter_unfrozen {b : Counters} (free : b.frozen = false) (freeze : Nat) : blockAfter e slot freeze b = {
    all := countersAfter e slot b.all
    frozen := freeze == 1 && !(reached e slot b.all).isEmpty
    source := if freeze == 1 && !(reached e slot b.all).isEmpty then (reached e slot b.all).head? else b.source } := by
  unfold blockAfter
  rw [free]
  rfl

theorem freezes_iff (freeze : Nat) : (freeze == 1 && !(reached e slot cs).isEmpty) = true
    ↔ freeze = 1 ∧ ∃ i : Fin 8, (cs[i]).reaches e slot = true := by
  rw [Bool.and_eq_true, beq_iff_eq, Bool.not_eq_true', ← Bool.not_eq_true, List.isEmpty_iff, List.eq_nil_iff_forall_not_mem]
  simp only [mem_reached, not_forall, not_not]

/-! ### The windows (R187) -/

theorem moveWindow_of {u : CounterSetup} (setup : c.setup = some u) (window : u.window ≠ 0) (running : u.start = .free ∨ c.started = true) :
    c.moveWindow = if u.window ≤ c.progress + 1 then c.windowEnded else { c with progress := c.progress + 1 } := by
  unfold Counter.moveWindow
  rw [setup]
  exact if_pos (by simp [window, (running_iff c u).mpr running])

theorem moveWindow_open {u : CounterSetup} (setup : c.setup = some u) (window : u.window = 0) : c.moveWindow = c := by
  unfold Counter.moveWindow
  rw [setup]
  exact if_neg (by simp [window])

theorem windowEnded_of {u : CounterSetup} (setup : c.setup = some u) :
    c.windowEnded = { c with value := 0, progress := 0, armed := u.threshold != 0 } := by
  unfold Counter.windowEnded
  rw [setup]
  rfl

theorem windowDue_iff : c.windowDue = true ↔ ∃ u, c.setup = some u ∧ u.window ≠ 0 ∧ (u.start = .free ∨ c.started = true)
    ∧ u.window ≤ c.progress + 1 := by
  unfold Counter.windowDue
  cases c.setup with
  | none => simp
  | some u => simp [running_iff, and_assoc]

theorem windowEnds_iff : windowEnds s i = true ↔ s.counters.frozen = false ∧ (s.counters.all[i]).windowDue = true := by
  simp [windowEnds]

/-- The counters after the windows of an advance have moved. -/
theorem tallyAdvance_counter (free : (tally .pitchAdvances none s).counters.frozen = false) (i : Fin 8) :
    let c := (tally .pitchAdvances none s).counters.all[i]
    (tallyAdvance s).counters.all[i] = if c.setup.any (s.counters.all[i]).running then c.moveWindow else c := by
  unfold tallyAdvance moveWindows
  rw [free]
  simp

end

/-- Settles O50: an event changes each counter by its own tests and then announces those that reached; an advance is an
event and then a move of the windows. -/
theorem eventsCounted : Obligations.EventsCounted := by
  refine ⟨fun e slot s frozen => tally_frozen frozen, fun e slot s free => ?_, fun s => ?_, fun s number rest requested => ?_, fun i s => ?_⟩
  · intro t counts reaches held freezes
    have reaching (i : Fin 8) : (s.counters.all[i]).reaches e slot = true ↔ reaches i := reaches_iff
    have holding (i : Fin 8) : (s.counters.all[i]).holds = true ↔ ∃ u, (s.counters.all[i]).setup = some u ∧ u.action = .noticeHold := holds_iff
    have holds (i : Fin 8) : ((s.counters.all[i]).reaches e slot && (s.counters.all[i]).holds) = true ↔ held i := by
      rw [Bool.and_eq_true, reaching, holding]
    have freezing : (s.params.counterFreeze == 1 && !(reached e slot s.counters.all).isEmpty) = true ↔ freezes := by
      rw [freezes_iff]
      simp only [reaching]
      rfl
    have whole : t = _ := tally_unfrozen free
    have block : t.counters = _ := (tally_counters e slot s).trans (blockAfter_unfrozen free _)
    refine ⟨tallies_tally e slot s, fun i => ?_, fun c other => tally_has e slot s c other, ?_, fun is => ?_⟩
    · intro c c'
      have after : c' = (countersAfter e slot s.counters.all)[i] := by
        change t.counters.all[i] = _
        rw [block]
      have keeps := countersAfter_keeps e slot s.counters.all i
      rw [← after] at keeps
      have counting : c.counts e slot = true ↔ counts i := counts_iff
      have armed : c'.armed = (c.armed && !c.reaches e slot) := (congrArg Counter.armed keeps).trans (taking_armed c)
      have setup : c'.setup = c.setup := (congrArg Counter.setup keeps).trans (taking_setup e slot c)
      have block' : (countedEvent e slot s).counters = t.counters := (tally_counters e slot s).symm
      have holds' : c'.holds = c.holds := by
        unfold Counter.holds
        rw [setup]
      refine ⟨setup, ?_, fun is => ?_, fun no => ?_, fun is => ?_, fun no => ?_, ?_, ?_, fun is => ?_, fun no => ?_, ?_⟩
      · refine (congrArg Counter.progress keeps).trans ?_
        rw [taking_of]
      · exact (congrArg Counter.value keeps).trans (taking_value_counted (counting.mpr is))
      · refine (congrArg Counter.value keeps).trans ?_
        rw [taking_uncounted (fun yes => no (counting.mp yes))]
      · rw [armed, (reaching i).mpr is, Bool.not_true, Bool.and_false]
      · rw [armed, Bool.eq_false_iff.mpr fun yes => no ((reaching i).mp yes), Bool.not_false, Bool.and_true]
      · rw [show c'.hold = (c.hold || (c.reaches e slot && c.holds)) from (congrArg Counter.hold keeps).trans (taking_hold e slot c),
          Bool.or_eq_true, holds]
      · rw [after, countersAfter_started, reaching]
      · obtain ⟨u, own, -⟩ := is.1
        have told := noticed_announceCounters (before := s.counters.all) (s := countedEvent e slot s) (mem_reached.mpr ((reaching i).mpr is))
          (by rw [block']; exact setup.trans own)
        rw [← whole] at told
        refine ⟨_, told, ?_, ?_, ?_, ?_⟩
        · exact congrArg (fun b : Counters => (b.all[i]).value) block'
        · exact congrArg (·.frozen) block'
        · exact congrArg (·.source) block'
        · have added : (counterNotice s.counters.all (countedEvent e slot s) i u).added = (c'.holds && !c.hold) :=
            congrArg (fun b : Counters => (b.all[i]).holds && !c.hold) block'
          rw [added, holds', Bool.and_eq_true, Bool.not_eq_true']
          exact and_congr_left' ((holding i).trans ⟨fun h => ⟨is, h⟩, And.right⟩)
      · rw [whole]
        exact announceCounters_keeps (fun member => no ((reaching i).mp (mem_reached.mp member))) _
      · rw [whole, announceCounters_has, block', Bool.or_eq_true, Bool.and_eq_true, Bool.and_eq_true, decide_eq_true_eq,
          mem_reached, reaching, Bool.not_eq_true', ← and_assoc]
        refine or_congr Iff.rfl (and_congr_left' (and_congr_right' ?_))
        rw [← holding i, ← holds']
    · rw [block, ← freezing]
    · obtain ⟨i, head, own, lower⟩ := reached_head (e := e) (slot := slot) (cs := s.counters.all)
        (is.2.imp fun i h => (reaching i).mpr h)
      refine ⟨i, ?_, (reaching i).mp own, fun j less h => lower j less ((reaching j).mpr h)⟩
      rw [block]
      exact (if_pos (freezing.mpr is)).trans head
  · intro u t
    have moved : t = { u with counters := { u.counters with all := t.counters.all } } := tallyAdvance_eq s
    have block : t.counters = { u.counters with all := t.counters.all } := congrArg (·.counters) moved
    refine ⟨moved.trans (congrArg (fun b => { u with counters := b }) block).symm, congrArg (·.frozen) block,
      congrArg (·.source) block, fun frozen => ?_, fun free i => ?_⟩
    · exact if_pos frozen
    · intro c moves
      have rule := tallyAdvance_counter free i
      have running (v : CounterSetup) := running_iff (s.counters.all[i]) v
      refine ⟨fun still => ?_, fun v ⟨setup, window, run⟩ more => ?_, fun v ⟨setup, window, run⟩ last => ?_⟩
      · refine rule.trans ?_
        split
        next ran =>
          obtain ⟨v, setup, run⟩ := Option.any_eq_true _ _ |>.mp ran
          exact moveWindow_open setup (not_not.mp fun window => still v ⟨setup, window, (running v).mp run⟩)
        next => rfl
      all_goals
        have ran : c.setup.any (s.counters.all[i]).running = true := (Option.any_eq_true _ _).mpr ⟨v, setup, (running v).mpr run⟩
        have runs : v.start = .free ∨ c.started = true := run.imp id (tally_started .pitchAdvances none s i)
        have moves := moveWindow_of setup window runs
      · exact rule.trans ((if_pos ran).trans (moves.trans (if_neg (Nat.not_le.mpr more))))
      · exact rule.trans ((if_pos ran).trans (moves.trans ((if_pos last).trans (windowEnded_of setup))))
  · have source : counterByte s.counters.source = [s.counters.source.elim 0 fun i => BitVec.ofNat 8 (i.val + 1)] := by
      cases s.counters.source <;> rfl
    have answered : exec .counterUnfreeze s = .next (withReply number .counterUnfreeze .ok (counterByte s.counters.source)
        { taken rest s with counters := { s.counters with frozen := false, source := none } }) := serve_answered requested rfl rfl
    rw [answered, source]
    cases s.counters.source <;> rfl
  · intro c due ended
    have is : windowEnds s i = true ↔ due := by
      rw [windowEnds_iff, windowDue_iff]
    exact ⟨fun h => if_pos (is.mpr h), fun h => if_neg (fun ends => h (is.mp ends))⟩

end Sys2Proof.Machine
end

section
/-! What the closing of an exchange hands to the station table and to the counters, and the closures of the feeding
stations (O52, first part). -/

namespace Sys2Proof.Machine

/-! ### The rule of a closure (R49 to R51) -/

/-- The event that a closure hands to the counters (R50, R51). -/
def Closure.event : Closure → TallyEvent
  | .noReport => .noReports
  | .busLate => .busLates

/-- The station after a closure: a NO_REPORT alone is counted (R8). -/
def Closure.counted (k : Closure) (st : Station) : Station :=
  match k with
  | .noReport => st.afterNoReport
  | .busLate => st

/-- How an exchange closes whose command is still queued, or is sent (R49). -/
def closureOf (queued : Bool) : Closure := if queued then .busLate else .noReport

theorem stillQueued_iff (s : State) (n : SlotNo) (t : Tag) :
    stillQueued s n t = true ↔ ∃ o, { slot := n, order := .cell t o } ∈ s.bus.txQueue := by
  unfold stillQueued
  rw [List.any_eq_true]
  constructor
  · rintro ⟨⟨slot, order⟩, member, own⟩
    cases order with
    | cell tag o =>
      simp only [BusCommand.isFor, Bool.and_eq_true, beq_iff_eq] at own
      obtain ⟨rfl, rfl⟩ := own
      exact ⟨o, member⟩
    | run => cases own
    | stop => cases own
  · rintro ⟨o, member⟩
    exact ⟨_, member, by simp [BusCommand.isFor]⟩

section
variable {s x u : State} {n : SlotNo} {st : Station} {t : Tag} {p : Nat} {c d : Cell} {r : Record} {jobs : Nat} {k : Closure}

theorem closeExchange_applied (entry : stationAt s n = some st) (cell : s.track.cells[p]? = some c) :
    closeExchange p c.tag n s = handClosure (closureOf (stillQueued s n c.tag)) n
      (closureEffect (closureOf (stillQueued s n c.tag)) n st.role p (applied n c.tag p (ended n c) s.track.printJobs s)) := by
  have changed : modifyCell p (Cell.endExchange n) (withdraw n c.tag s) = applied n c.tag p (ended n c) s.track.printJobs s := by
    rw [withdraw_eq, modifyCell_of (s := { s with bus := { s.bus with txQueue := unsent n c.tag s } }) cell]
    rfl
  unfold closeExchange
  dsimp only
  rw [changed, show stationAt (applied n c.tag p (ended n c) s.track.printJobs s) n = some st from entry]
  rfl

/-! ### The station after a closure (R8, R15) -/

theorem putStation_same (entry : stationAt x n = some st) : putStation n (some st) x = x := by
  have same : x.stations.set n.val (some st) n.isLt = x.stations := by
    rw [← entry]
    exact Vector.set_getElem_self n.isLt
  unfold putStation
  rw [same]

theorem afterNoReport_recorded (st : Station) : st.afterNoReport.recorded = st.recorded := by
  unfold Station.afterNoReport
  split <;> rfl

theorem faultingChange_closure (k : Closure) (st : Station) :
    faultingChange st (k.counted st) = (!st.role.feeding && st.usable && !(k.counted st).usable) := by
  have role : (k.counted st).role = st.role := by
    cases k with
    | noReport => exact (afterNoReport_fixed st).1
    | busLate => rfl
  have recorded : (k.counted st).recorded = st.recorded := by
    cases k with
    | noReport => exact afterNoReport_recorded st
    | busLate => rfl
  have opens : (st.recorded == .guardOpen && st.recorded != .guardOpen) = false := by
    rw [bne, Bool.and_not_self]
  unfold faultingChange
  rw [role, recorded, opens, Bool.or_false]
  rfl

theorem handClosure_eq (entry : stationAt x n = some st) (k : Closure) :
    handClosure k n x = tally k.event (some n) (stationChanged n st (k.counted st) x) := by
  cases k with
  | noReport => exact congrArg (tally .noReports (some n)) (updateStation_of entry _)
  | busLate =>
    have unseen : stationChanged n st st x = x := (stationChanged_unseen rfl rfl).trans (putStation_same entry)
    exact congrArg (tally .busLates (some n)) unseen.symm

/-- A closure that hands no fault moves its station, the counters and what they announce. -/
theorem handClosure_quiet (entry : stationAt x n = some st) (calm : faultingChange st (k.counted st) = false) :
    Tallies (putStation n (some (k.counted st)) x) (handClosure k n x)
      ∧ (handClosure k n x).counters = (tally k.event (some n) x).counters := by
  have quiet := stationChanged_quiet (n := n) (s := x) calm
  rw [handClosure_eq entry]
  exact ⟨quiet.tallies.trans (tallies_tally _ _ _), tally_counters_congr _ _ quiet.counters_eq (by rw [quiet]; rfl)⟩

/-- A closure that makes a disposing station unusable faults the line (R15). -/
theorem handClosure_faulting (entry : stationAt x n = some st) (faulting : faultingChange st (k.counted st) = true) :
    ∃ w, Announces (putStation n (some (k.counted st)) x) w
      ∧ handClosure k n x = tally k.event (some n) (handFault (.station n) w) := by
  rw [handClosure_eq entry]
  refine ⟨announceStation n (k.counted st) x, announces_announceStation n _ x, congrArg _ ?_⟩
  have seen : ¬ (st.recorded = (k.counted st).recorded ∧ st.health = (k.counted st).health) := by
    rintro ⟨recorded, health⟩
    have same : (k.counted st).usable = st.usable := by
      unfold Station.usable
      rw [recorded, health]
    rw [faultingChange_closure, same, Bool.and_assoc, Bool.and_not_self, Bool.and_false] at faulting
    cases faulting
  rw [stationChanged_seen seen, if_pos faulting]

theorem handClosure_notice {i : Fin 33} (notLine : i ≠ 0) (notFeed : i ≠ 1) (low : i.val < 9) (entry : stationAt x n = some st) :
    (handClosure k n x).link.notices[i] = x.link.notices[i] := by
  rw [handClosure_eq entry, tally_notice notFeed (by omega)]
  exact stationChanged_notice notLine notFeed low _ _ _ _

theorem handClosure_has (entry : stationAt x n = some st) {f : FeedCause} (station : ∀ m, f ≠ .station m) (counter : ∀ i, f ≠ .counter i) :
    (handClosure k n x).line.feed.has f = x.line.feed.has f := by
  rw [handClosure_eq entry, tally_has _ _ _ _ counter]
  exact stationChanged_has _ _ _ _ station

/-! ### The closures of the feeding stations (R50, R51) -/

/-- What a closure of a feeding station has done: the cell is d, and the station is counted. -/
def ClosesTo (s u : State) (n : SlotNo) (t : Tag) (p : Nat) (d : Cell) (jobs : Nat) (k : Closure) (st : Station) : Prop :=
  u.track = { s.track with cells := s.track.cells.set p d, printJobs := jobs }
    ∧ stationAt u n = some (k.counted st)
    ∧ (∀ m, m ≠ n → stationAt u m = stationAt s m)
    ∧ u.bus = { s.bus with txQueue := unsent n t s }
    ∧ u.counters = (tally k.event (some n) s).counters
    ∧ u.versions = s.versions
    ∧ u.phase = s.phase
    ∧ u.bundles = s.bundles
    ∧ u.params = s.params
    ∧ u.link = { s.link with notices := u.link.notices }
    ∧ u.line = { s.line with feed := u.line.feed }

/-- The state in which the rule of a feeding station's closure has acted. -/
def closedState (n : SlotNo) (t : Tag) (p : Nat) (d : Cell) (jobs : Nat) (intake : Intake) (binding : Binding) (step : StepMonitor)
    (s : State) : State :=
  { applied n t p d jobs s with intake := intake, binding := binding, step := step }

theorem closesTo {intake : Intake} {binding : Binding} {step : StepMonitor} (entry : stationAt s n = some st)
    (feeding : st.role.feeding = true) (k : Closure) (moved : Announces (closedState n t p d jobs intake binding step s) x) :
    let u := handClosure k n x
    ClosesTo s u n t p d jobs k st ∧ u.intake = intake ∧ u.binding = binding ∧ u.step = step := by
  have same : stationAt x n = some st := by
    rw [moved]
    exact entry
  have calm : faultingChange st (k.counted st) = false := by
    rw [faultingChange_closure, feeding]
    rfl
  obtain ⟨tallied, counters⟩ := handClosure_quiet same calm
  have counts : (tally k.event (some n) x).counters = (tally k.event (some n) s).counters :=
    tally_counters_congr _ _ (by rw [moved]; rfl) (by rw [moved]; rfl)
  intro u
  change Tallies _ u at tallied
  change u.counters = _ at counters
  clear_value u
  have whole : Tallies (putStation n (some (k.counted st)) (closedState n t p d jobs intake binding step s)) u := by
    refine Tallies.trans ?_ tallied
    unfold Announces at moved
    unfold Tallies
    rw [moved]
    rfl
  have stations : u.stations = (putStation n (some (k.counted st)) s).stations := by rw [whole]; rfl
  refine ⟨⟨by rw [whole]; rfl, ?_, fun m other => ?_, by rw [whole]; rfl, counters.trans counts, by rw [whole]; rfl, by rw [whole]; rfl,
    by rw [whole]; rfl, by rw [whole]; rfl, by rw [whole]; rfl, by rw [whole]; rfl⟩, by rw [whole]; rfl, by rw [whole]; rfl, by rw [whole]; rfl⟩
  · rw [stationAt, stations]
    exact stationAt_putStation n _ s
  · rw [stationAt, stations]
    exact stationAt_putStation_other other _ s

/-- The condemnation that a closure hands (R50, R51). -/
def Closure.cause (k : Closure) (n : SlotNo) : Condemn := { kind := k.condemn, station := some n }

theorem closureEffect_condemns (inside : p < s.track.cells.length)
    (role : st.role = .insertFeeder ∨ st.role = .carrierFeeder ∨ st.role = .reader ∨ st.role = .sealer) (k : Closure) :
    closureEffect k n st.role p (applied n t p d jobs s) = applied n t p (d.condemn (k.cause n)) jobs s := by
  rcases role with role | role | role | role <;> rw [role] <;> exact modifyCell_applied inside _

theorem closureEffect_printer (inside : p < s.track.cells.length) (k : Closure) :
    closureEffect k n .printer p (applied n t p d jobs s)
      = applied n t p (Cell.condemn (k.cause n) { d with print := .failed }) (jobs - 1) s := by
  unfold closureEffect
  dsimp only
  rw [returnCredit_applied, setPrint, condemnAt, modifyCell_applied inside, modifyCell_applied inside]
  rfl

theorem closureEffect_mainFeeder (cell : s.track.cells[p]? = some c) (offered : c.content = .offered) (k : Closure) :
    closureEffect k n .mainFeeder p (applied n c.tag p (ended n c) s.track.printJobs s)
      = let y := lostOfferEnded c.tag (withdrawnState n c.tag p c .void s)
        if c.proofOffer then { y with binding := { y.binding with proofPending := false } } else y := by
  have kept : (ended n c).content = .offered := offered
  have flag : (ended n c).proofOffer = c.proofOffer := rfl
  change mainFeedEnded n p .closed _ = _
  unfold mainFeedEnded
  rw [cellAt_applied (List.getElem?_eq_some_iff.mp cell).1]
  dsimp only
  rw [if_neg (not_not.mpr kept), withdrawOffer_applied cell rfl, flag]

/-- The cell of an offer that closed (R80). -/
def offerClosed (n : SlotNo) (c : Cell) : Cell := (ended n c).offerWithdrawn .void

theorem closes_mainFeeder (entry : stationAt s n = some st) (role : st.role = .mainFeeder) (cell : s.track.cells[p]? = some c)
    (offered : c.content = .offered) (k : Closure) :
    let u := handClosure k n (closureEffect k n st.role p (applied n c.tag p (ended n c) s.track.printJobs s))
    OfferEnded c.tag s u ∧ ClosesTo s u n c.tag p (offerClosed n c) s.track.printJobs k st
      ∧ u.intake = { s.intake with queue := c.record.toList ++ s.intake.queue }
      ∧ u.binding = if c.proofOffer then { s.binding with proofPending := false } else s.binding := by
  rw [role, closureEffect_mainFeeder cell offered]
  have ending : OfferEnded c.tag s (lostOfferEnded c.tag (withdrawnState n c.tag p c .void s)) := offerEnded_lostOfferEnded c.tag rfl rfl rfl
  have lost := lostOfferEnded_eq c.tag (withdrawnState n c.tag p c .void s)
  generalize lostOfferEnded c.tag (withdrawnState n c.tag p c .void s) = y at *
  have feeding : st.role.feeding = true := by rw [role]; rfl
  dsimp only
  have binds : (if c.proofOffer then { y with binding := { y.binding with proofPending := false } } else y)
      = { y with binding := if c.proofOffer then { s.binding with proofPending := false } else s.binding } := by
    rw [lost]
    split <;> rfl
  rw [binds]
  generalize (if c.proofOffer then { s.binding with proofPending := false } else s.binding) = b
  have moved : Announces (closedState n c.tag p (offerClosed n c) s.track.printJobs { s.intake with queue := c.record.toList ++ s.intake.queue } b
      y.step s) { y with binding := b } := by
    unfold Announces
    rw [lost]
    rfl
  obtain ⟨closes, intake, binding, step⟩ := closesTo entry feeding k moved
  have same : stationAt { y with binding := b } n = some st := by
    rw [moved]
    exact entry
  refine ⟨ending.congr step ?_ ?_, closes, intake, binding⟩
  · exact handClosure_has same (fun m => by simp) fun i => by simp
  · exact handClosure_notice (by decide) (by decide) (by decide) same

end

end Sys2Proof.Machine
end

section
/-! The closures of the gate and of the stacker, and the closing of an exchange (O52). -/

namespace Sys2Proof.Machine

/-- The line has faulted, with a cause if it had not before (R179). -/
def Faults (s u : State) (k : FaultCause) : Prop := u.line.state = .faulted
  ∧ (s.line.state ≠ .faulted → u.line.fault = some k) ∧ (s.line.state = .faulted → u.line.fault = s.line.fault)

section
variable {s x u : State} {n : SlotNo} {st : Station} {t : Tag} {p : Nat} {c d e : Cell} {r : Record} {k : Closure} {cause : FaultCause}

/-! ### The line after a closure of a disposing station (R15) -/

theorem FaultTaken.faults (h : FaultTaken cause s u) : Faults s u cause := by
  obtain ⟨state, first, later⟩ := h
  exact ⟨state, first, fun faulted => (later faulted).1⟩

/-- What a closure leaves of the state that its rule has made. -/
structure ClosedOver (x u : State) (n : SlotNo) (k : Closure) (st : Station) : Prop where
  only : u = { x with
    stations := x.stations.set n.val (some (k.counted st)) n.isLt
    bus := { x.bus with txQueue := u.bus.txQueue }
    line := u.line
    counters := u.counters
    link := { x.link with notices := u.link.notices } }
  line : LineKept x u
  counters : u.counters = (tally k.event (some n) x).counters
  faulted : x.line.state = .faulted → u.line.state = .faulted ∧ u.line.fault = x.line.fault
  calm : faultingChange st (k.counted st) = false → u.line = { x.line with feed := u.line.feed }
  fails : faultingChange st (k.counted st) = true → FaultTaken (.station n) x u

theorem closedOver (entry : stationAt x n = some st) (k : Closure) : ClosedOver x (handClosure k n x) n k st := by
  cases faulting : faultingChange st (k.counted st) with
  | false =>
    obtain ⟨moved, counters⟩ := handClosure_quiet entry faulting
    have line : LineKept (putStation n (some (k.counted st)) x) (handClosure k n x) := moved.resultFoot.2
    unfold Tallies at moved
    refine ⟨?_, line, counters, fun state => ⟨?_, ?_⟩, fun _ => ?_, fun fails => by rw [faulting] at fails; cases fails⟩
    · rw [moved]
      rfl
    · rw [moved]
      exact state
    · rw [moved]
      rfl
    · rw [moved]
      rfl
  | true =>
    obtain ⟨w, moved, rule⟩ := handClosure_faulting entry faulting
    have fault := handFault_eq (.station n) w
    have tallied := tallies_tally k.event (some n) (handFault (.station n) w)
    have line := ((moved.resultFoot.trans (resultFoot_handFault (.station n) w)).trans tallied.resultFoot).2
    have counters := tally_counters_congr (s := handFault (.station n) w) (t := x) k.event (some n) (by rw [fault, moved]; rfl)
      (by rw [fault, moved]; rfl)
    have taken : FaultTaken (.station n) x (handClosure k n x) := by
      rw [rule]
      exact FaultTaken.through (x := w) (by rw [moved]; rfl) (by rw [tallied])
    rw [← rule] at line counters
    refine ⟨?_, line, counters, fun state => ⟨taken.1, (taken.2.2 state).1⟩, fun calm => (by rw [faulting] at calm; cases calm),
      fun _ => taken⟩
    rw [rule, tallied, fault, moved]
    rfl

/-! ### What a closure of a disposing station does (R139, R144 to R147, R159, R160) -/

/-- What a closure of a disposing station has done that moved the cell to d. -/
def DisposesTo (s u : State) (n : SlotNo) (t : Tag) (p : Nat) (d : Cell) (k : Closure) (st : Station)
    (versions : Vector VersionEntry 32) (counters : Counters) : Prop :=
  u.track = { s.track with cells := s.track.cells.set p d }
    ∧ stationAt u n = some (k.counted st)
    ∧ (∀ m, m ≠ n → stationAt u m = stationAt s m)
    ∧ u.bus = { s.bus with txQueue := u.bus.txQueue }
    ∧ (u.line.state = s.line.state → u.bus.txQueue = unsent n t s)
    ∧ u.counters = counters
    ∧ u.versions = versions
    ∧ u.intake = s.intake
    ∧ u.binding = s.binding
    ∧ u.step = s.step
    ∧ u.phase = s.phase
    ∧ u.params = s.params
    ∧ u.link = { s.link with notices := u.link.notices, reports := u.link.reports }

/-- What the rule of a disposing station's closure has done, the station aside. -/
structure Ruled (s x : State) (n : SlotNo) (t : Tag) (p : Nat) (d : Cell) : Prop where
  foot : ResultFoot (applied n t p d s.track.printJobs s) x
  cells : x.track.cells = s.track.cells.set p d
  jobs : x.track.printJobs = s.track.printJobs
  intake : x.intake = s.intake
  binding : x.binding = s.binding
  step : x.step = s.step

theorem LineKept.queue (h : LineKept s u) (state : u.line.state = s.line.state) : u.bus.txQueue = s.bus.txQueue := by
  rcases h with ⟨-, queue, -⟩ | ⟨before, after⟩
  · exact queue
  · exact absurd (state.symm.trans after) before

theorem disposesTo (entry : stationAt s n = some st) (h : Ruled s x n t p d) (k : Closure) :
    let u := handClosure k n x
    DisposesTo s u n t p d k st x.versions (tally k.event (some n) x).counters ∧ u.link.reports = x.link.reports ∧ u.bundles = x.bundles := by
  obtain ⟨foot, cells, jobs, intake, binding, step⟩ := h
  obtain ⟨only, line, counters, -⟩ := closedOver (stationAt_of_foot foot entry) k
  intro u
  change u = _ at only
  change u.counters = _ at counters
  change LineKept x u at line
  clear_value u
  obtain ⟨foot, before⟩ := foot
  have stations : u.stations = (putStation n (some (k.counted st)) s).stations := by rw [only, foot]; rfl
  have track : u.track = { s.track with cells := s.track.cells.set p d } := by
    have kept : u.track = x.track := by rw [only]
    have own : x.track = { s.track with cells := x.track.cells, printJobs := x.track.printJobs } := by
      rw [foot]
      rfl
    rw [kept, own, cells, jobs]
  refine ⟨⟨track, ?_, fun m other => ?_, by rw [only, foot]; rfl, fun state => (before.trans line).queue state, counters, by rw [only],
    by rw [only, ← intake], by rw [only, ← binding], by rw [only, ← step], by rw [only, foot]; rfl, by rw [only, foot]; rfl,
    by rw [only, foot]; rfl⟩, by rw [only], by rw [only]⟩
  · rw [stationAt, stations]
    exact stationAt_putStation n _ s
  · rw [stationAt, stations]
    exact stationAt_putStation_other other _ s

/-- A fault that the rule has taken stands after the closure, whatever the station's count adds. -/
theorem faults_closed (entry : stationAt x n = some st) (fault : FaultTaken cause s x) (k : Closure) :
    Faults s (handClosure k n x) cause := by
  obtain ⟨state, first, later⟩ := fault
  obtain ⟨after, kept⟩ := (closedOver entry k).faulted state
  exact ⟨after, fun before => kept.trans (first before), fun before => kept.trans (later before).1⟩

/-! ### The gate (R139, R144 to R147) -/

theorem gate_ne_diverted (k : Closure) : k.gate ≠ .diverted := by
  cases k <;> decide

theorem gate_bound (inside : p < s.track.cells.length) (content : d.content = .bound) (k : Closure) :
    closureEffect k n .gate p (applied n t p d s.track.printJobs s) = applied n t p { d with content := .passed } s.track.printJobs s := by
  refine (gateEnded_bound inside content k.gate).trans ((if_neg (gate_ne_diverted k)).trans ?_)
  exact modifyCell_applied inside _

theorem gate_condemned (inside : p < s.track.cells.length) (content : d.content = .condemned) (k : Closure) :
    closureEffect k n .gate p (applied n t p d s.track.printJobs s) = escapeCondemned n p d (applied n t p d s.track.printJobs s) :=
  (gateEnded_condemned inside content k.gate).trans (if_neg (gate_ne_diverted k))

theorem gate_void (inside : p < s.track.cells.length) (content : d.content = .void) (k : Closure) :
    closureEffect k n .gate p (applied n t p d s.track.printJobs s) = escapeVoid n p d (applied n t p d s.track.printJobs s) :=
  (gateEnded_void inside content k.gate).trans (if_neg (gate_ne_diverted k))

theorem gate_proof (inside : p < s.track.cells.length) (entry : stationAt s n = some st) (content : d.content = .proof) (tag : d.tag = t)
    (k : Closure) : closureEffect k n .gate p (applied n t p d s.track.printJobs s)
      = escapes n (.proofEscape t) (raise (proofTold st t d k.gate) (applied n t p (escapedCell d) s.track.printJobs s)) :=
  (gateEnded_proof inside content k.gate).trans (proofOutcome_escapes inside entry tag (gate_ne_diverted k))

theorem Escapes.ruled {intake : Intake} {versions : Vector VersionEntry 32} {reports : List Report}
    (h : Escapes s x n t p d intake versions reports cause) (same : intake = s.intake) : Ruled s x n t p d :=
  ⟨h.foot, h.cells, h.jobs, h.intake.trans same, h.binding, h.step⟩

/-- What the closure of an escape does. -/
theorem escape_closes {versions : Vector VersionEntry 32} {reports : List Report} {b : State} (entry : stationAt s n = some st)
    (moved : Announces (ruledState n t p d s.intake versions reports s) b) (k : Closure) :
    let u := handClosure k n (escapes n cause b)
    DisposesTo s u n t p d k st versions (tally k.event (some n) (tally .escapes (some n) s)).counters ∧ Faults s u cause
      ∧ u.link.reports = reports ∧ u.bundles = s.bundles := by
  have own := escapes_moved (k := cause) moved
  obtain ⟨disposes, reports, bundles⟩ := disposesTo entry (own.ruled rfl) k
  have counts : (tally k.event (some n) (escapes n cause b)).counters = (tally k.event (some n) (tally .escapes (some n) s)).counters :=
    tally_counters_congr _ _ own.counters (by rw [own.foot.1, tally_params]; rfl)
  rw [own.versions, counts] at disposes
  exact ⟨disposes, faults_closed (stationAt_of_foot own.foot entry) own.fault k, reports.trans own.reports, bundles.trans own.bundles⟩

theorem noticed_closed_escape {i : Fin 33} {m : Notice} {b : State} (notLine : i ≠ 0) (notFeed : i ≠ 1) (low : i.val < 9)
    (entry : stationAt (escapes n cause b) n = some st) (told : Noticed b i m) : Noticed (handClosure k n (escapes n cause b)) i m := by
  unfold Noticed at *
  rw [handClosure_notice notLine notFeed low entry]
  unfold escapes
  rw [tally_notice notFeed (by omega), handFault_notice_other _ _ _ notLine]
  exact told

/-- What the closure of a passed item does. -/
theorem pass_closes (entry : stationAt s n = some st) (k : Closure) :
    let u := handClosure k n (applied n t p d s.track.printJobs s)
    DisposesTo s u n t p d k st s.versions (tally k.event (some n) s).counters ∧ u.link.reports = s.link.reports ∧ u.bundles = s.bundles
      ∧ (faultingChange st (k.counted st) = true → Faults s u (.station n))
      ∧ (faultingChange st (k.counted st) = false → u.line = { s.line with feed := u.line.feed }) := by
  have ruled : Ruled s (applied n t p d s.track.printJobs s) n t p d := ⟨⟨rfl, .inl ⟨rfl, rfl, rfl⟩⟩, rfl, rfl, rfl, rfl, rfl⟩
  obtain ⟨disposes, reports, bundles⟩ := disposesTo entry ruled k
  have counts : (tally k.event (some n) (applied n t p d s.track.printJobs s)).counters = (tally k.event (some n) s).counters :=
    tally_counters_congr _ _ rfl rfl
  rw [counts] at disposes
  obtain ⟨-, -, -, -, calm, fails⟩ := closedOver (x := applied n t p d s.track.printJobs s) entry k
  exact ⟨disposes, reports, bundles, fun is => (fails is).faults, calm⟩

/-! ### The stacker (R159, R160, R165) -/

/-- The open bundle with an unconfirmed item more (R157, R159). -/
def countedUnconfirmed (r : Record) (v : VersionDef) (b : OpenBundle) : OpenBundle :=
  { countedBundle r v b with unconfirmed := b.unconfirmed + 1 }

/-- The builder with an unconfirmed item counted. -/
def BundleBuilder.countedSilent (r : Record) (v : VersionDef) (b : OpenBundle) (y : OpenTray) (m : BundleBuilder) : BundleBuilder :=
  { m with bundle := some (countedUnconfirmed r v b), tray := some (countedTray v y) }

theorem countItem_unconfirmed {b : OpenBundle} {y : OpenTray} {v : VersionDef} (bundle : s.bundles.bundle = some b) (tray : s.bundles.tray = some y)
    (defined : s.versions[r.version].definition = some v) :
    countItem r true s = { s with bundles := s.bundles.countedSilent r v b y } := by
  have first : some (b.first.getD r.sequence) = if b.first = none then some r.sequence else b.first := by
    cases b.first <;> rfl
  unfold countItem BundleBuilder.countedSilent countedUnconfirmed countedBundle countedTray
  rw [bundle, tray, versionWeight_of defined, ← first]
  rfl

theorem stacks_silent {b : OpenBundle} {y : OpenTray} {v : VersionDef} (inside : p < s.track.cells.length) (record : d.record = some r)
    (bundle : s.bundles.bundle = some b) (tray : s.bundles.tray = some y) (defined : s.versions[r.version].definition = some v)
    (tag : c.tag = t) :
    let x := stackOutcome n p c r .silent (applied n t p d s.track.printJobs s)
    Stacks s x n t p d r (s.bundles.countedSilent r v b y) (.item (stackedReport r b.serial true)) .stacked ∧ FaultTaken (.stackSilent t) s x := by
  have counts : countItem r true (applied n t p d s.track.printJobs s)
      = applied n t p d s.track.printJobs { s with bundles := s.bundles.countedSilent r v b y } := countItem_unconfirmed bundle tray defined
  have finishes := finishRecord_applied (n := n) (t := t) (s := { s with bundles := s.bundles.countedSilent r v b y }) inside record
    (stackedReport r b.serial true)
  have rule : stackOutcome n p c r .silent (applied n t p d s.track.printJobs s)
      = tally .stacked (some n) (handFault (.stackSilent t) (queueReport (.item (stackedReport r b.serial true))
        (finishedState n t p (vacated r d) r { s with bundles := s.bundles.countedSilent r v b y }))) := by
    unfold stackOutcome
    dsimp only
    rw [counts, tag]
    exact congrArg (fun z => tally .stacked (some n) (handFault (.stackSilent t) z)) finishes
  have report := queueReport_eq (.item (stackedReport r b.serial true))
    (finishedState n t p (vacated r d) r { s with bundles := s.bundles.countedSilent r v b y })
  intro x
  have taken : x = _ := rule
  rw [taken]
  generalize queueReport _ _ = z at *
  have base : ResultFoot (applied n t p d s.track.printJobs s) z :=
    ⟨by rw [report]; rfl, .inl ⟨by rw [report]; rfl, by rw [report]; rfl, by rw [report]; rfl⟩⟩
  have fault := handFault_eq (.stackSilent t) z
  have tallied := tallies_tally .stacked (some n) (handFault (.stackSilent t) z)
  have counters := tally_counters_congr (s := handFault (.stackSilent t) z) (t := s) .stacked (some n) (by rw [fault, report]; rfl)
    (by rw [fault, report]; rfl)
  have foot := (base.trans (resultFoot_handFault (.stackSilent t) z)).trans tallied.resultFoot
  generalize tally .stacked (some n) (handFault (.stackSilent t) z) = w at *
  unfold Tallies at tallied
  refine ⟨⟨foot, ?_, ?_, ?_, ?_, ?_, ?_, ?_, ?_, counters⟩, FaultTaken.through (x := z) (by rw [report]; rfl) (by rw [tallied])⟩
  all_goals
    rw [tallied, fault, report]
    rfl

/-- What the closure of a stack in flight does (R159, R165). -/
theorem silent_closes {b : OpenBundle} {y : OpenTray} {v : VersionDef} (entry : stationAt s n = some st) (inside : p < s.track.cells.length)
    (passed : d.content = .passed) (own : d.escaped = false) (record : d.record = some r) (bundle : s.bundles.bundle = some b)
    (tray : s.bundles.tray = some y) (defined : s.versions[r.version].definition = some v) (tag : d.tag = t) (k : Closure) :
    let u := handClosure k n (closureEffect k n .stacker p (applied n t p d s.track.printJobs s))
    DisposesTo s u n t p (vacated r d) k st (released r s)
        (tally k.event (some n) (afterClose s.bundles.closePending (tally .stacked (some n) s))).counters
      ∧ Faults s u (.stackSilent t)
      ∧ u.link.reports = s.link.reports
        ++ .item (stackedReport r b.serial true) :: closeReports (countedUnconfirmed r v b) (countedTray v y) s.bundles.closePending
      ∧ u.bundles = (s.bundles.countedSilent r v b y).carriedOut (countedUnconfirmed r v b) (countedTray v y) := by
  have rule : closureEffect k n .stacker p (applied n t p d s.track.printJobs s) = _ := stackerEnded_holds inside passed own record .silent
  obtain ⟨ends, fault⟩ := stacks_silent (c := d) (n := n) (t := t) inside record bundle tray defined tag
  obtain ⟨carried, line⟩ := stacks_carried ends (b := countedUnconfirmed r v b) (y := countedTray v y) rfl rfl rfl
  rw [rule]
  generalize stackOutcome n p d r .silent (applied n t p d s.track.printJobs s) = z at *
  generalize carryOutClose z = x at *
  obtain ⟨disposes, reports, bundles⟩ := disposesTo entry (p := p) (d := vacated r d)
    ⟨ResultFoot.trans (t := applied n t p d s.track.printJobs s) ⟨rfl, .inl ⟨rfl, rfl, rfl⟩⟩ carried.foot, carried.cells, carried.jobs, carried.intake, carried.binding, carried.step⟩ k
  have params : x.params = s.params := by rw [carried.foot.1]; rfl
  have counts : (tally k.event (some n) x).counters
      = (tally k.event (some n) (afterClose s.bundles.closePending (tally .stacked (some n) s))).counters := by
    refine tally_counters_congr _ _ carried.counters (params.trans ?_)
    unfold afterClose
    split
    · rw [tally_params]
    · rw [tally_params, tally_params]
  rw [carried.versions, counts] at disposes
  have taken : FaultTaken (.stackSilent t) s x := by
    unfold FaultTaken at fault ⊢
    rw [line]
    exact fault
  exact ⟨disposes, faults_closed (stationAt_of_foot carried.foot entry) taken k, reports.trans carried.reports, bundles.trans carried.bundles⟩

/-- What the closure of a SET_ASIDE does (R160). -/
theorem aside_closes (entry : stationAt s n = some st) (inside : p < s.track.cells.length) (passed : d.content = .passed)
    (out : d.escaped = true) (tag : d.tag = t) (k : Closure) :
    let u := handClosure k n (closureEffect k n .stacker p (applied n t p d s.track.printJobs s))
    DisposesTo s u n t p d k st s.versions (tally k.event (some n) s).counters ∧ Faults s u (.stackSilent t)
      ∧ u.link.reports = s.link.reports ∧ u.bundles = s.bundles := by
  have rule : closureEffect k n .stacker p (applied n t p d s.track.printJobs s) = handFault (.stackSilent t) (applied n t p d s.track.printJobs s) := by
    refine (stackerEnded_escaped inside passed out .silent).trans ?_
    rw [← tag]
    rfl
  have fault := handFault_eq (.stackSilent t) (applied n t p d s.track.printJobs s)
  have foot := resultFoot_handFault (.stackSilent t) (applied n t p d s.track.printJobs s)
  have taken : FaultTaken (.stackSilent t) s (handFault (.stackSilent t) (applied n t p d s.track.printJobs s)) :=
    FaultTaken.through (x := applied n t p d s.track.printJobs s) rfl rfl
  rw [rule]
  generalize handFault (.stackSilent t) (applied n t p d s.track.printJobs s) = x at *
  obtain ⟨disposes, reports, bundles⟩ := disposesTo entry (p := p) (d := d) ⟨foot, by rw [fault]; rfl, by rw [fault]; rfl, by rw [fault]; rfl,
    by rw [fault]; rfl, by rw [fault]; rfl⟩ k
  have counts : (tally k.event (some n) x).counters = (tally k.event (some n) s).counters :=
    tally_counters_congr _ _ (by rw [fault]; rfl) (by rw [fault]; rfl)
  rw [counts, show x.versions = s.versions by rw [fault]; rfl] at disposes
  exact ⟨disposes, faults_closed (stationAt_of_foot foot entry) taken k, by rw [reports, fault]; rfl, by rw [bundles, fault]; rfl⟩

end

/-- Settles O52: the effect of a closure by the station's role, and then what the closure hands to the station table and
to the counters. -/
theorem exchangesClose : Obligations.ExchangesClose := by
  intro s n st p c entry cell u late closes disposes
  have inside := (List.getElem?_eq_some_iff.mp cell).1
  have rule (k : Closure) (is : closureOf (stillQueued s n c.tag) = k) :
      u = handClosure k n (closureEffect k n st.role p (applied n c.tag p (ended n c) s.track.printJobs s)) := by
    rw [← is]
    exact closeExchange_applied entry cell
  have both (k : Closure) (is : closureOf (stillQueued s n c.tag) = k) :
      closes k.condemn k.event (k.counted st) ∧ disposes k.gate k.event (k.counted st) := by
    have whole := rule k is
    clear_value u
    subst whole
    refine ⟨⟨fun role => ?_, fun role => ?_, fun role offered => ?_⟩, fun role => ⟨fun bound => ?_, fun r condemned record => ?_, fun void => ?_, fun proof => ?_⟩,
      fun role passed => ⟨fun out => ?_, fun r b tray v own record bundle open' defined => ?_⟩⟩
    · have feeding : st.role.feeding = true := by rcases role with role | role | role | role <;> rw [role] <;> rfl
      rw [closureEffect_condemns inside role]
      exact closesTo entry feeding k (x := applied n c.tag p ((ended n c).condemn (k.cause n)) s.track.printJobs s) (Announces.refl _)
    · have feeding : st.role.feeding = true := by rw [role]; rfl
      rw [role, closureEffect_printer inside]
      exact closesTo entry feeding k
        (x := applied n c.tag p (Cell.condemn (k.cause n) { ended n c with print := .failed }) (s.track.printJobs - 1) s) (Announces.refl _)
    · obtain ⟨ends, shared, intake, binding⟩ := closes_mainFeeder entry role cell offered k
      refine ⟨ends, fun r record free => ?_, fun record proof => ?_⟩
      · have kept : (ended n c).record = some r := record
        have gone : offerClosed n c = { vacated r (ended n c) with content := .void, proofOffer := false, offerMark := none } := by
          unfold offerClosed Cell.offerWithdrawn
          rw [withoutRecord_vacated kept]
        rw [gone] at shared
        rw [record] at intake
        rw [free] at binding
        exact ⟨shared, intake, binding⟩
      · have kept : (ended n c).record = none := record
        have gone : offerClosed n c = { ended n c with content := .void, proofOffer := false, offerMark := none } := by
          unfold offerClosed Cell.offerWithdrawn Cell.withoutRecord
          rw [kept]
        rw [gone] at shared
        rw [record] at intake
        rw [proof] at binding
        exact ⟨shared, intake, binding⟩
    · have faulting : faultingChange st (k.counted st) = true ↔ st.usable = true ∧ (k.counted st).usable = false := by
        rw [faultingChange_closure, role]
        simp [Role.feeding]
      rw [role, gate_bound (d := ended n c) inside bound]
      obtain ⟨shared, reports, bundles, fails, calm⟩ := pass_closes (t := c.tag) (p := p) (d := { ended n c with content := .passed }) entry k
      exact ⟨shared, reports, bundles, fun is => fails (faulting.mpr is), fun no => calm (Bool.eq_false_iff.mpr fun yes => no (faulting.mp yes))⟩
    · obtain ⟨b, moved, escape⟩ := escapeCondemned_applied (n := n) (t := c.tag) (d := ended n c) inside record rfl
      rw [role, gate_condemned (d := ended n c) inside condemned, escape]
      obtain ⟨shared, fault, reports, bundles⟩ := escape_closes (cause := .escape c.tag) entry moved k
      exact ⟨shared, fault, bundles, reports⟩
    · rw [role, gate_void (d := ended n c) inside void, escapeVoid_applied (d := ended n c) (t := c.tag) inside rfl]
      exact escape_closes (cause := .unaddressedEscape c.tag) (t := c.tag) (p := p) (d := escapedCell (ended n c)) (versions := s.versions)
        (reports := s.link.reports) entry (Announces.refl _) k
    · rw [role, gate_proof (d := ended n c) (t := c.tag) inside entry proof rfl]
      obtain ⟨shared, fault, reports, bundles⟩ := escape_closes (cause := .proofEscape c.tag) (t := c.tag) (p := p) (d := escapedCell (ended n c))
        (versions := s.versions) (reports := s.link.reports) entry (announces_raise (proofTold st c.tag (ended n c) k.gate) _) k
      have moved := escapes_moved (s := s) (n := n) (k := .proofEscape c.tag) (t := c.tag) (p := p) (d := escapedCell (ended n c)) (intake := s.intake)
        (versions := s.versions) (reports := s.link.reports) (announces_raise (proofTold st c.tag (ended n c) k.gate) _)
      have told : proofTold st c.tag (ended n c) k.gate = .proof { passed := false, tag := c.tag, outcome := k.gate, fault := c.fault, gateHealth := some st.health, gateStatus := some st.recorded } := by
        unfold proofTold
        rw [beq_false_of_ne (gate_ne_diverted k)]
        rfl
      refine ⟨shared, fault, reports, bundles, ?_⟩
      rw [← told]
      exact noticed_closed_escape (by decide) (by decide) (by decide) (stationAt_of_foot moved.foot entry) (noticed_raise _ _)
    · rw [role]
      exact aside_closes (d := ended n c) entry inside passed out rfl k
    · obtain ⟨shared, fault, reports, bundles⟩ := silent_closes (d := ended n c) entry inside passed own record bundle open' defined rfl k
      rw [role]
      refine ⟨shared, fault, fun pending => ?_, fun pending => ?_, fun pending => ?_⟩
      all_goals
        have counted : (s.bundles.countedSilent r v b tray).closePending = _ := pending
        rw [pending] at reports
      · rw [carriedOut_none counted] at bundles
        exact ⟨reports, bundles⟩
      · rw [carriedOut_bundle counted] at bundles
        exact ⟨reports, bundles⟩
      · rw [carriedOut_both counted] at bundles
        exact ⟨reports, bundles⟩
  refine ⟨fun queued => both .busLate ?_, fun sent => both .noReport ?_⟩
  · rw [(stillQueued_iff s n c.tag).mpr queued]
    rfl
  · rw [Bool.eq_false_iff.mpr fun queued => sent ((stillQueued_iff s n c.tag).mp queued)]
    rfl

end Sys2Proof.Machine
end

section
/-! The command that a station's cell gives it (O53). -/

namespace Sys2Proof.Machine

section
variable {s : State} {n : SlotNo} {st : Station} {p : Nat} {c : Cell} {r : Record}

/-! ### An exchange opened, a cell condemned (R54, R55) -/

/-- The state with an exchange opened for a cell, which has become d. -/
def givenState (n : SlotNo) (p : Nat) (tag : Tag) (o : CellOrder) (closing : Nat) (d : Cell) (jobs : Nat) (s : State) : State := { s with
  track := { s.track with
    cells := s.track.cells.set p { d with exchanges := d.exchanges ++ [{ slot := n, closing := closing }] }
    printJobs := jobs }
  bus := { s.bus with txQueue := s.bus.txQueue ++ [{ slot := n, order := .cell tag o }] } }

/-- The state with a cell d condemned by a station. -/
def condemnedState (n : SlotNo) (p : Nat) (k : CondemnKind) (d : Cell) (s : State) : State :=
  { s with track := { s.track with cells := s.track.cells.set p (d.condemn { kind := k, station := some n }) } }

theorem openExchange_of (cell : s.track.cells[p]? = some c) (closing : Nat) (tag : Tag) (o : CellOrder) :
    openExchange n p closing tag o s = givenState n p tag o closing c s.track.printJobs s := by
  unfold openExchange
  dsimp only
  rw [modifyCell_of cell]
  rfl

theorem condemnAt_of (cell : s.track.cells[p]? = some c) (k : CondemnKind) :
    condemnAt p { kind := k, station := some n } s = condemnedState n p k c s := modifyCell_of cell _

theorem setPrint_of (cell : s.track.cells[p]? = some c) (v : PrintState) :
    setPrint p v s = { s with track := { s.track with cells := s.track.cells.set p { c with print := v } } } := modifyCell_of cell _

theorem set_inside (cell : s.track.cells[p]? = some c) (d : Cell) : (s.track.cells.set p d)[p]? = some d := by
  rw [List.getElem?_set_self (List.getElem?_eq_some_iff.mp cell).1]

theorem derivePrint_of (cell : s.track.cells[p]? = some c) (record : c.record = some r) {lead : Nat}
    (carrier : positionWith s .carrierFeeder = some (lead + 1)) :
    derivePrint n p c s = givenState n p c.tag (.print r.sequence r.lines r.keyline) lead { c with print := .sent } (s.track.printJobs + 1) s := by
  have closing : printClosing s p = lead := by
    unfold printClosing
    rw [carrier]
    rfl
  have sequence : c.sequence = r.sequence := by
    unfold Cell.sequence
    rw [record]
    rfl
  have lines : (c.record.map (·.lines)).getD [] = r.lines := by rw [record]; rfl
  have keyline : c.record.bind (·.keyline) = r.keyline := by rw [record]; rfl
  unfold derivePrint
  rw [closing, sequence, lines, keyline, setPrint_of cell]
  dsimp only
  rw [openExchange_of (s := { s with track := { s.track with cells := s.track.cells.set p { c with print := .sent } } }) (set_inside cell _)]
  unfold givenState
  dsimp only
  rw [List.set_set]

theorem derivePrinter_refused (entry : stationAt s n = some st) (cell : s.track.cells[p]? = some c) (able : st.usable = true)
    (full : 2 ≤ s.track.printJobs) : derivePrinter n p c s = condemnedState n p .printNoCredit { c with print := .refused } s := by
  unfold derivePrinter
  rw [usable_of entry, able, if_neg (by decide), if_neg (by omega), setPrint_of cell]
  rw [condemnAt_of (s := { s with track := { s.track with cells := s.track.cells.set p { c with print := .refused } } }) (set_inside cell _)]
  unfold condemnedState
  dsimp only
  rw [List.set_set]

theorem demandsInsert_iff (n : SlotNo) (c : Cell) : c.demandsInsert n = true ↔ ∃ d ∈ c.demands, d.slot = n ∧ d.fed = false := by
  simp [Cell.demandsInsert]

/-! ### The break decision leaves a bundle open (R153, R155) -/

theorem openBundle_opens (key : Nat) (s : State) : ∃ b, (openBundle key s).bundles.bundle = some b
    ∧ ∀ t, s.bundles.tray = some t → ∃ u, (openBundle key s).bundles.tray = some u ∧ u.serial = b.traySerial := by
  refine ⟨_, rfl, fun t tray => ?_⟩
  unfold openBundle openBundle.orZeroTray
  dsimp only
  rw [tray]
  exact ⟨_, rfl, rfl⟩

theorem needsBundle_open (joins : ¬ needsBundle s r (versionWeight s r.version) = true) : ∃ b, s.bundles.bundle = some b := by
  cases bundle : s.bundles.bundle with
  | none => exact absurd (needsBundle_none bundle) joins
  | some b => exact ⟨b, rfl⟩

theorem needsTray_open (joins : ¬ needsTray s r (versionWeight s r.version) = true) : ∃ t, s.bundles.tray = some t := by
  cases tray : s.bundles.tray with
  | none => exact absurd (needsTray_none tray) joins
  | some t => exact ⟨t, rfl⟩

theorem decideBreak_open (r : Record) (s : State) : ∃ b, (decideBreak r s).2.bundles.bundle = some b
    ∧ (BundleInTray s → ∃ t, (decideBreak r s).2.bundles.tray = some t ∧ t.serial = b.traySerial) := by
  by_cases tray : needsTray s r (versionWeight s r.version) = true
  · rw [decideBreak_tray tray]
    obtain ⟨b, bundle, inTray⟩ := openBundle_opens r.bundleKey (openTray r.trayKey
      (closeTray ((s.bundles.tray.map (trayBreakReason s r (versionWeight s r.version))).getD .trayWeight)
        (breakBundle r (versionWeight s r.version) s)))
    exact ⟨b, bundle, fun _ => inTray _ rfl⟩
  · obtain ⟨t, same⟩ := needsTray_open tray
    by_cases fresh : needsBundle s r (versionWeight s r.version) = true
    · rw [decideBreak_bundle tray fresh]
      obtain ⟨b, bundle, inTray⟩ := openBundle_opens r.bundleKey (breakBundle r (versionWeight s r.version) s)
      exact ⟨b, bundle, fun _ => inTray t ((congrArg _ rfl).trans ((breakBundle_tray r _ s).trans same))⟩
    · obtain ⟨b, bundle⟩ := needsBundle_open fresh
      rw [decideBreak_joins tray fresh]
      exact ⟨b, bundle, fun placed => placed b bundle⟩

theorem closeBundle_bus (reason : ClosureReason) (s : State) : (closeBundle reason s).bus = s.bus := by
  unfold closeBundle
  split
  · rfl
  · rw [tally_bus]
    exact queueReport_bus _ s

theorem closeTray_bus (reason : ClosureReason) (s : State) : (closeTray reason s).bus = s.bus := by
  unfold closeTray
  split
  · rfl
  · exact queueReport_bus _ s

theorem breakBundle_bus (r : Record) (w : Nat) (s : State) : (breakBundle r w s).bus = s.bus := by
  rcases breakBundle_cases r w s with ⟨reason, e⟩ | ⟨-, e⟩
  · rw [e, closeBundle_bus]
  · rw [e]

theorem decideBreak_bus (r : Record) (s : State) : (decideBreak r s).2.bus = s.bus := by
  unfold decideBreak
  dsimp only
  split
  · exact (closeTray_bus _ _).trans (breakBundle_bus _ _ s)
  · split
    · exact breakBundle_bus _ _ s
    · rfl

theorem deriveStack_of (cell : s.track.cells[p]? = some c) {b : OpenBundle} (bundle : (decideBreak r s).2.bundles.bundle = some b) :
    let d := decideBreak r s
    let stacked := givenState n p c.tag (.stack d.1 b.serial b.traySerial) p c s.track.printJobs s
    deriveStack n p c r s = { d.2 with
      track := stacked.track
      bus := stacked.bus
      bundles := { d.2.bundles with inFlight := some { tag := c.tag, mark := d.1, bundleSerial := b.serial, traySerial := b.traySerial } } } := by
  intro d stacked
  have serials : openSerials (decideBreak r s).2 = (b.serial, b.traySerial) := by
    unfold openSerials
    rw [bundle]
  have here : (decideBreak r s).2.track.cells[p]? = some c := by
    rw [decideBreak_track]
    exact cell
  unfold deriveStack
  dsimp only
  rw [serials]
  rw [openExchange_of here]
  unfold givenState
  dsimp only [d, stacked, givenState]
  rw [decideBreak_track, decideBreak_bus]

/-- A cell that is neither offered, bound nor further on is commanded by no station. -/
theorem deriveFor_still (still : c.content = .empty ∨ c.content = .diverted) (role : Role) : deriveFor n role p c s = s := by
  have bound : c.content ≠ .bound := by rcases still with e | e <;> rw [e] <;> decide
  cases role with
  | mainFeeder => exact if_neg (by rcases still with e | e <;> rw [e] <;> decide)
  | insertFeeder => exact if_neg fun h => bound h.1
  | printer | carrierFeeder | reader => exact if_neg bound
  | sealer =>
    change deriveSealer n p c s = s
    unfold deriveSealer
    rcases still with e | e <;> rw [e]
  | gate =>
    change deriveGate n p c s = s
    unfold deriveGate
    rcases still with e | e <;> rw [e]
  | stacker => exact if_pos (by rcases still with e | e <;> rw [e] <;> decide)
  | drive => rfl

/-- A feeding station but the sealer commands an OFFERED or a BOUND cell alone. -/
theorem deriveFor_unfed (bound : c.content ≠ .bound) (offered : c.content ≠ .offered) {role : Role} (feeding : role.feeding = true)
    (sealer : role ≠ .sealer) : deriveFor n role p c s = s := by
  cases role with
  | mainFeeder => exact if_neg offered
  | insertFeeder => exact if_neg fun h => bound h.1
  | printer | carrierFeeder | reader => exact if_neg bound
  | sealer => exact absurd rfl sealer
  | gate | stacker | drive => cases feeding

end

/-- Settles O53: by the station's role, the tests of the command in their order. -/
theorem commandsDerived : Obligations.CommandsDerived := by
  intro s n st p c entry cell gives condemns jobs u seals
  have able := usable_of entry
  have opens (closing : Nat) (o : CellOrder) : openExchange n p closing c.tag o s = gives o closing c jobs := openExchange_of cell closing c.tag o
  have refuses (k : CondemnKind) : condemnAt p { kind := k, station := some n } s = condemns k c := condemnAt_of cell k
  have either (b : Bool) (o : CellOrder) : (if b = true then openExchange n p p c.tag o s else condemnUnavailable n p s)
      = if b then gives o p c jobs else condemns .stationUnavailable c := by
    rw [opens]
    exact congrArg _ (refuses _)
  have of {x : State} (r : Role) (role : st.role = r) (rule : deriveFor n r p c s = x) : u = x := by
    rw [← rule, ← role]
  refine ⟨fun role offered => ?_, fun role bound wants => ?_, fun role none => ?_, fun r lead role bound record carrier => ?_,
    fun r role bound record => ?_, fun role bound => ?_, fun role bound => ?_, fun role sealed => ?_, fun role bound => ?_,
    fun role sealed => ?_, fun role passed out => ?_, fun r role passed own record => ?_, fun still => ?_, fun bound offered feeding sealer => ?_, fun r => ?_⟩
  · exact of .mainFeeder role ((if_pos offered).trans (opens p .feed))
  · refine of .insertFeeder role ((if_pos ⟨bound, (demandsInsert_iff n c).mpr wants⟩).trans ?_)
    rw [able]
    exact either st.usable .feed
  · refine of .insertFeeder role (if_neg ?_)
    rintro ⟨-, wants⟩
    obtain ⟨d, member, slot, fed⟩ := (demandsInsert_iff n c).mp wants
    rw [none d member slot] at fed
    cases fed
  · have rule : u = derivePrinter n p c s := of .printer role (if_pos bound)
    refine ⟨fun no => ?_, fun yes room => ?_, fun yes full => ?_⟩
    · rw [rule]
      unfold derivePrinter
      rw [able, no]
      exact refuses _
    · rw [rule]
      unfold derivePrinter
      rw [able, yes]
      exact (if_pos room).trans (derivePrint_of cell record carrier)
    · exact rule.trans (derivePrinter_refused entry cell yes full)
  · have rule : u = deriveCarrier n p c s := of .carrierFeeder role (if_pos bound)
    have sequence : c.sequence = r.sequence := by
      unfold Cell.sequence
      rw [record]
      rfl
    refine ⟨fun missing => ?_, fun printed => ?_⟩
    · exact rule.trans ((if_pos missing).trans (refuses _))
    · refine rule.trans ((if_neg (not_not_intro printed)).trans ?_)
      rw [able, sequence]
      exact either st.usable _
  · have rule : u = deriveReader n p c s := of .reader role (if_pos bound)
    refine ⟨fun no => ?_, fun yes fed => ?_⟩
    · rw [rule]
      unfold deriveReader
      rw [able, no]
      exact refuses _
    · rw [rule]
      unfold deriveReader
      rw [able, yes]
      exact (if_pos fed).trans (opens p .read)
  · refine of .sealer role ?_
    change deriveSealer n p c s = _
    unfold deriveSealer
    rw [bound, able]
    exact either st.usable .seal
  · refine of .sealer role ?_
    change deriveSealer n p c s = _
    unfold deriveSealer
    rcases sealed with content | content | content <;> rw [content, able] <;> dsimp only <;> rw [opens]
  · refine of .gate role ?_
    change deriveGate n p c s = _
    unfold deriveGate
    rw [bound]
    exact opens p .pass
  · refine of .gate role ?_
    change deriveGate n p c s = _
    unfold deriveGate
    rcases sealed with content | content | content <;> rw [content] <;> exact opens p .divert
  · exact of .stacker role ((if_neg (not_not_intro passed)).trans ((if_pos out).trans (opens p .setAside)))
  · obtain ⟨b, bundle, inTray⟩ := decideBreak_open r s
    have rule : u = deriveStack n p c r s := by
      refine of .stacker role ?_
      change deriveStacker n p c s = _
      unfold deriveStacker
      rw [if_neg (not_not_intro passed), own, record]
      rfl
    exact ⟨b, bundle, inTray, rule.trans (deriveStack_of cell bundle)⟩
  · exact deriveFor_still still st.role
  · exact deriveFor_unfed bound offered feeding sealer
  · cases r <;> decide

end Sys2Proof.Machine
end

section
/-! The chain count, the marks and the loss of the phase (O54). -/

namespace Sys2Proof.Machine

section
variable {s t : State} {cause : LossCause} {d : Nat}

/-! ### The window (R132, R133) -/

theorem addError_append (earlier : List Nat) (last : Nat) : addError (earlier ++ [last]) = earlier ++ [min 255 (last + 1)] := by
  unfold addError
  rw [List.length_append, List.length_singleton, Nat.add_sub_cancel]
  induction earlier with
  | nil => rfl
  | cons a l ih => exact congrArg (a :: ·) ih

/-! ### A change of the phase state (R128, R137) -/

theorem changePhase_notice (m : PhaseMonitor) (struck : Option (Nat × Nat)) (s : State) {i : Fin 33} (notFeed : i ≠ 1) (notPhase : i ≠ 4) :
    (changePhase m struck s).link.notices[i] = s.link.notices[i] := by
  unfold changePhase
  dsimp only
  split
  · exact putCause_notice_other .phase _ _ i notFeed
  · exact (raise_notice_other (phaseNotice m _ struck) _ i notPhase).trans (putCause_notice_other .phase _ _ i notFeed)

theorem noticed_changePhase {m : PhaseMonitor} (changes : s.phase.state ≠ m.state) (struck : Option (Nat × Nat)) :
    Noticed (changePhase m struck s) 4 (phaseNotice m s.params.chainLength struck) := by
  have params : (putCause .phase m.state.suppresses { s with phase := m }).params = s.params := putCause_params _ _ _
  unfold changePhase
  dsimp only
  rw [if_neg changes, params]
  exact noticed_raise _ _

/-! ### The loss of the phase (R135) -/

/-- The monitor that has lost the phase. -/
def lostMonitor (cause : LossCause) (m : PhaseMonitor) : PhaseMonitor := { m with
  state := .lost
  lossCount := min 65535 (m.lossCount + 1)
  lossCause := some cause
  window := []
  zeroMark := false }

/-- The cells that a phase loss leaves. -/
def phaseStruck (cells : List Cell) : List Cell :=
  cells.map fun c => if c.content = .bound ∨ c.content = .offered then c.condemn { kind := .phaseLost, station := none } else c

theorem phaseStruck_eq (cells : List Cell) : cells.map (Cell.takeLoss { kind := .phaseLost, station := none }) = phaseStruck cells := by
  refine List.map_congr_left fun c _ => ?_
  unfold Cell.takeLoss
  simp

/-- What a loss of the phase does, its fault aside. -/
def Loses (s before t : State) (l : PhaseMonitor) : Prop :=
  t = { before with
      phase := l
      track := { s.track with cells := phaseStruck s.track.cells }
      line := { s.line with feed := t.line.feed }
      link := { s.link with notices := t.link.notices } }
    ∧ (∀ c, t.line.feed.has c = if c = .phase then true else s.line.feed.has c)
    ∧ Noticed t 4 (phaseNotice l s.params.chainLength (some (struckCounts s.track.cells)))
    ∧ ∀ i : Fin 33, i ≠ 1 → i ≠ 4 → i ≠ 5 → t.link.notices[i] = s.link.notices[i]

theorem enterLost_moved (cause : LossCause) (s : State) :
    Announces { s with phase := lostMonitor cause s.phase, track := { s.track with cells := phaseStruck s.track.cells } } (enterLost cause s)
      ∧ ∀ c, (enterLost cause s).line.feed.has c = if c = .phase then true else s.line.feed.has c := by
  unfold enterLost
  dsimp only
  rw [phaseStruck_eq]
  exact ⟨changePhase_moved _ _ _, changePhase_has _ _ _⟩

theorem noticed_enterLost (locked : s.phase.state = .locked) :
    Noticed (enterLost cause s) 4 (phaseNotice (lostMonitor cause s.phase) s.params.chainLength (some (struckCounts s.track.cells))) := by
  have changes : s.phase.state ≠ (lostMonitor cause s.phase).state := by
    rw [locked]
    exact fun h => by cases h
  exact noticed_changePhase (s := { s with track := { s.track with cells := s.track.cells.map (Cell.takeLoss { kind := .phaseLost, station := none }) } })
    changes _

theorem enterLost_notice {i : Fin 33} (notFeed : i ≠ 1) (notPhase : i ≠ 4) : (enterLost cause s).link.notices[i] = s.link.notices[i] :=
  changePhase_notice _ _ _ notFeed notPhase

/-- The state with an error entered in the window. -/
def erredState (s : State) : State := { s with phase := { s.phase with window := addError s.phase.window } }

theorem takeError_few (few : (addError s.phase.window).sum < 2) : takeError cause s = (erredState s, false) :=
  if_neg (Nat.not_le.mpr few)

theorem takeError_many (many : 2 ≤ (addError s.phase.window).sum) : takeError cause s = (enterLost cause (erredState s), true) := if_pos many

/-- A loss from a state that differs from the one before in the monitor and in what is announced of a shift. -/
theorem loses_enterLost {before e : State} (locked : e.phase.state = .locked)
    (start : e = { before with phase := e.phase, link := { before.link with notices := e.link.notices } })
    (track : before.track = s.track) (line : before.line = s.line) (params : before.params = s.params) (link : before.link = s.link)
    (others : ∀ i : Fin 33, i ≠ 5 → e.link.notices[i] = s.link.notices[i]) :
    Loses s before (enterLost cause e) (lostMonitor cause e.phase) := by
  obtain ⟨moved, has⟩ := enterLost_moved cause e
  have told := noticed_enterLost (cause := cause) locked
  have kept {i : Fin 33} (notFeed : i ≠ 1) (notPhase : i ≠ 4) := enterLost_notice (cause := cause) (s := e) notFeed notPhase
  have sameTrack : e.track = s.track := by rw [start, track]
  have sameLine : e.line = s.line := by rw [start, line]
  have sameParams : e.params = s.params := by rw [start, params]
  rw [sameTrack, sameParams] at told
  rw [sameTrack] at moved
  refine ⟨?_, fun c => ?_, told, fun i notFeed notPhase notShift => (kept notFeed notPhase).trans (others i notShift)⟩
  · generalize enterLost cause e = x at *
    have receiver : { e.link with notices := x.link.notices } = { s.link with notices := x.link.notices } := by rw [start, link]
    unfold Announces at moved
    rw [moved]
    dsimp only
    rw [sameLine, receiver]
    conv_lhs => rw [start]
  · rw [has c, sameLine]

/-- A mark sets the advances since the mark to 0 after it is judged (R130). -/
theorem Loses.judged {before : State} {l : PhaseMonitor} (h : Loses s before t l) :
    Loses s before { t with phase := { t.phase with sinceMark := 0 } } { l with sinceMark := 0 } := by
  obtain ⟨whole, has, told, others⟩ := h
  refine ⟨?_, has, told, others⟩
  rw [whole]

/-! ### The pulses (R129, R133) -/

theorem takePulse_off (off : s.phase.state = .off) : takePulse s = (s, false) := if_pos off

theorem wraps_iff (C : Nat) (m : PhaseMonitor) : m.wraps C = true ↔ C ≤ m.chainCount + 1 := by
  simp [PhaseMonitor.wraps]

theorem wrapped_eq (m : PhaseMonitor) : m.wrapped = { m with
    sinceMark := min 2048 (m.sinceMark + 1)
    chainCount := 0
    zeroMark := false
    window := if m.state = .locked then (m.window ++ [0]).drop (m.window.length + 1 - 4) else m.window } := by
  unfold PhaseMonitor.wrapped newest
  rw [List.length_append]
  rfl

theorem takePulse_wraps (on : s.phase.state ≠ .off) (wraps : s.params.chainLength ≤ s.phase.chainCount + 1) :
    takePulse s = ({ s with phase := s.phase.wrapped }, false) := by
  unfold takePulse
  exact (if_neg on).trans (if_pos ((wraps_iff _ _).mpr wraps))

theorem takePulse_counts (on : s.phase.state ≠ .off) (more : s.phase.chainCount + 1 < s.params.chainLength) :
    takePulse s = if s.phase.state = .locked ∧ s.phase.chainCount + 1 = 1 ∧ s.phase.zeroMark = false
      then takeError .missing { s with phase := s.phase.counted } else ({ s with phase := s.phase.counted }, false) := by
  unfold takePulse
  exact (if_neg on).trans (if_neg fun wraps => absurd ((wraps_iff _ _).mp wraps) (Nat.not_le.mpr more))

/-! ### The marks (R130 to R136) -/

theorem execHomeMark_of (low : s.home = false) {u : State} (start : u = newMoment { s with home := true }) :
    exec .homeMark s = .next (handPhaseFault (takeMark u).2 (takeMark u).1) := by
  rw [start]
  exact if_neg (by simp [low])

theorem takeMark_repeated (state : s.phase.state = .acquiring ∨ s.phase.state = .locked ∨ s.phase.state = .lost) (zero : s.phase.sinceMark = 0) :
    takeMark s = (s, false) := by
  refine if_pos ?_
  unfold repeatMark
  rcases state with e | e | e <;> rw [zero, e] <;> rfl

theorem repeatMark_not (moved : s.phase.sinceMark ≠ 0) : repeatMark s = false := by
  simp [repeatMark, moved]

theorem takeMark_off (off : s.phase.state = .off) : takeMark s = (s, false) := by
  have first : repeatMark s = false := by simp [repeatMark, off]
  unfold takeMark
  rw [first, off]
  rfl

theorem takeMark_seeking (seeking : s.phase.state = .seeking) :
    takeMark s = markJudged (changePhase { s.phase with state := .acquiring, chainCount := 0 } none s, false) := by
  have first : repeatMark s = false := by simp [repeatMark, seeking]
  unfold takeMark
  rw [first, seeking]
  rfl

theorem takeMark_acquiring (state : s.phase.state = .acquiring) (moved : s.phase.sinceMark ≠ 0) :
    takeMark s = markJudged (markAcquiring s, false) := by
  unfold takeMark
  rw [repeatMark_not moved, state]
  rfl

theorem takeMark_locked (state : s.phase.state = .locked) (moved : s.phase.sinceMark ≠ 0) : takeMark s = markJudged (markLocked s) := by
  unfold takeMark
  rw [repeatMark_not moved, state]
  rfl

theorem takeMark_lost (state : s.phase.state = .lost) (moved : s.phase.sinceMark ≠ 0) : takeMark s = markJudged (markLost s, false) := by
  unfold takeMark
  rw [repeatMark_not moved, state]
  rfl

/-- A misplaced mark at another count than the last one (R134). -/
theorem misplacedMark_first (other : s.phase.lastMisplaced ≠ some d) :
    misplacedMark d s = { s with phase := { s.phase with lastMisplaced := some d } } := by
  unfold misplacedMark
  rw [if_neg other]

/-- A second misplaced mark at one count is a phase shift (R134). -/
theorem misplacedMark_again (same : s.phase.lastMisplaced = some d) :
    misplacedMark d s = raise (.phaseShift { d := d, chainLength := s.params.chainLength, state := s.phase.state })
      { s with phase := { s.phase with lastMisplaced := some d } } := by
  unfold misplacedMark
  rw [if_pos same]
  rfl

/-- A misplaced mark moves the last misplaced count, and a shift raises PHASE_SHIFT (R134). -/
theorem misplacedMark_moved (d : Nat) (s : State) :
    let w := misplacedMark d s
    w = { s with phase := { s.phase with lastMisplaced := some d }, link := { s.link with notices := w.link.notices } }
      ∧ (∀ i : Fin 33, i ≠ 5 → w.link.notices[i] = s.link.notices[i])
      ∧ (s.phase.lastMisplaced ≠ some d → w.link.notices = s.link.notices)
      ∧ (s.phase.lastMisplaced = some d →
        Noticed w 5 (.phaseShift { d := d, chainLength := s.params.chainLength, state := s.phase.state })) := by
  by_cases same : s.phase.lastMisplaced = some d
  · rw [misplacedMark_again same]
    exact ⟨rfl, fun i other => raise_notice_other _ _ i other, fun h => absurd same h, fun _ => noticed_raise _ _⟩
  · rw [misplacedMark_first same]
    exact ⟨rfl, fun _ _ => rfl, fun _ => rfl, fun h => absurd h same⟩

/-- What an acquiring mark does that locks (R131). -/
theorem markAcquiring_locks (zero : s.phase.chainCount = 0) (same : s.phase.sinceMark = s.params.chainLength) :
    markAcquiring s = changePhase { s.phase with state := .locked, window := [0], zeroMark := true, lastMisplaced := none } none s :=
  if_pos ⟨zero, same⟩

/-- What a mark does that changes the phase state and strikes nothing (R128, R137). -/
theorem judged_changePhase {l : PhaseMonitor} (changes : s.phase.state ≠ l.state) :
    let t := (markJudged (changePhase l none s, false)).1
    t = { s with
        phase := { l with sinceMark := 0 }
        line := { s.line with feed := t.line.feed }
        link := { s.link with notices := t.link.notices } }
      ∧ (∀ c, t.line.feed.has c = if c = .phase then l.state.suppresses else s.line.feed.has c)
      ∧ Noticed t 4 (phaseNotice l s.params.chainLength none) := by
  have moved := changePhase_moved l none s
  have has := changePhase_has l none s
  have told := noticed_changePhase changes none
  refine ⟨?_, has, told⟩
  change { changePhase l none s with phase := { (changePhase l none s).phase with sinceMark := 0 } } = _
  rw [moved]
  rfl

end

/-- Settles O54: each pulse and each mark is one case of the monitor's state and count; a loss is a change of the
phase state with the cells it strikes. -/
theorem chainCountAndMarks : Obligations.ChainCountAndMarks := by
  intro s m C wrapped u marked judged pulse struck bound offers feeds told loses
  have counts : struckCounts s.track.cells = (bound, offers) := by
    unfold struckCounts
    refine Prod.ext ?_ ?_ <;> exact List.countP_congr fun c _ => by simp
  have mark (low : s.home = false) : exec .homeMark s = .next (handPhaseFault (takeMark u).2 (takeMark u).1) := execHomeMark_of low rfl
  have lost (before t : State) (l : PhaseMonitor) (h : Loses s before t l) : loses before l t := by
    obtain ⟨whole, has, notice, others⟩ := h
    rw [counts] at notice
    exact ⟨whole, has, notice, others⟩
  have judges (d : Nat) (state : PhaseState) (was : m.state = state) (l : PhaseMonitor)
      (rule : exec .homeMark s = .next { misplacedMark d u with phase := { l with sinceMark := 0 } }) : judged state d l := by
    obtain ⟨whole, others, first, again⟩ := misplacedMark_moved d u
    refine ⟨fun other => ?_, fun same => ⟨_, rule, ?_, ?_, others⟩⟩
    · rw [rule, misplacedMark_first (s := u) other]
    · rw [whole]
    · rw [← was]
      exact again same
  refine ⟨fun off => ?_, fun on wraps => ?_, fun on more => ?_, fun on more not => ?_, fun earlier newest state zero unmarked long window => ?_,
    rfl, fun high => ?_, fun low => ⟨fun off => ?_, fun state repeated => ?_, fun seeking => ?_, fun state moved zero same => ?_,
      fun state moved other => ?_, fun state moved zero => ?_, fun d earlier newest state moved count nonzero window => ?_,
      fun state moved zero => ?_, fun d state moved count nonzero => ?_⟩⟩
  · exact ⟨if_neg fun h => h.1 off, takePulse_off off⟩
  · have monitor : s.phase.wrapped = wrapped := wrapped_eq m
    refine ⟨?_, ?_⟩
    · rw [← monitor]
      exact if_pos ⟨on, (wraps_iff _ _).mpr wraps⟩
    · rw [← monitor]
      exact takePulse_wraps on wraps
  · exact if_neg fun h => absurd ((wraps_iff _ _).mp h.2) (Nat.not_le.mpr more)
  · refine (takePulse_counts on more).trans (if_neg fun ⟨state, one, unmarked⟩ => not ⟨state, ?_, unmarked⟩)
    exact Nat.succ.inj one
  · intro errors missed
    have more : s.phase.chainCount + 1 < s.params.chainLength := by
      rw [show s.phase.chainCount = 0 from zero]
      exact long
    have counted : s.phase.counted = missed :=
      congrArg (fun n => { m with sinceMark := min 2048 (m.sinceMark + 1), chainCount := n + 1 }) zero
    have rule : pulse = takeError .missing { s with phase := missed } := by
      rw [← counted]
      exact (takePulse_counts (by rw [show s.phase.state = .locked from state]; exact fun h => by cases h) more).trans
        (if_pos ⟨state, congrArg (· + 1) zero, unmarked⟩)
    have entered : addError missed.window = errors := by
      rw [show missed.window = earlier ++ [newest] from window]
      exact addError_append earlier newest
    have erred : erredState { s with phase := missed } = { s with phase := { missed with window := errors } } := by
      rw [← entered]
      rfl
    refine ⟨fun few => ?_, fun many => ?_⟩
    · rw [rule, takeError_few (by rw [← entered] at few; exact few), erred]
    · intro l
      have monitor : lostMonitor .missing { missed with window := errors } = l := by
        have flag : missed.zeroMark = false := unmarked
        unfold lostMonitor
        rw [← flag]
      have lose := loses_enterLost (s := s) (before := s) (e := { s with phase := { missed with window := errors } }) (cause := .missing)
        state rfl rfl rfl rfl rfl (fun _ _ => rfl)
      rw [monitor] at lose
      rw [rule, takeError_many (by rw [← entered] at many; exact many), erred]
      exact ⟨rfl, lost _ _ _ lose, enterLost_notice (by decide) (by decide)⟩
  · exact if_pos high
  · rw [mark low, takeMark_off (s := u) off]
    rfl
  · rw [mark low, takeMark_repeated (s := u) state repeated]
    rfl
  · rw [mark low, takeMark_seeking (s := u) seeking]
    obtain ⟨whole, has, told'⟩ := judged_changePhase (s := u) (l := { m with state := .acquiring, chainCount := 0 })
      (by rw [show u.phase.state = .seeking from seeking]; exact fun h => by cases h)
    exact ⟨_, rfl, whole, has, told'⟩
  · rw [mark low, takeMark_acquiring (s := u) state moved, markAcquiring_locks (s := u) zero same]
    obtain ⟨whole, has, told'⟩ := judged_changePhase (s := u)
      (l := { m with state := .locked, window := [0], zeroMark := true, lastMisplaced := none })
      (by rw [show u.phase.state = .acquiring from state]; exact fun h => by cases h)
    exact ⟨_, rfl, whole, has, told'⟩
  · rw [mark low, takeMark_acquiring (s := u) state moved]
    unfold markAcquiring
    rw [if_neg other]
    rfl
  · rw [mark low, takeMark_locked (s := u) state moved]
    unfold markLocked
    rw [if_pos zero]
    rfl
  · intro errors l
    obtain ⟨whole, others, first, again⟩ := misplacedMark_moved d u
    have locks : markLocked u = takeError (.misplaced d) (misplacedMark d u) := by
      unfold markLocked
      rw [show u.phase.chainCount = d from count]
      exact if_neg nonzero
    have rule := (mark low).trans (congrArg (fun r : State × Bool => Host.Outcome.next (handPhaseFault r.2 r.1))
      ((takeMark_locked (s := u) state moved).trans (congrArg markJudged locks)))
    have phase : (misplacedMark d u).phase = { m with lastMisplaced := some d } := by rw [whole]
    have entered : addError (misplacedMark d u).phase.window = errors := by
      rw [phase, show m.window = earlier ++ [newest] from window]
      exact addError_append earlier newest
    refine ⟨fun few => judges d .locked state _ ?_, fun many => ?_⟩
    · rw [takeError_few (by rw [entered]; exact few)] at rule
      rw [rule]
      unfold erredState
      rw [entered, phase]
      rfl
    · rw [takeError_many (by rw [entered]; exact many)] at rule
      have erred : (erredState (misplacedMark d u)).phase = { m with window := errors, lastMisplaced := some d } := by
        unfold erredState
        rw [entered, phase]
      have lose := loses_enterLost (s := s) (before := u) (e := erredState (misplacedMark d u)) (cause := .misplaced d)
        (by rw [erred]; exact state) (by unfold erredState; rw [whole]) rfl rfl rfl rfl others
      have judge := lose.judged
      rw [erred] at judge
      have shift : (enterLost (.misplaced d) (erredState (misplacedMark d u))).link.notices[(5 : Fin 33)]
          = (misplacedMark d u).link.notices[(5 : Fin 33)] := enterLost_notice (by decide) (by decide)
      refine ⟨_, rule, lost _ _ _ judge, ?_, fun other => ?_, fun same => ?_⟩
      · obtain ⟨same, -⟩ := judge
        refine FaultTaken.through (x := (markJudged (enterLost (.misplaced d) (erredState (misplacedMark d u)), true)).1) ?_ rfl
        exact congrArg State.line same
      · refine shift.trans ?_
        rw [first other]
      · have told' := again same
        unfold Noticed at *
        rw [← state]
        exact (congrArg (Option.map _) shift).trans told'
  · rw [mark low, takeMark_lost (s := u) state moved]
    unfold markLost
    rw [if_pos zero]
    rfl
  · refine judges d .lost state _ ?_
    have marks : markLost u = misplacedMark d u := by
      unfold markLost
      rw [show u.phase.chainCount = d from count]
      exact if_neg nonzero
    have phase : (misplacedMark d u).phase = { m with lastMisplaced := some d } := by rw [(misplacedMark_moved d u).1]
    have judge : markJudged (misplacedMark d u, false)
        = ({ misplacedMark d u with phase := { { m with lastMisplaced := some d } with sinceMark := 0 } }, false) := by
      unfold markJudged
      dsimp only
      rw [phase]
    rw [mark low, takeMark_lost (s := u) state moved, marks, judge]
    rfl

end Sys2Proof.Machine
end

section
/-! How a cell may change where no larger change has begun: it gets no new offer, comes to await the gate only from
its offer and the stacker only from the gate, keeps the exchanges it has, and its record or none. -/

namespace Sys2Proof.Machine

/-- The cell holds what the gate judges (R57). -/
def AwaitsGate (c : Cell) : Prop :=
  c.content = .bound ∨ c.content = .condemned ∨ c.content = .void ∨ c.content = .proof

/-- The cell holds a record that the stacker takes (R57). -/
def AwaitsStacker (c : Cell) : Prop := c.content = .passed ∧ c.record ≠ none

/-- The cell holds an item, or is about to. -/
def HoldsItem (c : Cell) : Prop := c.content ≠ .empty ∧ c.content ≠ .diverted

/-- The change of a cell by a move that is no stage of a larger change, and, where its exchanges need not stay, by an
exchange's end. -/
structure CellFlow (stay : Prop) (c d : Cell) : Prop where
  exchanges : stay → c.exchanges ⊆ d.exchanges
  offered : d.content = .offered → c.content = .offered ∧ d.record = c.record
  gate : AwaitsGate d → AwaitsGate c ∨ c.content = .offered
  stacker : AwaitsStacker d → AwaitsStacker c ∨ c.content = .bound
  item : HoldsItem d → HoldsItem c

variable {stay : Prop}

theorem CellFlow.refl (c : Cell) : CellFlow stay c c :=
  ⟨fun _ => List.Subset.refl _, fun h => ⟨h, rfl⟩, .inl, .inl, id⟩

/-- What the content and the record of a cell decide. -/
theorem CellFlow.of_same {c d : Cell} (exchanges : stay → c.exchanges ⊆ d.exchanges) (content : d.content = c.content)
    (record : d.record = c.record) : CellFlow stay c d := by
  refine ⟨exchanges, fun h => ⟨content ▸ h, record⟩, fun h => .inl ?_, fun h => .inl ?_, fun h => ?_⟩
  · unfold AwaitsGate at *
    rwa [content] at h
  · unfold AwaitsStacker at *
    rwa [content, record] at h
  · unfold HoldsItem at *
    rwa [content] at h

/-- A cell that comes to await nothing. -/
theorem CellFlow.of_idle {c d : Cell} (exchanges : d.exchanges = c.exchanges) (content : d.content = .empty ∨ d.content = .diverted) :
    CellFlow stay c d := by
  refine ⟨fun _ e => exchanges ▸ id, fun h => ?_, fun h => ?_, fun h => ?_, fun h => ?_⟩ <;>
    rcases content with content | content <;>
    simp_all [AwaitsGate, AwaitsStacker, HoldsItem]

/-- A cell that comes to await the gate from its offer or from there. -/
theorem CellFlow.of_gate {c d : Cell} (exchanges : d.exchanges = c.exchanges) (before : c.content = .offered ∨ c.content = .bound)
    (after : AwaitsGate d) : CellFlow stay c d := by
  refine ⟨fun _ e => exchanges ▸ id, fun h => ?_, fun _ => ?_, fun h => ?_, fun _ => ?_⟩ <;>
    rcases before with before | before <;>
    simp_all [AwaitsGate, AwaitsStacker, HoldsItem]

/-- A passed cell that holds no record, or held it bound. -/
theorem CellFlow.of_passed {c d : Cell} (exchanges : d.exchanges = c.exchanges) (after : d.content = .passed)
    (holds : HoldsItem c) (record : d.record = none ∨ c.content = .bound) : CellFlow stay c d := by
  refine ⟨fun _ e => exchanges ▸ id, fun h => ?_, fun h => ?_, fun h => ?_, fun _ => holds⟩ <;>
    rcases record with record | record <;>
    simp_all [AwaitsGate, AwaitsStacker]

theorem CellKept.flow {c d : Cell} (h : CellKept c d) : CellFlow stay c d := by
  obtain ⟨-, record, -, -, exchanges, content | ⟨bound, condemned⟩⟩ := h
  · exact .of_same (fun _ e => exchanges ▸ id) content record
  · exact .of_gate exchanges (.inr bound) (.inr (.inl condemned))

/-! ### The cells of the track -/

/-- From s to t every cell has flowed; whether its exchanges stay is said beside. -/
def CellsFlow (stay : Prop) (s t : State) : Prop := List.Forall₂ (CellFlow stay) s.track.cells t.track.cells

theorem cellsFlow_of_track {s t : State} (cells : t.track.cells = s.track.cells) : CellsFlow stay s t := by
  unfold CellsFlow
  rw [cells]
  exact List.forall₂_same.mpr fun c _ => .refl c

theorem forall₂_modify {R : Cell → Cell → Prop} (same : ∀ c, R c c) {f : Cell → Cell} {p : Nat} {l : List Cell}
    (here : ∀ c, l[p]? = some c → R c (f c)) : List.Forall₂ R l (l.modify p f) := by
  induction l generalizing p with
  | nil =>
    rw [List.modify_nil]
    exact .nil
  | cons c l ih =>
    cases p with
    | zero => exact .cons (here c rfl) (List.forall₂_same.mpr fun d _ => same d)
    | succ p => exact .cons (same c) (ih fun d h => here d (by simpa using h))

theorem cellsFlow_modify {s t : State} {f : Cell → Cell} {p : Nat} (cells : t.track.cells = s.track.cells.modify p f)
    (here : ∀ c, s.track.cells[p]? = some c → CellFlow stay c (f c)) : CellsFlow stay s t := by
  unfold CellsFlow
  rw [cells]
  exact forall₂_modify CellFlow.refl here

/-- The change of the one cell that stands at a position. -/
theorem cellsFlow_at {s t : State} {f : Cell → Cell} {p : Nat} {c : Cell} (cell : s.track.cells[p]? = some c)
    (cells : t.track.cells = s.track.cells.modify p f) (here : CellFlow stay c (f c)) : CellsFlow stay s t := by
  refine cellsFlow_modify cells fun d there => ?_
  obtain rfl : c = d := Option.some.inj (cell.symm.trans there)
  exact here

/-- The cell that now stands at a position has flowed from the one that stood there. -/
theorem CellsFlow.at {s t : State} (h : CellsFlow stay s t) {p : Nat} {d : Cell} (cell : t.track.cells[p]? = some d) :
    ∃ c, s.track.cells[p]? = some c ∧ CellFlow stay c d := by
  obtain ⟨same, each⟩ := List.forall₂_iff_get.mp h
  obtain ⟨short, rfl⟩ := List.getElem?_eq_some_iff.mp cell
  exact ⟨_, List.getElem?_eq_getElem (same ▸ short), each p (same ▸ short) short⟩

theorem CellsFlow.loosened {s t : State} (h : CellsFlow True s t) : CellsFlow False s t :=
  List.Forall₂.imp (fun _ _ flow => { flow with exchanges := False.elim }) h

theorem CellsFlow.length {s t : State} (h : CellsFlow stay s t) : t.track.cells.length = s.track.cells.length :=
  (List.Forall₂.length_eq h).symm

/-! ### The moves -/

theorem withoutRecord_exchanges (c : Cell) : c.withoutRecord.exchanges = c.exchanges := by
  unfold Cell.withoutRecord
  split <;> rfl

theorem withoutRecord_record (c : Cell) : c.withoutRecord.record = none := by
  unfold Cell.withoutRecord
  split
  · rfl
  next h => exact h

theorem withoutRecord_content (c : Cell) : c.withoutRecord.content = c.content := by
  unfold Cell.withoutRecord
  split <;> rfl

theorem fedBy_exchanges (n : SlotNo) (double : Bool) (demands : List Demand) (c : Cell) :
    (c.fedBy n double demands).exchanges = c.exchanges := by
  unfold Cell.fedBy
  dsimp only
  split
  · split
    · obtain ⟨-, -, exchanges, -, -⟩ := condemn_fixed { kind := .mainDouble, station := some n } { c.offerTaken .bound with demands := demands }
      exact exchanges
    · rfl
  · split <;> rfl

/-- A fed cell awaits the gate (R77, R78, R81). -/
theorem fedBy_awaitsGate (n : SlotNo) (double : Bool) (demands : List Demand) (c : Cell) :
    AwaitsGate (c.fedBy n double demands) := by
  have taken : (c.offerTaken .bound).content = .bound ∨ (c.offerTaken .bound).content = .condemned := by
    unfold Cell.offerTaken
    dsimp only
    split
    · exact .inr rfl
    · exact .inl rfl
  have proof : (c.offerTaken .proof).content = .proof := by simp [Cell.offerTaken]
  unfold Cell.fedBy AwaitsGate
  dsimp only
  split
  · split
    · rw [(condemn_content _ _).1]
      split
      · simp
      · rcases taken with h | h <;> simp [h]
    · rcases taken with h | h <;> simp [h]
  · split
    · exact .inr (.inr (.inr proof))
    · exact .inr (.inr (.inr proof))

theorem cellFlow_divert {c : Cell} : CellFlow stay c { c.withoutRecord with content := .diverted } :=
  .of_idle (withoutRecord_exchanges c) (.inr rfl)

theorem offerBack_cells (p : Nat) (c : Cell) (v : Content) (s : State) :
    (offerBack p c v s).track.cells = s.track.cells.modify p (Cell.offerWithdrawn v) := by
  unfold offerBack
  dsimp only
  split <;> rfl

/-- The move of one block that is no stage of a larger change lets every cell flow. -/
theorem WorkMove.flow {s t : State} (h : WorkMove False s t) (hs : RecordByContent s) : CellsFlow stay s t := by
  have diverted (p : Nat) : CellsFlow stay s (divertRecord p s) := cellsFlow_modify rfl fun c _ => cellFlow_divert
  cases h with
  | cells cs kept => exact List.Forall₂.imp (fun _ _ => CellKept.flow) kept
  | exchangeOpened p e =>
    exact cellsFlow_modify rfl fun c _ => .of_same (fun _ => List.subset_append_left _ _) rfl rfl
  | loaded records => exact cellsFlow_of_track (by rw [acceptRecords_eq])
  | purged n => exact cellsFlow_of_track (by unfold purgeQueue; rw [releaseAll_eq]; rfl)
  | fed p n double demands c cell content =>
    exact cellsFlow_at cell rfl (.of_gate (fedBy_exchanges n double demands c) (.inl content) (fedBy_awaitsGate n double demands c))
  | withdrawn p c v cell content ends =>
    refine cellsFlow_at cell (offerBack_cells p c v s) ?_
    rcases ends with rfl | rfl
    · exact .of_idle (withoutRecord_exchanges c) (.inl rfl)
    · exact .of_gate (withoutRecord_exchanges c) (.inl content) (.inr (.inr (.inl rfl)))
  | gatePassed p c cell content =>
    exact cellsFlow_at cell rfl (.of_passed rfl rfl (by simp [HoldsItem, content]) (.inr content))
  | itemDiverted p c cell => exact cellsFlow_at cell rfl (.of_idle rfl (.inr rfl))
  | recordless p => exact diverted p
  | remade p => exact cellsFlow_modify (by simp [remakeBack]; rfl) fun c _ => cellFlow_divert
  | attemptsOver p => exact cellsFlow_modify (by simp [reportGone, releaseVersion]; rfl) fun c _ => cellFlow_divert
  | itemEscaped p c cell content =>
    have sound : CellSound c := hs c (List.mem_of_getElem? cell)
    refine cellsFlow_at cell rfl (.of_passed rfl rfl ?_ (.inl ?_))
    · rcases content with h | h | ⟨h, -⟩ <;> simp [HoldsItem, h]
    · obtain ⟨-, -, recordless, -, -⟩ := sound
      rcases content with h | h | ⟨-, h⟩
      · exact recordless (.inr (.inl h))
      · exact recordless (.inr (.inr (.inl h)))
      · exact h
  | recordEscaped p c r cause cell content =>
    have cells : (finishRecord p r (escapedReport r cause) (setEscaped p s)).track.cells
        = s.track.cells.modify p (fun c => Cell.withoutRecord { c with content := .passed, escaped := true }) := by
      simp [finishRecord, releaseVersion, setEscaped, modifyCell, List.modify_modify_eq, Function.comp_def]
    exact cellsFlow_at cell cells (.of_passed (withoutRecord_exchanges _) (withoutRecord_content _)
      (by simp [HoldsItem, content]) (.inl (withoutRecord_record _)))
  | finished p c r report cell content =>
    have cells : (finishRecord p r report s).track.cells = s.track.cells.modify p Cell.withoutRecord := by
      simp [finishRecord, releaseVersion, modifyCell]
    exact cellsFlow_at cell cells (.of_passed (withoutRecord_exchanges c) ((withoutRecord_content c).trans content)
      (by simp [HoldsItem, content]) (.inl (withoutRecord_record c)))
  | bundleEnd | trayEnd => exact cellsFlow_of_track (congrArg Track.cells (queueReport_track _ s))
  | exchangeEnded _ _ stage | shifted stage | stranded _ _ _ _ stage | offered _ _ _ _ stage | proofOffered _ stage
  | trayBegin _ _ stage | bundleBegin _ _ _ stage => exact stage.elim
  | jobs | defined | counted | builder => exact cellsFlow_of_track rfl

end Sys2Proof.Machine
end

section
/-! What a move does to the accounts of the part: the records in queue and cells, the versions that count them, and
the reports made or to be made. A move that is no stage of a larger change books one of few entries. -/

namespace Sys2Proof.Machine

/-- The records in the cells, from position 0 on. -/
def cellRecords (s : State) : List (Option Record) := s.track.cells.map (·.record)

/-- The reports in the queue, and those that the open bundle and the open tray will make. -/
def outstanding (s : State) : Nat :=
  s.link.reports.length + (if s.bundles.bundle.isSome then 1 else 0) + (if s.bundles.tray.isSome then 1 else 0)

/-- An entry in the accounts, from s to t. -/
inductive Ledger (s t : State) : Prop
  | quiet (intake : t.intake = s.intake) (versions : t.versions = s.versions) (records : cellRecords t = cellRecords s)
      (reports : outstanding t ≤ outstanding s)
  | back {p : Nat} {c : Cell} {r : Record} (cell : s.track.cells[p]? = some c) (content : c.content = .offered)
      (record : c.record = some r) (ended : ∀ d, t.track.cells[p]? = some d → d.content ≠ .offered)
      (intake : t.intake = { s.intake with queue := r :: s.intake.queue }) (versions : t.versions = s.versions)
      (records : cellRecords t = (cellRecords s).set p none) (reports : outstanding t ≤ outstanding s)
  | remade {p : Nat} {r : Record} (attempts : Nat) (held : (cellRecords s)[p]? = some (some r))
      (intake : t.intake = { s.intake with queue := insertRemake { r with attempts := attempts, kind := .remake } s.intake.queue })
      (versions : t.versions = s.versions) (records : cellRecords t = (cellRecords s).set p none)
      (reports : outstanding t ≤ outstanding s + 1)
  | gone {p : Nat} {r : Record} (held : (cellRecords s)[p]? = some (some r)) (intake : t.intake = s.intake)
      (versions : t.versions = (releaseVersion r s).versions) (records : cellRecords t = (cellRecords s).set p none)
      (reports : outstanding t ≤ outstanding s + 1)
  | loaded (loads : List LoadRecord) (allowed : loadRefusal s loads = none) (after : t = loads.foldl acceptRecord s)
  | purged (fromSequence : Nat) (after : t = purgeQueue fromSequence s)
  | defined (v : Fin 32) (d : Option VersionDef) (unused : s.versions[v].refCount = 0) (after : t = setVersion v d s)

/-! ### Records of changed cells -/

theorem cellRecords_get {s : State} {p : Nat} {c : Cell} (cell : s.track.cells[p]? = some c) :
    (cellRecords s)[p]? = some c.record := by simp [cellRecords, cell]

theorem map_record_modify_none {f : Cell → Cell} (left : ∀ c, (f c).record = none) (p : Nat) (l : List Cell) :
    (l.modify p f).map (·.record) = (l.map (·.record)).set p none := by
  induction l generalizing p with
  | nil => simp
  | cons c l ih =>
    cases p with
    | zero => simp [left]
    | succ p => simpa using ih p

theorem map_record_modify_same {f : Cell → Cell} {p : Nat} {l : List Cell}
    (same : ∀ c, l[p]? = some c → (f c).record = c.record) : (l.modify p f).map (·.record) = l.map (·.record) := by
  induction l generalizing p with
  | nil => simp
  | cons c l ih =>
    cases p with
    | zero => simp [same c rfl]
    | succ p => simpa using ih fun d h => same d (by simpa using h)

theorem cellRecords_left {s t : State} {f : Cell → Cell} {p : Nat} (cells : t.track.cells = s.track.cells.modify p f)
    (left : ∀ c, (f c).record = none) : cellRecords t = (cellRecords s).set p none := by
  unfold cellRecords
  rw [cells]
  exact map_record_modify_none left p _

theorem cellRecords_same {s t : State} {f : Cell → Cell} {p : Nat} {c : Cell} (cell : s.track.cells[p]? = some c)
    (cells : t.track.cells = s.track.cells.modify p f) (same : (f c).record = c.record) : cellRecords t = cellRecords s := by
  unfold cellRecords
  rw [cells]
  refine map_record_modify_same fun d here => ?_
  obtain rfl : c = d := Option.some.inj (cell.symm.trans here)
  exact same

theorem cellRecords_of_cells {s t : State} (cells : t.track.cells = s.track.cells) : cellRecords t = cellRecords s := by
  unfold cellRecords
  rw [cells]

theorem cellsKept_records {l k : List Cell} (kept : List.Forall₂ CellKept l k) : k.map (·.record) = l.map (·.record) := by
  induction kept with
  | nil => rfl
  | cons one _ ih =>
    obtain ⟨-, record, -, -, -, -⟩ := one
    rw [List.map_cons, List.map_cons, record, ih]

theorem record_fedBy (n : SlotNo) (double : Bool) (demands : List Demand) (c : Cell) :
    (c.fedBy n double demands).record = c.record := by
  unfold Cell.fedBy
  dsimp only
  split
  · split
    · obtain ⟨-, record, -, -, -⟩ := condemn_fixed { kind := .mainDouble, station := some n } { c.offerTaken .bound with demands := demands }
      exact record
    · rfl
  · split <;> rfl

/-! ### Reports -/

theorem outstanding_same {s t : State} (reports : t.link.reports = s.link.reports) (bundles : t.bundles = s.bundles) :
    outstanding t = outstanding s := by
  unfold outstanding
  rw [reports, bundles]

theorem outstanding_queueReport (r : Report) (s : State) : outstanding (queueReport r s) = outstanding s + 1 := by
  unfold outstanding
  rw [queueReport_link_reports, queueReport_bundles, List.length_append, List.length_singleton]
  omega

/-- A closed bundle has made the report it was to make (R154). -/
theorem outstanding_bundleClosed {s : State} {b : OpenBundle} (bundle : s.bundles.bundle = some b) (reason : ClosureReason) :
    outstanding (bundleClosed reason b s) = outstanding s := by
  unfold outstanding bundleClosed
  simp only [queueReport_link_reports, queueReport_bundles, List.length_append, List.length_singleton, bundle,
    Option.isSome_none, Option.isSome_some, Bool.false_eq_true, if_true, if_false]

theorem outstanding_trayClosed {s : State} {t : OpenTray} (tray : s.bundles.tray = some t) (reason : ClosureReason) :
    outstanding (trayClosed reason t s) = outstanding s := by
  unfold outstanding trayClosed
  simp only [queueReport_link_reports, queueReport_bundles, List.length_append, List.length_singleton, tray,
    Option.isSome_none, Option.isSome_some, Bool.false_eq_true, if_true, if_false]
  omega

/-! ### The moves -/

/-- The move of one block that is no stage of a larger change books an entry. -/
theorem WorkMove.ledger {s t : State} (h : WorkMove False s t) : Ledger s t := by
  have quiet {u : State} (intake : u.intake = s.intake) (versions : u.versions = s.versions)
      (records : cellRecords u = cellRecords s) (reports : u.link.reports = s.link.reports) (bundles : u.bundles = s.bundles) :
      Ledger s u := .quiet intake versions records (outstanding_same reports bundles).le
  have diverted (p : Nat) : cellRecords (divertRecord p s) = (cellRecords s).set p none :=
    cellRecords_left (f := fun c => { c.withoutRecord with content := .diverted }) rfl withoutRecord_record
  cases h with
  | cells cs kept => exact quiet rfl rfl (cellsKept_records kept) rfl rfl
  | exchangeOpened p e => exact quiet rfl rfl (map_record_modify_same fun _ _ => rfl) rfl rfl
  | loaded records allowed => exact .loaded records allowed rfl
  | purged n => exact .purged n rfl
  | defined v d unused => exact .defined v d unused rfl
  | fed p n double demands c cell =>
    exact quiet rfl rfl (cellRecords_same cell rfl (record_fedBy n double demands c)) rfl rfl
  | withdrawn p c v cell content ends =>
    have cells := offerBack_cells p c v s
    have records : cellRecords (offerBack p c v s) = (cellRecords s).set p none :=
      cellRecords_left cells withoutRecord_record
    cases record : c.record with
    | none =>
      have same : cellRecords (offerBack p c v s) = cellRecords s :=
        cellRecords_same cell cells ((withoutRecord_record c).trans record.symm)
      refine quiet ?_ ?_ same ?_ ?_ <;> (unfold offerBack; rw [record]; rfl)
    | some r =>
      refine .back cell content record (fun d here => ?_) ?_ ?_ records ?_
      · rw [cells, List.getElem?_modify_eq, cell] at here
        obtain rfl : c.offerWithdrawn v = d := by simpa using here
        rcases ends with rfl | rfl <;> simp [Cell.offerWithdrawn]
      · unfold offerBack
        rw [record]
        rfl
      · unfold offerBack
        rw [record]
        rfl
      · refine (outstanding_same ?_ ?_).le <;> (unfold offerBack; rw [record]; rfl)
  | gatePassed p c cell => exact quiet rfl rfl (cellRecords_same cell rfl rfl) rfl rfl
  | itemDiverted p c cell => exact quiet rfl rfl (cellRecords_same cell rfl rfl) rfl rfl
  | recordless p c cell content empty =>
    exact quiet rfl rfl (cellRecords_same cell rfl ((withoutRecord_record c).trans empty.symm)) rfl rfl
  | remade p c r cause cell content record =>
    refine .remade (p := p) (r := r) (r.attempts + 1) ((cellRecords_get cell).trans (congrArg some record)) ?_ ?_ ?_ ?_
    · rw [remakeBack, queueReport_intake]
      rfl
    · rw [remakeBack, queueReport_versions]
      rfl
    · exact (cellRecords_of_cells (by rw [remakeBack, queueReport_track]; rfl)).trans (diverted p)
    · rw [remakeBack, outstanding_queueReport]
      exact Nat.add_le_add_right (outstanding_same rfl rfl).le 1
  | attemptsOver p c r cause cell content record =>
    refine .gone (p := p) (r := r) ((cellRecords_get cell).trans (congrArg some record)) ?_ ?_ ?_ ?_
    · rw [reportGone, queueReport_intake]
      rfl
    · rw [reportGone, queueReport_versions]
      rfl
    · exact (cellRecords_of_cells (by rw [reportGone, queueReport_track]; rfl)).trans (diverted p)
    · rw [reportGone, outstanding_queueReport]
      exact Nat.add_le_add_right (outstanding_same rfl rfl).le 1
  | itemEscaped p c cell => exact quiet rfl rfl (cellRecords_same cell rfl rfl) rfl rfl
  | recordEscaped p c r cause cell content record =>
    refine .gone (p := p) (r := r) ((cellRecords_get cell).trans (congrArg some record)) ?_ ?_ ?_ ?_
    · rw [finishRecord, queueReport_intake]
      rfl
    · rw [finishRecord, queueReport_versions]
      rfl
    · refine (cellRecords_left (s := setEscaped p s) (f := Cell.withoutRecord) (p := p) ?_ withoutRecord_record).trans ?_
      · rw [finishRecord, queueReport_track]
        rfl
      · rw [cellRecords_same (s := s) (t := setEscaped p s) cell rfl rfl]
    · rw [finishRecord, outstanding_queueReport]
      exact Nat.add_le_add_right (outstanding_same rfl rfl).le 1
  | finished p c r report cell content record =>
    refine .gone (p := p) (r := r) ((cellRecords_get cell).trans (congrArg some record)) ?_ ?_ ?_ ?_
    · rw [finishRecord, queueReport_intake]
      rfl
    · rw [finishRecord, queueReport_versions]
      rfl
    · refine cellRecords_left (f := Cell.withoutRecord) (p := p) ?_ withoutRecord_record
      rw [finishRecord, queueReport_track]
      rfl
    · rw [finishRecord, outstanding_queueReport]
      exact Nat.add_le_add_right (outstanding_same rfl rfl).le 1
  | counted r unconfirmed => exact .quiet rfl rfl rfl (by simp [outstanding, countItem])
  | bundleEnd reason b bundle =>
    refine .quiet ?_ ?_ (cellRecords_of_cells ?_) (outstanding_bundleClosed bundle reason).le
    · exact queueReport_intake _ s
    · exact queueReport_versions _ s
    · exact congrArg Track.cells (queueReport_track _ s)
  | trayEnd reason b tray =>
    refine .quiet ?_ ?_ (cellRecords_of_cells ?_) (outstanding_trayClosed tray reason).le
    · exact queueReport_intake _ s
    · exact queueReport_versions _ s
    · exact congrArg Track.cells (queueReport_track _ s)
  | builder b bundle tray => exact .quiet rfl rfl rfl (by simp [outstanding, bundle, tray])
  | jobs j => exact quiet rfl rfl rfl rfl rfl
  | exchangeEnded _ _ stage | shifted stage | stranded _ _ _ _ stage | offered _ _ _ _ stage | proofOffered _ stage
  | trayBegin _ _ stage | bundleBegin _ _ _ stage => exact stage.elim

end Sys2Proof.Machine
end

section
/-! The invariant of O58 in the form that an advance and a result keep between their stages: exchanges just ended or
not yet opened are excused, and a record may still be owed the reports of the bundle and tray it closes. -/

namespace Sys2Proof.Machine

/-! ### The layout -/

theorem hasRole_eq (s : State) (r : Role) (n : SlotNo) : hasRole s r n = (layoutAt s n).any (·.1 == r) := by
  unfold hasRole layoutAt
  cases stationAt s n <;> rfl

theorem positionOf_eq (s : State) (n : SlotNo) : positionOf s n = (layoutAt s n).bind (·.2) := by
  unfold positionOf layoutAt
  cases stationAt s n <;> rfl

theorem SameLayout.hasRole {s t : State} (h : SameLayout s t) (r : Role) (n : SlotNo) :
    Machine.hasRole t r n = Machine.hasRole s r n := by rw [hasRole_eq, hasRole_eq, h n]

theorem SameLayout.positionOf {s t : State} (h : SameLayout s t) : Machine.positionOf t = Machine.positionOf s :=
  funext fun n => by rw [positionOf_eq, positionOf_eq, h n]

theorem SameLayout.slotsWith {s t : State} (h : SameLayout s t) (r : Role) : Machine.slotsWith t r = Machine.slotsWith s r := by
  unfold Machine.slotsWith
  exact List.filter_congr fun n _ => h.hasRole r n

theorem SameLayout.stands {s t : State} (h : SameLayout s t) {r : Role} {n : SlotNo} {p : Nat} :
    Stands t r n p ↔ Stands s r n p := by
  unfold Stands
  rw [h.slotsWith, h.positionOf]

theorem SameLayout.strung {s t : State} (h : SameLayout s t) : Strung t ↔ Strung s := by
  unfold Strung
  simp only [h.stands]

theorem SameLayout.stackerPosition {s t : State} (h : SameLayout s t) :
    Machine.stackerPosition t = Machine.stackerPosition s := by
  unfold Machine.stackerPosition positionWith slotWith
  rw [h.slotsWith, h.positionOf]

theorem SameLayout.stationsPlaced {s t : State} (h : SameLayout s t) (hs : StationsPlaced s) : StationsPlaced t := by
  intro n st entry
  have mine := h n
  unfold layoutAt at mine
  rw [entry, Option.map_some, eq_comm, Option.map_eq_some_iff] at mine
  obtain ⟨old, stood, pair⟩ := mine
  obtain ⟨role, position⟩ := Prod.mk.inj pair
  obtain ⟨drive, alone⟩ := hs n old stood
  rw [role, position] at drive
  refine ⟨drive, fun p place => ?_⟩
  obtain ⟨few, others⟩ := alone p (position.trans place)
  refine ⟨few, fun m other differs there => ?_⟩
  have theirs := h m
  unfold layoutAt at theirs
  rw [there, Option.map_some, eq_comm, Option.map_eq_some_iff] at theirs
  obtain ⟨old', stood', pair'⟩ := theirs
  exact (Prod.mk.inj pair').2 ▸ others m old' differs stood'

/-- The role of the one slot that has it. -/
theorem Stands.role {s : State} {r : Role} {n : SlotNo} {p : Nat} (h : Stands s r n p) :
    ∃ st, stationAt s n = some st ∧ st.role = r ∧ st.position = some p := by
  obtain ⟨slots, place⟩ := h
  have member : n ∈ slotsWith s r := by rw [slots]; exact List.mem_singleton_self n
  have has := (List.mem_filter.mp member).2
  unfold hasRole at has
  unfold positionOf at place
  obtain ⟨st, entry, position⟩ := Option.bind_eq_some_iff.mp place
  rw [entry, Option.any_some, beq_iff_eq] at has
  exact ⟨st, entry, has, position⟩

theorem Stands.unique {s : State} {r : Role} {n m : SlotNo} {p q : Nat} (h : Stands s r n p) (k : Stands s r m q) :
    n = m ∧ p = q := by
  obtain ⟨slots, place⟩ := h
  obtain ⟨slots', place'⟩ := k
  have same : n = m := List.head_eq_of_cons_eq (slots.symm.trans slots')
  subst same
  exact ⟨rfl, Option.some.inj (place.symm.trans place')⟩

theorem Stands.stackerPosition {s : State} {n : SlotNo} {p : Nat} (h : Stands s .stacker n p) :
    Machine.stackerPosition s = p := by
  obtain ⟨slots, place⟩ := h
  unfold Machine.stackerPosition positionWith slotWith
  rw [slots]
  simp [place]

/-- Two slots at one position are one (R2). -/
theorem StationsPlaced.alone {s : State} (h : StationsPlaced s) {n m : SlotNo} {p : Nat} (here : positionOf s n = some p)
    (there : positionOf s m = some p) : n = m := by
  unfold positionOf at here there
  obtain ⟨st, entry, place⟩ := Option.bind_eq_some_iff.mp here
  obtain ⟨other, entry', place'⟩ := Option.bind_eq_some_iff.mp there
  by_contra differs
  obtain ⟨-, alone⟩ := h n st entry
  exact (alone p place).2 m other (Ne.symm differs) entry' place'

/-! ### Where cells stand -/

/-- Position p has a cell for which slot n, whose station stands there, has a command to carry out. -/
def Due (s : State) (p : Nat) (n : SlotNo) : Prop :=
  ∃ c, s.track.cells[p]? = some c
    ∧ ((c.content = .offered ∧ Stands s .mainFeeder n p) ∨ (AwaitsGate c ∧ Stands s .gate n p)
      ∨ (AwaitsStacker c ∧ Stands s .stacker n p))

/-- No cell has got past the station that it awaits (R49, R57, R76). -/
def Placed (s : State) : Prop :=
  ∀ p c, s.track.cells[p]? = some c →
    (c.content = .offered → p = 0 ∧ ∃ n, Stands s .mainFeeder n 0)
      ∧ (AwaitsGate c → ∃ n g, Stands s .gate n g ∧ p ≤ g)
      ∧ (AwaitsStacker c → ∃ n last, Stands s .stacker n last ∧ p ≤ last)

/-- A due command is open, or excused. -/
def Awaited (excused : Nat → SlotNo → Prop) (s : State) : Prop :=
  ∀ p n c, s.track.cells[p]? = some c → Due s p n → excused p n ∨ { slot := n, closing := p } ∈ c.exchanges

theorem cellsPlaced_iff (s : State) : CellsPlaced s ↔ Placed s ∧ Awaited (fun _ _ => False) s := by
  constructor
  · intro h
    refine ⟨fun p c cell => ?_, fun p n c cell ⟨d, there, due⟩ => .inr ?_⟩
    · obtain ⟨feeder, gate, stacker⟩ := h p c cell
      refine ⟨fun offered => ?_, fun awaits => ?_, fun ⟨passed, record⟩ => ?_⟩
      · obtain ⟨front, n, stands, -⟩ := feeder offered
        exact ⟨front, n, stands⟩
      · obtain ⟨n, g, stands, before, -⟩ := gate awaits
        exact ⟨n, g, stands, before⟩
      · obtain ⟨n, last, stands, before, -⟩ := stacker passed record
        exact ⟨n, last, stands, before⟩
    · obtain rfl : c = d := Option.some.inj (cell.symm.trans there)
      obtain ⟨feeder, gate, stacker⟩ := h p c cell
      rcases due with ⟨offered, at_p⟩ | ⟨awaits, at_p⟩ | ⟨⟨passed, record⟩, at_p⟩
      · obtain ⟨rfl, m, stands, opened⟩ := feeder offered
        obtain ⟨rfl, -⟩ := at_p.unique stands
        exact opened
      · obtain ⟨m, g, stands, -, opened⟩ := gate awaits
        obtain ⟨rfl, rfl⟩ := at_p.unique stands
        exact opened rfl
      · obtain ⟨m, last, stands, -, opened⟩ := stacker passed record
        obtain ⟨rfl, rfl⟩ := at_p.unique stands
        exact opened rfl
  · rintro ⟨placed, awaited⟩ p c cell
    obtain ⟨feeder, gate, stacker⟩ := placed p c cell
    have opened {n : SlotNo} (due : Due s p n) : { slot := n, closing := p } ∈ c.exchanges :=
      (awaited p n c cell due).elim False.elim id
    refine ⟨fun offered => ?_, fun awaits => ?_, fun passed record => ?_⟩
    · obtain ⟨rfl, n, stands⟩ := feeder offered
      exact ⟨rfl, n, stands, opened ⟨c, cell, .inl ⟨offered, stands⟩⟩⟩
    · obtain ⟨n, g, stands, before⟩ := gate awaits
      refine ⟨n, g, stands, before, ?_⟩
      rintro rfl
      exact opened ⟨c, cell, .inr (.inl ⟨awaits, stands⟩)⟩
    · obtain ⟨n, last, stands, before⟩ := stacker ⟨passed, record⟩
      refine ⟨n, last, stands, before, ?_⟩
      rintro rfl
      exact opened ⟨c, cell, .inr (.inr ⟨⟨passed, record⟩, stands⟩)⟩

/-! ### What the records still cost in reports -/

/-- Three reports for each record of the first cells, one for each record of the rest. -/
def weigh (first : Nat) (l : List (Option Record)) : Nat :=
  (l.take first).countP Option.isSome * 3 + (l.drop first).countP Option.isSome

theorem reportsToCome_eq (s : State) :
    s.link.reports.length + reportsToCome s = outstanding s + weigh (stackerPosition s) (cellRecords s) := by
  have count (l : List Cell) : (l.map (·.record)).countP Option.isSome = l.countP (·.record.isSome) := by
    rw [List.countP_map]
    rfl
  unfold reportsToCome outstanding weigh cellRecords
  rw [← List.map_take, ← List.map_drop, count, count]
  omega

theorem heldRecords_eq (s : State) : heldRecords s = (cellRecords s).countP Option.isSome := by
  unfold heldRecords cellRecords
  rw [List.countP_map]
  rfl

/-! ### The invariant between the stages -/

/-- `Settled`, but for the excused exchanges, with the records of `extra` positions from the stacker on still at three
reports each. -/
structure Settling (extra : Nat) (excused : Nat → SlotNo → Prop) (s : State) : Prop where
  records : RecordByContent s
  stations : StationsPlaced s
  strung : Working s → Strung s
  placed : Placed s
  awaited : Awaited excused s
  length : s.track.cells.length ≤ stackerPosition s + 1
  ordered : QueueOrdered s
  fresh : freshCount s ≤ 256
  bounded : remakeCount s + heldRecords s + withdrawnAhead s ≤ 64
  jobs : s.track.printJobs ≤ 2
  counted : VersionsCounted s
  backlog : BacklogCause s
  reports : outstanding s + weigh (stackerPosition s + extra) (cellRecords s) ≤ 320

theorem settled_iff (s : State) : Settled s ↔ Settling 0 (fun _ _ => False) s := by
  constructor
  · rintro ⟨records, stations, strung, placed, length, ordered, ⟨fresh, bounded, jobs⟩, counted, backlog, reports⟩
    obtain ⟨placed, awaited⟩ := (cellsPlaced_iff s).mp placed
    rw [reportsToCome_eq] at reports
    exact ⟨records, stations, strung, placed, awaited, length, ordered, fresh, bounded, jobs, counted, backlog, reports⟩
  · rintro ⟨records, stations, strung, placed, awaited, length, ordered, fresh, bounded, jobs, counted, backlog, reports⟩
    refine ⟨records, stations, strung, (cellsPlaced_iff s).mpr ⟨placed, awaited⟩, length, ordered, ⟨fresh, bounded, jobs⟩,
      counted, backlog, ?_⟩
    rw [reportsToCome_eq]
    exact reports

end Sys2Proof.Machine
end

section
/-! Every entry of the ledger keeps the accounts: the order of the queue, the bound of remakes and held records, the
count of each version, and the reports made and to be made. -/

namespace Sys2Proof.Machine

variable {stay : Prop}

/-! ### A record leaves a cell -/

theorem countP_set_none {p : Option Record → Bool} (nothing : p none = false) {l : List (Option Record)} {i : Nat}
    {o : Option Record} (here : l[i]? = some o) : (l.set i none).countP p + (if p o then 1 else 0) = l.countP p := by
  induction l generalizing i with
  | nil => cases here
  | cons x l ih =>
    cases i with
    | zero =>
      obtain rfl : x = o := by simpa using here
      simp [List.countP_cons, nothing]
    | succ i =>
      have rest := ih (i := i) (by simpa using here)
      rw [List.set_cons_succ, List.countP_cons, List.countP_cons]
      omega

/-- A record that leaves its cell is owed one report less at least. -/
theorem weigh_set_none {l : List (Option Record)} {i : Nat} {r : Record} (here : l[i]? = some (some r)) (first : Nat) :
    weigh first (l.set i none) + 1 ≤ weigh first l := by
  unfold weigh
  rw [List.take_set, List.drop_set]
  by_cases inside : i < first
  · have gone := countP_set_none (p := Option.isSome) rfl (l := l.take first) (i := i) (o := some r)
      (by rw [List.getElem?_take, if_pos inside, here])
    rw [if_pos inside]
    simp only [Option.isSome_some, if_true] at gone
    omega
  · have gone := countP_set_none (p := Option.isSome) rfl (l := l.drop first) (i := i - first) (o := some r)
      (by rw [List.getElem?_drop, Nat.add_sub_cancel' (Nat.le_of_not_lt inside), here])
    have kept : (l.take first).set i none = l.take first := List.set_eq_of_length_le (by rw [List.length_take]; omega)
    rw [if_neg inside, kept]
    simp only [Option.isSome_some, if_true] at gone
    omega

/-! ### The returned remake (R32) -/

theorem insertRemake_cons (r x : Record) (xs : List Record) :
    insertRemake r (x :: xs) = if (x :: xs).any (·.kind == .remake) then x :: insertRemake r xs else r :: x :: xs := rfl

theorem mem_insertRemake {r x : Record} {l : List Record} : x ∈ insertRemake r l ↔ x = r ∨ x ∈ l := by
  rw [(insertRemake_perm r l).mem_iff, List.mem_cons]

theorem remakesFirst_of_none {l : List Record} (fresh : l.any (·.kind == .remake) = false) : RemakesFirst l := by
  rw [List.any_eq_false] at fresh
  refine List.pairwise_iff_forall_sublist.mpr fun {a b} pair remake => ?_
  exact absurd (beq_iff_eq.mpr remake) (fresh b (pair.subset (by simp)))

theorem remakesFirst_insertRemake {r : Record} {l : List Record} (remake : r.kind = .remake) (h : RemakesFirst l) :
    RemakesFirst (insertRemake r l) := by
  induction l with
  | nil => exact List.pairwise_singleton _ _
  | cons x xs ih =>
    obtain ⟨ahead, rest⟩ := List.pairwise_cons.mp h
    rw [insertRemake_cons]
    split
    next has =>
      have first : x.kind = .remake := by
        rw [List.any_cons, Bool.or_eq_true, beq_iff_eq] at has
        refine has.elim id fun later => ?_
        obtain ⟨b, member, kind⟩ := List.any_eq_true.mp later
        exact ahead b member (beq_iff_eq.mp kind)
      exact List.pairwise_cons.mpr ⟨fun _ _ _ => first, ih rest⟩
    next => exact List.pairwise_cons.mpr ⟨fun _ _ _ => remake, h⟩

theorem remakesFirst_tail_insertRemake {r : Record} {l : List Record} (remake : r.kind = .remake) (h : RemakesFirst l.tail) :
    RemakesFirst (insertRemake r l).tail := by
  cases l with
  | nil => exact List.Pairwise.nil
  | cons x xs =>
    rw [insertRemake_cons]
    split
    next => exact remakesFirst_insertRemake remake h
    next none' => exact remakesFirst_of_none (Bool.eq_false_iff.mpr none')

/-- A relation that a remake has to every record is kept. -/
theorem pairwise_insertRemake {R : Record → Record → Prop} {r : Record} (before : ∀ x, R x r) (after : ∀ x, R r x)
    {l : List Record} (h : l.Pairwise R) : (insertRemake r l).Pairwise R := by
  induction l with
  | nil => exact List.pairwise_singleton _ _
  | cons x xs ih =>
    obtain ⟨ahead, rest⟩ := List.pairwise_cons.mp h
    rw [insertRemake_cons]
    split
    next =>
      refine List.pairwise_cons.mpr ⟨fun y member => ?_, ih rest⟩
      rcases mem_insertRemake.mp member with rfl | old
      · exact before x
      · exact ahead y old
    next => exact List.pairwise_cons.mpr ⟨fun y _ => after y, h⟩

/-! ### The order of the queue (R29, R31) -/

/-- What the order of the queue says of the queue alone. -/
def QueueRises (i : Intake) : Prop :=
  RemakesFirst i.queue.tail
    ∧ i.queue.Pairwise (fun a b => a.kind = .fresh → b.kind = .fresh → a.sequence < b.sequence)
    ∧ ∀ r ∈ i.queue, r.kind = .fresh → r.sequence ≤ i.lastSequence

/-- What it says of the record of an OFFERED cell. -/
def OfferAhead (i : Intake) (r : Record) : Prop :=
  RemakesFirst i.queue
    ∧ (r.kind = .fresh → r.sequence ≤ i.lastSequence ∧ ∀ x ∈ i.queue, x.kind = .fresh → r.sequence < x.sequence)

theorem queueOrdered_iff (s : State) :
    QueueOrdered s ↔ QueueRises s.intake
      ∧ ∀ c ∈ s.track.cells, c.content = .offered → ∀ r, c.record = some r → OfferAhead s.intake r :=
  ⟨fun ⟨a, b, c, d⟩ => ⟨⟨a, b, c⟩, d⟩, fun ⟨⟨a, b, c⟩, d⟩ => ⟨a, b, c, d⟩⟩

/-- The offers of t are among those of s. -/
def OffersStay (s t : State) : Prop :=
  ∀ d ∈ t.track.cells, d.content = .offered → ∃ c ∈ s.track.cells, c.content = .offered ∧ d.record = c.record

theorem CellsFlow.offersStay {s t : State} (h : CellsFlow stay s t) : OffersStay s t := by
  intro d member content
  obtain ⟨p, cell⟩ := List.mem_iff_getElem?.mp member
  obtain ⟨c, there, flow⟩ := h.at cell
  obtain ⟨offered, record⟩ := flow.offered content
  exact ⟨c, List.mem_of_getElem? there, offered, record⟩

theorem QueueOrdered.of_intake {s t : State} (h : QueueOrdered s) (offers : OffersStay s t)
    (rises : QueueRises s.intake → QueueRises t.intake) (ahead : ∀ r, OfferAhead s.intake r → OfferAhead t.intake r) :
    QueueOrdered t := by
  rw [queueOrdered_iff] at *
  obtain ⟨rising, offered⟩ := h
  refine ⟨rises rising, fun d member content r record => ?_⟩
  obtain ⟨c, old, was, same⟩ := offers d member content
  exact ahead r (offered c old was r (same.symm.trans record))

theorem accepted_kind (l : LoadRecord) : l.accepted.kind = .fresh := rfl

/-- One accepted record joins the tail above all others (R26). -/
theorem queueRises_accept {i : Intake} {l : LoadRecord} (above : i.lastSequence < l.sequence) (h : QueueRises i)
    (keys : Option (Nat × Nat)) :
    QueueRises { queue := i.queue ++ [l.accepted], lastSequence := l.sequence, lastKeys := keys } := by
  obtain ⟨remakes, rising, below⟩ := h
  have last : RemakesFirst [l.accepted] := List.pairwise_singleton _ _
  refine ⟨?_, ?_, ?_⟩
  · cases queue : i.queue with
    | nil => exact List.Pairwise.nil
    | cons x xs =>
      rw [queue, List.tail_cons] at remakes
      exact List.pairwise_append.mpr ⟨remakes, last, fun a _ b member kind => by
        rw [List.mem_singleton.mp member, accepted_kind] at kind
        cases kind⟩
  · refine List.pairwise_append.mpr ⟨rising, List.pairwise_singleton _ _, fun a old b member kind _ => ?_⟩
    rw [List.mem_singleton.mp member]
    exact (below a old kind).trans_lt above
  · intro r member kind
    rcases List.mem_append.mp member with old | new
    · exact (below r old kind).trans above.le
    · rw [List.mem_singleton.mp new]
      exact le_refl _

theorem offerAhead_accept {i : Intake} {l : LoadRecord} (above : i.lastSequence < l.sequence) {r : Record}
    (h : OfferAhead i r) (keys : Option (Nat × Nat)) :
    OfferAhead { queue := i.queue ++ [l.accepted], lastSequence := l.sequence, lastKeys := keys } r := by
  obtain ⟨remakes, fresh⟩ := h
  refine ⟨List.pairwise_append.mpr ⟨remakes, List.pairwise_singleton _ _, fun a _ b member kind => ?_⟩, fun kind => ?_⟩
  · rw [List.mem_singleton.mp member, accepted_kind] at kind
    cases kind
  · obtain ⟨below, ahead⟩ := fresh kind
    refine ⟨below.trans above.le, fun x member xfresh => ?_⟩
    rcases List.mem_append.mp member with old | new
    · exact ahead x old xfresh
    · rw [List.mem_singleton.mp new]
      exact below.trans_lt above

/-- Fewer records in the same order. -/
theorem queueRises_sublist {i j : Intake} (fewer : j.queue.Sublist i.queue) (last : j.lastSequence = i.lastSequence)
    (h : QueueRises i) : QueueRises j := by
  obtain ⟨remakes, rising, below⟩ := h
  refine ⟨remakes.sublist fewer.tail, rising.sublist fewer, fun r member kind => ?_⟩
  rw [last]
  exact below r (fewer.subset member) kind

theorem offerAhead_sublist {i j : Intake} (fewer : j.queue.Sublist i.queue) (last : j.lastSequence = i.lastSequence)
    {r : Record} (h : OfferAhead i r) : OfferAhead j r := by
  obtain ⟨remakes, fresh⟩ := h
  refine ⟨remakes.sublist fewer, fun kind => ?_⟩
  obtain ⟨below, ahead⟩ := fresh kind
  rw [last]
  exact ⟨below, fun x member => ahead x (fewer.subset member)⟩

theorem queueRises_insertRemake {i : Intake} {r : Record} (remake : r.kind = .remake) (h : QueueRises i) :
    QueueRises { i with queue := insertRemake r i.queue } := by
  obtain ⟨remakes, rising, below⟩ := h
  have notFresh : r.kind ≠ .fresh := by simp [remake]
  refine ⟨remakesFirst_tail_insertRemake remake remakes, ?_, fun x member kind => ?_⟩
  · exact pairwise_insertRemake (fun _ _ kind => absurd kind notFresh) (fun _ kind => absurd kind notFresh) rising
  · rcases mem_insertRemake.mp member with rfl | old
    · exact absurd kind notFresh
    · exact below x old kind

theorem offerAhead_insertRemake {i : Intake} {r o : Record} (remake : r.kind = .remake) (h : OfferAhead i o) :
    OfferAhead { i with queue := insertRemake r i.queue } o := by
  obtain ⟨remakes, fresh⟩ := h
  refine ⟨remakesFirst_insertRemake remake remakes, fun kind => ?_⟩
  obtain ⟨below, ahead⟩ := fresh kind
  refine ⟨below, fun x member xfresh => ?_⟩
  rcases mem_insertRemake.mp member with rfl | old
  · rw [remake] at xfresh
    cases xfresh
  · exact ahead x old xfresh

/-- A withdrawn offer stands at the very front (R31). -/
theorem queueRises_back {i : Intake} {r : Record} (ahead : OfferAhead i r) (h : QueueRises i) :
    QueueRises { i with queue := r :: i.queue } := by
  obtain ⟨-, rising, below⟩ := h
  obtain ⟨remakes, fresh⟩ := ahead
  refine ⟨remakes, List.pairwise_cons.mpr ⟨fun x member kind xfresh => (fresh kind).2 x member xfresh, rising⟩, fun x member kind => ?_⟩
  rcases List.mem_cons.mp member with rfl | old
  · exact (fresh kind).1
  · exact below x old kind

/-! ### Accepted records, one after the other (R26) -/

theorem acceptRecord_definition (s : State) (l : LoadRecord) (v : Fin 32) :
    (acceptRecord s l).versions[v].definition = s.versions[v].definition := by
  by_cases same : l.accepted.version = v
  · subst same
    simp [acceptRecord, setRefCount]
  · have other : l.accepted.version.val ≠ v.val := fun e => same (Fin.ext e)
    simp [acceptRecord, setRefCount, Vector.getElem_set_ne _ _ other]

/-- What every accepted record keeps, an accepted LOAD keeps. -/
theorem keeps_of_accepts {inv : State → Prop}
    (accept : ∀ s l, s.intake.lastSequence < l.sequence → s.versions[l.accepted.version].definition ≠ none → inv s →
      inv (acceptRecord s l))
    {loads : List LoadRecord} {s : State} (rise : sequencesRise s.intake.lastSequence loads = true)
    (known : ∀ l ∈ loads, s.versions[l.accepted.version].definition ≠ none) (hs : inv s) :
    inv (loads.foldl acceptRecord s) := by
  induction loads generalizing s with
  | nil => exact hs
  | cons l rest ih =>
    simp only [sequencesRise, Bool.and_eq_true, decide_eq_true_eq] at rise
    obtain ⟨above, later⟩ := rise
    refine ih later (fun x member => ?_) (accept s l above (known l List.mem_cons_self) hs)
    rw [acceptRecord_definition]
    exact known x (List.mem_cons_of_mem _ member)

theorem keeps_of_load {inv : State → Prop}
    (accept : ∀ s l, s.intake.lastSequence < l.sequence → s.versions[l.accepted.version].definition ≠ none → inv s →
      inv (acceptRecord s l))
    {loads : List LoadRecord} {s : State} (allowed : loadRefusal s loads = none) (hs : inv s) :
    inv (loads.foldl acceptRecord s) := by
  have rise : sequencesRise s.intake.lastSequence loads = true := by
    by_contra other
    unfold loadRefusal at allowed
    rw [if_pos (Bool.eq_false_iff.mpr other)] at allowed
    split at allowed <;> cases allowed
  obtain ⟨-, -, versions, -⟩ := loadRefusal_eq_none.mp allowed
  refine keeps_of_accepts accept rise (fun l member => ?_) hs
  obtain ⟨v, named, defined⟩ := versions l member
  obtain rfl : l.accepted.version = v := accepted_version named
  exact Option.ne_none_iff_isSome.mpr defined

/-! ### The order of the queue -/

/-- Every entry keeps the order of the queue (R29, R31). -/
theorem Ledger.ordered {s t : State} (h : Ledger s t) (flow : CellsFlow stay s t)
    (front : ∀ p c, s.track.cells[p]? = some c → c.content = .offered → p = 0) (hs : QueueOrdered s) : QueueOrdered t := by
  cases h with
  | quiet intake | gone _ intake =>
    refine hs.of_intake flow.offersStay ?_ ?_ <;> rw [intake] <;> simp
  | @back p c r cell content record ended intake =>
    obtain ⟨rising, offered⟩ := (queueOrdered_iff s).mp hs
    have ahead := offered c (List.mem_of_getElem? cell) content r record
    rw [queueOrdered_iff, intake]
    refine ⟨queueRises_back ahead rising, fun d member still => ?_⟩
    obtain ⟨q, there⟩ := List.mem_iff_getElem?.mp member
    obtain ⟨e, old, change⟩ := flow.at there
    have same : q = p := (front q e old (change.offered still).1).trans (front p c cell content).symm
    exact absurd still (ended d (same ▸ there))
  | remade attempts held intake =>
    refine hs.of_intake flow.offersStay ?_ ?_ <;> rw [intake]
    · exact queueRises_insertRemake rfl
    · exact fun _ => offerAhead_insertRemake rfl
  | loaded loads allowed after =>
    subst after
    refine keeps_of_load (fun u l above _ hu => ?_) allowed hs
    exact hu.of_intake (fun d member content => ⟨d, member, content, rfl⟩) (fun rises => queueRises_accept above rises _)
      fun r ahead => offerAhead_accept above ahead _
  | purged n after =>
    subst after
    have fewer : (purgeQueue n s).intake.queue.Sublist s.intake.queue := by
      rw [purgeQueue_eq]
      exact List.filter_sublist
    have last : (purgeQueue n s).intake.lastSequence = s.intake.lastSequence := by rw [purgeQueue_eq]
    exact hs.of_intake flow.offersStay (queueRises_sublist fewer last) fun r => offerAhead_sublist fewer last
  | defined v d unused after =>
    subst after
    exact hs

/-! ### Remakes and held records (R27) -/

/-- The remakes of a queue (2.3). -/
def remakesOf (q : List Record) : Nat := q.countP fun r => r.kind == .remake

/-- A queue with a withdrawn offer ahead of its remakes (R31). -/
def aheadOf (q : List Record) : Nat := if q.head?.any Record.isFresh = true ∧ 0 < remakesOf q then 1 else 0

theorem withdrawnAhead_eq (s : State) : withdrawnAhead s = aheadOf s.intake.queue := rfl

theorem remakeCount_eq (s : State) : remakeCount s = remakesOf s.intake.queue := rfl

theorem aheadOf_le (q : List Record) : aheadOf q ≤ 1 := by
  unfold aheadOf
  split <;> omega

theorem aheadOf_remake {r : Record} (remake : r.kind = .remake) (q : List Record) : aheadOf (r :: q) = 0 := by
  unfold aheadOf
  rw [if_neg]
  simp [Record.isFresh, remake]

/-- Where remakes stand first, no fresh record stands ahead of them. -/
theorem aheadOf_remakesFirst {q : List Record} (h : RemakesFirst q) : aheadOf q = 0 := by
  cases q with
  | nil => rfl
  | cons x xs =>
    unfold aheadOf
    rw [if_neg]
    rintro ⟨fresh, some'⟩
    obtain ⟨b, member, kind⟩ := List.countP_pos_iff.mp some'
    rw [beq_iff_eq] at kind
    have first : x.kind = .remake := by
      rcases List.mem_cons.mp member with rfl | later
      · exact kind
      · exact (List.pairwise_cons.mp h).1 b later kind
    simp [Record.isFresh, first] at fresh

theorem remakesOf_insertRemake {r : Record} (remake : r.kind = .remake) (q : List Record) :
    remakesOf (insertRemake r q) = remakesOf q + 1 := by
  unfold remakesOf
  rw [(insertRemake_perm r q).countP_eq, List.countP_cons]
  simp [remake]

theorem aheadOf_insertRemake {r : Record} (remake : r.kind = .remake) (q : List Record) :
    aheadOf (insertRemake r q) ≤ aheadOf q := by
  cases q with
  | nil => exact (aheadOf_remake remake []).le.trans (Nat.zero_le _)
  | cons x xs =>
    have more := remakesOf_insertRemake remake (x :: xs)
    rw [insertRemake_cons] at *
    split
    next has =>
      have before : 0 < remakesOf (x :: xs) := by
        obtain ⟨b, member, kind⟩ := List.any_eq_true.mp has
        exact List.countP_pos_iff.mpr ⟨b, member, kind⟩
      rw [if_pos has] at more
      unfold aheadOf
      simp only [List.head?_cons, Option.any_some, more, before, Nat.succ_pos, and_true]
      exact le_refl _
    next => exact (aheadOf_remake remake _).le.trans (Nat.zero_le _)

theorem remakesOf_append_fresh {r : Record} (fresh : r.kind = .fresh) (q : List Record) :
    remakesOf (q ++ [r]) = remakesOf q := by simp [remakesOf, fresh]

theorem aheadOf_append_fresh {r : Record} (fresh : r.kind = .fresh) (q : List Record) : aheadOf (q ++ [r]) ≤ aheadOf q := by
  unfold aheadOf
  rw [remakesOf_append_fresh fresh]
  cases q with
  | nil => simp [remakesOf]
  | cons x xs => exact le_refl _

theorem not_purged_of_remake {n : Nat} {r : Record} (remake : r.kind = .remake) : purged n r = false := by
  simp [purged, Record.isFresh, remake]

theorem remakesOf_purged (n : Nat) (q : List Record) : remakesOf (q.filter (!purged n ·)) = remakesOf q := by
  unfold remakesOf
  rw [List.countP_filter]
  refine List.countP_congr fun r _ => ?_
  simp only [Bool.and_eq_true, beq_iff_eq, Bool.not_eq_true']
  exact ⟨fun h => h.1, fun h => ⟨h, not_purged_of_remake h⟩⟩

theorem aheadOf_purged (n : Nat) {q : List Record} (h : RemakesFirst q.tail) : aheadOf (q.filter (!purged n ·)) ≤ aheadOf q := by
  cases q with
  | nil => exact le_refl _
  | cons x xs =>
    by_cases gone : purged n x = true
    · rw [List.filter_cons_of_neg (by simp [gone])]
      exact (aheadOf_remakesFirst (h.sublist List.filter_sublist)).le.trans (Nat.zero_le _)
    · have same := remakesOf_purged n (x :: xs)
      rw [List.filter_cons_of_pos (by simp [gone])] at *
      unfold aheadOf
      rw [same]
      exact le_refl _

/-- Every entry keeps the remakes and the held records at 64 together (R27). -/
theorem Ledger.bounded {s t : State} (h : Ledger s t) (ordered : QueueOrdered s)
    (hs : remakeCount s + heldRecords s + withdrawnAhead s ≤ 64) :
    remakeCount t + heldRecords t + withdrawnAhead t ≤ 64 := by
  have left {p : Nat} {r : Record} (held : (cellRecords s)[p]? = some (some r))
      (records : cellRecords t = (cellRecords s).set p none) : heldRecords t + 1 = heldRecords s := by
    rw [heldRecords_eq, heldRecords_eq, records]
    exact countP_set_none (p := Option.isSome) rfl held
  rw [remakeCount_eq, withdrawnAhead_eq] at *
  cases h with
  | quiet intake versions records => rwa [intake, heldRecords_eq, records, ← heldRecords_eq]
  | gone held intake versions records =>
    have := left held records
    rw [intake]
    omega
  | @back p c r cell content record ended intake versions records =>
    have := left ((cellRecords_get cell).trans (congrArg some record)) records
    rw [intake]
    cases kind : r.kind with
    | remake =>
      have := aheadOf_remake kind s.intake.queue
      have : remakesOf (r :: s.intake.queue) = remakesOf s.intake.queue + 1 := by simp [remakesOf, kind]
      dsimp only
      omega
    | fresh =>
      have := aheadOf_le (r :: s.intake.queue)
      have : remakesOf (r :: s.intake.queue) = remakesOf s.intake.queue := by simp [remakesOf, kind]
      dsimp only
      omega
  | @remade p r attempts held intake versions records =>
    have := left held records
    have := aheadOf_insertRemake (r := { r with attempts := attempts, kind := .remake }) rfl s.intake.queue
    rw [intake]
    dsimp only
    rw [remakesOf_insertRemake rfl]
    omega
  | loaded loads allowed after =>
    subst after
    refine keeps_of_load (inv := fun u => remakesOf u.intake.queue + heldRecords u + aheadOf u.intake.queue ≤ 64)
      (fun u l _ _ hu => ?_) allowed hs
    have queue : (acceptRecord u l).intake.queue = u.intake.queue ++ [l.accepted] := rfl
    have held : heldRecords (acceptRecord u l) = heldRecords u := rfl
    have := aheadOf_append_fresh (accepted_kind l) u.intake.queue
    rw [queue, held, remakesOf_append_fresh (accepted_kind l)]
    omega
  | purged n after =>
    subst after
    have := aheadOf_purged n ordered.1
    have held : heldRecords (purgeQueue n s) = heldRecords s := by rw [purgeQueue_eq]; rfl
    rw [held, purgeQueue_eq]
    dsimp only
    rw [remakesOf_purged]
    omega
  | defined v d unused after =>
    subst after
    exact hs

/-! ### The versions (R42) -/

/-- The records of a version in the queue and in cells. -/
def versionUses (s : State) (v : Fin 32) : Nat :=
  s.intake.queue.countP (fun r => r.version == v) + (cellRecords s).countP (·.any fun r => r.version == v)

theorem versionsCounted_iff (s : State) :
    VersionsCounted s ↔ ∀ v : Fin 32, s.versions[v].refCount = versionUses s v
      ∧ (0 < s.versions[v].refCount → s.versions[v].definition ≠ none) := by
  unfold VersionsCounted versionUses cellRecords
  simp only [List.countP_map]
  rfl

theorem VersionsCounted.of_uses {s t : State} (h : VersionsCounted s) (versions : t.versions = s.versions)
    (uses : ∀ v, versionUses t v = versionUses s v) : VersionsCounted t := by
  rw [versionsCounted_iff] at *
  intro v
  rw [versions, uses]
  exact h v

/-- A changed count of one version. -/
theorem setRefCount_refCount (v w : Fin 32) (f : Nat → Nat) (s : State) :
    (setRefCount v f s).versions[w].refCount = if v = w then f s.versions[w].refCount else s.versions[w].refCount := by
  by_cases same : v = w
  · subst same
    simp [setRefCount]
  · have other : v.val ≠ w.val := fun e => same (Fin.ext e)
    simp [setRefCount, same, Vector.getElem_set_ne _ _ other]

theorem setRefCount_definition (v w : Fin 32) (f : Nat → Nat) (s : State) :
    (setRefCount v f s).versions[w].definition = s.versions[w].definition := by
  by_cases same : v = w
  · subst same
    simp [setRefCount]
  · have other : v.val ≠ w.val := fun e => same (Fin.ext e)
    simp [setRefCount, Vector.getElem_set_ne _ _ other]

/-- A record is gone from queue and cells, and its version counts it no more (R42). -/
theorem VersionsCounted.released {s t : State} {r : Record} (h : VersionsCounted s)
    (versions : t.versions = (releaseVersion r s).versions)
    (uses : ∀ v, versionUses t v + (if r.version = v then 1 else 0) = versionUses s v) : VersionsCounted t := by
  rw [versionsCounted_iff] at *
  intro v
  obtain ⟨count, defined⟩ := h v
  have left := uses v
  rw [versions, releaseVersion, setRefCount_refCount, setRefCount_definition]
  split at left
  next same =>
    rw [if_pos same]
    exact ⟨by omega, fun some' => defined (by omega)⟩
  next other =>
    rw [if_neg other]
    exact ⟨by omega, defined⟩

/-- The cells' share when a record leaves a cell. -/
theorem cellUses_left {l : List (Option Record)} {p : Nat} {r : Record} (held : l[p]? = some (some r)) (v : Fin 32) :
    (l.set p none).countP (·.any fun r => r.version == v) + (if r.version = v then 1 else 0)
      = l.countP (·.any fun r => r.version == v) := by
  have gone := countP_set_none (p := fun o => o.any fun r => r.version == v) rfl held
  simpa using gone

theorem countP_version_cons (r : Record) (q : List Record) (v : Fin 32) :
    (r :: q).countP (fun r => r.version == v) = q.countP (fun r => r.version == v) + (if r.version = v then 1 else 0) := by
  rw [List.countP_cons]
  simp

theorem countedDown_refCount (gone : List Record) (versions : Vector VersionEntry 32) (v : Fin 32) :
    (countedDown gone versions)[v].refCount = versions[v].refCount - gone.countP (·.version == v) := by
  simp [countedDown]

theorem countedDown_definition (gone : List Record) (versions : Vector VersionEntry 32) (v : Fin 32) :
    (countedDown gone versions)[v].definition = versions[v].definition := by
  simp [countedDown]

/-- Every entry keeps the count of every version (R42). -/
theorem Ledger.counted {s t : State} (h : Ledger s t) (hs : VersionsCounted s) : VersionsCounted t := by
  cases h with
  | quiet intake versions records => exact hs.of_uses versions fun v => by unfold versionUses; rw [intake, records]
  | gone held intake versions records =>
    refine hs.released versions fun v => ?_
    have := cellUses_left held v
    unfold versionUses
    rw [intake, records]
    omega
  | @back p c r cell content record ended intake versions records =>
    refine hs.of_uses versions fun v => ?_
    have := cellUses_left ((cellRecords_get cell).trans (congrArg some record)) v
    unfold versionUses
    rw [intake, records, countP_version_cons]
    omega
  | remade attempts held intake versions records =>
    refine hs.of_uses versions fun v => ?_
    have := cellUses_left held v
    unfold versionUses
    rw [intake, records, (insertRemake_perm _ _).countP_eq, countP_version_cons]
    dsimp only
    omega
  | loaded loads allowed after =>
    subst after
    refine keeps_of_load (fun u l _ defined hu => ?_) allowed hs
    rw [versionsCounted_iff] at *
    intro v
    obtain ⟨count, known⟩ := hu v
    have uses : versionUses (acceptRecord u l) v = versionUses u v + (if l.accepted.version = v then 1 else 0) := by
      change (u.intake.queue ++ [l.accepted]).countP _ + _ = _
      rw [List.countP_append, countP_version_cons, List.countP_nil, versionUses]
      change _ + (cellRecords u).countP _ = _
      omega
    have counts : (acceptRecord u l).versions[v].refCount
        = if l.accepted.version = v then u.versions[v].refCount + 1 else u.versions[v].refCount :=
      setRefCount_refCount l.accepted.version v (· + 1) _
    rw [acceptRecord_definition, uses, counts]
    split
    next same =>
      subst same
      exact ⟨by omega, fun _ => defined⟩
    next => exact ⟨by omega, known⟩
  | purged n after =>
    subst after
    rw [versionsCounted_iff] at *
    intro v
    obtain ⟨count, known⟩ := hs v
    have parted := List.countP_eq_countP_filter_add s.intake.queue (fun r => r.version == v) (Machine.purged n)
    have uses : versionUses (purgeQueue n s) v = (s.intake.queue.filter (!Machine.purged n ·)).countP (fun r => r.version == v)
        + (cellRecords s).countP (·.any fun r => r.version == v) := by
      rw [purgeQueue_eq]
      rfl
    have versions : (purgeQueue n s).versions = countedDown (s.intake.queue.filter (Machine.purged n)) s.versions := by
      rw [purgeQueue_eq]
    rw [uses, versions, countedDown_refCount, countedDown_definition]
    unfold versionUses at count
    exact ⟨by omega, fun some' => known (by omega)⟩
  | defined v d unused after =>
    subst after
    rw [versionsCounted_iff] at *
    intro w
    obtain ⟨count, known⟩ := hs w
    change (setVersion v d s).versions[w].refCount = versionUses s w ∧ _
    by_cases same : v = w
    · subst same
      have refCount : (setVersion v d s).versions[v].refCount = s.versions[v].refCount := by simp [setVersion]
      rw [refCount]
      exact ⟨count, fun some' => by omega⟩
    · have other : v.val ≠ w.val := fun e => same (Fin.ext e)
      have entry : (setVersion v d s).versions[w] = s.versions[w] := by
        simp [setVersion, Vector.getElem_set_ne _ _ other]
      rw [entry]
      exact ⟨count, known⟩

/-! ### The reports (R197) -/

/-- Every entry keeps the reports made and to be made. -/
theorem Ledger.reports {s t : State} (h : Ledger s t) (first : Nat) :
    outstanding t + weigh first (cellRecords t) ≤ outstanding s + weigh first (cellRecords s) := by
  cases h with
  | quiet intake versions records reports =>
    rw [records]
    omega
  | back cell content record ended intake versions records reports =>
    have := weigh_set_none ((cellRecords_get cell).trans (congrArg some record)) first
    rw [records]
    omega
  | remade attempts held intake versions records reports | gone held intake versions records reports =>
    have := weigh_set_none held first
    rw [records]
    omega
  | loaded loads allowed after =>
    subst after
    rw [acceptRecords_eq]
    exact le_refl _
  | purged n after =>
    subst after
    rw [purgeQueue_eq]
    exact le_refl _
  | defined v d unused after =>
    subst after
    exact le_refl _

end Sys2Proof.Machine
end

section
/-! Every move that is no stage of a larger change keeps the invariant of O58, whatever is excused: the moves of
records by the flow of the cells and the ledger, a configuration because no cell then holds an item. -/

namespace Sys2Proof.Machine

variable {stay : Prop} {extra : Nat} {excused : Nat → SlotNo → Prop} {s t : State}

/-! ### Cells that flow -/

theorem working_of_flow (flow : CellsFlow stay s t) (state : t.line.state = s.line.state) : Working t → Working s := by
  rintro (moving | ⟨d, member, holds⟩)
  · exact .inl (state ▸ moving)
  · obtain ⟨p, cell⟩ := List.mem_iff_getElem?.mp member
    obtain ⟨c, there, change⟩ := flow.at cell
    exact .inr ⟨c, List.mem_of_getElem? there, change.item holds⟩

theorem HoldsItem.working {p : Nat} {c : Cell} (cell : s.track.cells[p]? = some c) (holds : HoldsItem c) : Working s :=
  .inr ⟨c, List.mem_of_getElem? cell, holds⟩

theorem AwaitsGate.holdsItem {c : Cell} (h : AwaitsGate c) : HoldsItem c := by
  unfold HoldsItem
  rcases h with h | h | h | h <;> simp [h]

/-- The line is strung where a cell is offered or holds an item (R171). -/
theorem Settling.strung_of_cell (h : Settling extra excused s) {p : Nat} {c : Cell} (cell : s.track.cells[p]? = some c)
    (holds : HoldsItem c) : Strung s := h.strung (holds.working cell)

/-- A cell that flows does not get past the station that it awaits. -/
theorem Settling.placed_flow (h : Settling extra excused s) (flow : CellsFlow stay s t) (layout : SameLayout s t) : Placed t := by
  intro p d there
  obtain ⟨c, cell, change⟩ := flow.at there
  obtain ⟨feeder, gate, stacker⟩ := h.placed p c cell
  simp only [layout.stands]
  refine ⟨fun offered => feeder (change.offered offered).1, fun awaits => ?_, fun awaits => ?_⟩
  · rcases change.gate awaits with before | offered
    · exact gate before
    · obtain ⟨_, n, _, g, last, _, stands, _, _, _⟩ := h.strung_of_cell cell (by simp [HoldsItem, offered])
      obtain ⟨rfl, -⟩ := feeder offered
      exact ⟨n, g, stands, Nat.zero_le _⟩
  · rcases change.stacker awaits with before | bound
    · exact stacker before
    · obtain ⟨_, m, n, g, last, _, standsGate, stands, _, less⟩ := h.strung_of_cell cell (by simp [HoldsItem, bound])
      obtain ⟨m', g', stands', before⟩ := gate (.inl bound)
      obtain ⟨-, rfl⟩ := standsGate.unique stands'
      exact ⟨n, last, stands, before.trans less.le⟩

/-- The flow of the cells makes no command due. -/
theorem Settling.due_flow (h : Settling extra excused s) (flow : CellsFlow stay s t) (layout : SameLayout s t) {p : Nat} {n : SlotNo}
    (due : Due t p n) : Due s p n := by
  obtain ⟨d, there, due⟩ := due
  obtain ⟨c, cell, change⟩ := flow.at there
  obtain ⟨feeder, gate, stacker⟩ := h.placed p c cell
  simp only [layout.stands] at due
  refine ⟨c, cell, ?_⟩
  rcases due with ⟨offered, stands⟩ | ⟨awaits, stands⟩ | ⟨awaits, stands⟩
  · exact .inl ⟨(change.offered offered).1, stands⟩
  · rcases change.gate awaits with before | offered
    · exact .inr (.inl ⟨before, stands⟩)
    · obtain ⟨_, _, _, g, _, _, standsGate, _, above, _⟩ := h.strung_of_cell cell (by simp [HoldsItem, offered])
      obtain ⟨rfl, -⟩ := feeder offered
      obtain ⟨-, rfl⟩ := stands.unique standsGate
      exact absurd above (lt_irrefl _)
  · rcases change.stacker awaits with before | bound
    · exact .inr (.inr ⟨before, stands⟩)
    · obtain ⟨_, _, _, g, last, _, standsGate, standsStacker, _, less⟩ := h.strung_of_cell cell (by simp [HoldsItem, bound])
      obtain ⟨_, g', stands', before⟩ := gate (.inl bound)
      obtain ⟨-, rfl⟩ := standsGate.unique stands'
      obtain ⟨-, rfl⟩ := stands.unique standsStacker
      exact absurd less (Nat.not_lt.mpr before)

theorem Settling.awaited_flow (h : Settling extra excused s) (flow : CellsFlow True s t) (layout : SameLayout s t) :
    Awaited excused t := by
  intro p n d there due
  obtain ⟨c, cell, change⟩ := flow.at there
  exact (h.awaited p n c cell (h.due_flow flow layout due)).imp id fun opened => change.exchanges trivial opened

theorem Settling.front (h : Settling extra excused s) (p : Nat) (c : Cell) (cell : s.track.cells[p]? = some c)
    (offered : c.content = .offered) : p = 0 := ((h.placed p c cell).1 offered).1

/-- A move of records whose cells flow and that books an entry keeps the invariant, with what is then awaited. -/
theorem WorkMove.settling_of {awaiting : Nat → SlotNo → Prop} (h : WorkMove True s t) (flow : CellsFlow False s t)
    (ledger : Ledger s t) (awaited : Awaited awaiting t) (hs : Settling extra excused s) : Settling extra awaiting t := by
  have layout : SameLayout s t := sameLayout_of_stations (by rw [h.works])
  have state : t.line.state = s.line.state := by rw [h.works]
  exact {
    records := h.recordByContent hs.records
    stations := layout.stationsPlaced hs.stations
    strung := fun working => layout.strung.mpr (hs.strung (working_of_flow flow state working))
    placed := hs.placed_flow flow layout
    awaited := awaited
    length := by rw [flow.length, layout.stackerPosition]; exact hs.length
    ordered := ledger.ordered flow hs.front hs.ordered
    fresh := h.freshCount hs.fresh
    bounded := ledger.bounded hs.ordered hs.bounded
    jobs := h.printJobs hs.jobs
    counted := ledger.counted hs.counted
    backlog := h.backlog hs.backlog
    reports := by rw [layout.stackerPosition]; exact (ledger.reports _).trans hs.reports }

/-- The moves of records, cells and bundles keep the invariant. -/
theorem WorkMove.settling (h : WorkMove False s t) (hs : Settling extra excused s) : Settling extra excused t := by
  have flow : CellsFlow True s t := h.flow hs.records
  have layout : SameLayout s t := sameLayout_of_stations (by rw [h.works])
  exact h.all.settling_of flow.loosened h.ledger (hs.awaited_flow flow layout) hs

/-! ### The moves that leave records and cells alone -/

/-- From s to t no slot, record, cell or job has changed, the reports are no more, and the line moves only where the
stations are strung. -/
structure Stays (s t : State) : Prop where
  layout : SameLayout s t
  intake : t.intake = s.intake
  versions : t.versions = s.versions
  cells : t.track.cells = s.track.cells
  jobs : t.track.printJobs = s.track.printJobs
  reports : outstanding t ≤ outstanding s
  working : Working t → Working s ∨ Strung t

/-- Slots, records, cells and jobs stay; what is owed in reports is said beside. -/
theorem Settling.of_same {owed : Nat} (hs : Settling extra excused s) (layout : SameLayout s t) (intake : t.intake = s.intake)
    (versions : t.versions = s.versions) (cells : t.track.cells = s.track.cells) (jobs : t.track.printJobs = s.track.printJobs)
    (working : Working t → Working s ∨ Strung t) (backlog : BacklogCause t)
    (reports : outstanding t + weigh (stackerPosition s + owed) (cellRecords s) ≤ 320) : Settling owed excused t := by
  have flow : CellsFlow True s t := cellsFlow_of_track cells
  have records := cellRecords_of_cells cells
  exact {
    records := hs.records.of_cells cells
    stations := layout.stationsPlaced hs.stations
    strung := fun now => (working now).elim (fun before => layout.strung.mpr (hs.strung before)) id
    placed := hs.placed_flow flow layout
    awaited := hs.awaited_flow flow layout
    length := by rw [cells, layout.stackerPosition]; exact hs.length
    ordered := hs.ordered.of_intake flow.offersStay (by rw [intake]; exact id) (by rw [intake]; exact fun _ => id)
    fresh := (freshCount_congr (by rw [intake]) cells).trans_le hs.fresh
    bounded := by
      have same := hs.bounded
      rw [remakeCount_eq, withdrawnAhead_eq, heldRecords_eq] at *
      rwa [intake, records]
    jobs := jobs.trans_le hs.jobs
    counted := hs.counted.of_uses versions fun v => by unfold versionUses; rw [intake, records]
    backlog := backlog
    reports := by
      rw [layout.stackerPosition, records]
      exact reports }

theorem Settling.of_stays (hs : Settling extra excused s) (stays : Stays s t) (backlog : BacklogCause t) :
    Settling extra excused t := by
  obtain ⟨layout, intake, versions, cells, jobs, reports, working⟩ := stays
  exact hs.of_same layout intake versions cells jobs working backlog ((Nat.add_le_add_right reports _).trans hs.reports)

/-- The line does not come to move, and the cells stay. -/
theorem working_of_still (cells : t.track.cells = s.track.cells)
    (state : t.line.state = s.line.state ∨ t.line.state = .idle ∨ t.line.state = .faulted) : Working t → Working s := by
  rintro (⟨notIdle, notFaulted⟩ | holds)
  · rcases state with same | idle | faulted
    · exact .inl (same ▸ ⟨notIdle, notFaulted⟩)
    · exact absurd idle notIdle
    · exact absurd faulted notFaulted
  · rw [cells] at holds
    exact .inr holds

/-- A change of line, notices, bus or monitors alone. -/
theorem stays_of_same (stations : t.stations = s.stations) (intake : t.intake = s.intake) (versions : t.versions = s.versions)
    (cells : t.track.cells = s.track.cells) (jobs : t.track.printJobs = s.track.printJobs)
    (bundles : t.bundles = s.bundles) (reports : t.link.reports = s.link.reports)
    (state : t.line.state = s.line.state ∨ t.line.state = .idle ∨ t.line.state = .faulted) : Stays s t :=
  ⟨sameLayout_of_stations stations, intake, versions, cells, jobs, (outstanding_same reports bundles).le,
    fun working => .inl (working_of_still cells state working)⟩

/-- A started line is strung (R171). -/
theorem strung_of_startRefusal (placed : StationsPlaced s) (ready : startRefusal s = none) : Strung s := by
  have lined := startRefusal_eq_none.mp ready
  have position {n : SlotNo} {st : Station} (entry : stationAt s n = some st) (other : st.role ≠ .drive) :
      ∃ p, st.position = some p :=
    Option.ne_none_iff_exists'.mp fun absent => other (((placed n st entry).1).mp absent)
  obtain ⟨feeder, stf, single, entry, front⟩ := lined 3
  obtain ⟨carrier, stc, singleC, entryC, -⟩ := lined 4
  obtain ⟨gate, stg, singleG, entryG, aboveCarrier, -⟩ := lined 9
  obtain ⟨stacker, sts, singleS, entryS, aboveAll⟩ := lined 10
  have roleOf {r : Role} {n : SlotNo} {st : Station} (slots : slotsWith s r = [n]) (entry : stationAt s n = some st) :
      st.role = r := by
    obtain ⟨st', entry', role⟩ := mem_slotsWith.mp (slots ▸ List.mem_singleton_self n)
    cases entry.symm.trans entry'
    exact role
  have placeOf {n : SlotNo} {st : Station} {p : Nat} (entry : stationAt s n = some st) (place : st.position = some p) :
      positionOf s n = some p := by
    unfold positionOf
    rw [entry]
    exact place
  have roleF := roleOf single entry
  have roleC := roleOf singleC entryC
  have roleG := roleOf singleG entryG
  have roleS := roleOf singleS entryS
  obtain ⟨f, placeF⟩ := position entry (by rw [roleF]; simp)
  obtain ⟨g, placeG⟩ := position entryG (by rw [roleG]; simp)
  obtain ⟨l, placeS⟩ := position entryS (by rw [roleS]; simp)
  have below := aboveCarrier carrier stc entryC roleC
  have before := aboveAll gate stg g entryG (by rw [roleG]; simp) placeG
  rw [placeF, Option.getD_some] at front
  rw [placeG, Option.getD_some] at below
  rw [placeS, Option.getD_some] at before
  subst front
  exact ⟨feeder, gate, stacker, g, l, ⟨single, placeOf entry placeF⟩, ⟨singleG, placeOf entryG placeG⟩,
    ⟨singleS, placeOf entryS placeS⟩, by omega, before⟩

theorem stays_changeLine {l : Line} (h : LineMove s l) (placed : StationsPlaced s) : Stays s (changeLine l s) := by
  have moves (working : Working (changeLine l s) → Working s ∨ Strung (changeLine l s)) : Stays s (changeLine l s) :=
    ⟨sameLayout_of_stations rfl, rfl, rfl, rfl, rfl, le_refl _, working⟩
  have moving (before : s.line.state ≠ .idle ∧ s.line.state ≠ .faulted) : Stays s (changeLine l s) :=
    moves fun _ => .inl (.inl before)
  cases h with
  | start ready table =>
    refine moves fun _ => .inr ?_
    have layout := sameLayout_of_stations table
    have same : SameLayout s (changeLine l s) := sameLayout_of_stations rfl
    exact same.strung.mpr (layout.strung.mp (strung_of_startRefusal (layout.stationsPlaced placed) ready))
  | run before => exact moving (by simp [before])
  | drain before => exact moving (by simp [before])
  | stop before => exact moving (by rcases before with before | before | before <;> simp [before])
  | halt before => exact moving (by simp [before])
  | clear released before after => exact stays_of_same rfl rfl rfl rfl rfl rfl rfl (.inr (.inl after))

/-! ### The configuration (R2, R3) -/

/-- No cell holds an item. -/
def Vacant (s : State) : Prop := ∀ c ∈ s.track.cells, c.content = .empty ∨ c.content = .diverted

theorem vacant_of_configurable (free : configurable s = true) : s.line.state = .idle ∧ Vacant s := by
  unfold configurable at free
  simp only [Bool.and_eq_true, beq_iff_eq, List.all_eq_true, Bool.or_eq_true] at free
  exact free

theorem Vacant.no_records (vacant : Vacant s) (sound : RecordByContent s) : ∀ o ∈ cellRecords s, o = none := by
  intro o member
  obtain ⟨c, there, rfl⟩ := List.mem_map.mp member
  have held : CellSound c := sound c there
  obtain ⟨-, -, recordless, -⟩ := held
  exact recordless ((vacant c there).elim .inl fun h => .inr (.inr (.inr h)))

theorem countP_no_records {p : Option Record → Bool} (nothing : p none = false) {l : List (Option Record)}
    (empty : ∀ o ∈ l, o = none) : l.countP p = 0 := by
  rw [List.countP_eq_zero]
  intro o member
  rw [empty o member, nothing]
  exact Bool.false_ne_true

/-- A track on which no cell holds an item, and which has lost cells at most, is settled on an idle line. -/
theorem Settling.of_vacant (hs : Settling extra excused s) (vacant : Vacant s) (idle : t.line.state = .idle)
    (stations : StationsPlaced t) (intake : t.intake = s.intake) (versions : t.versions = s.versions)
    (fewer : t.track.cells <+: s.track.cells) (length : t.track.cells.length ≤ stackerPosition t + 1)
    (jobs : t.track.printJobs = s.track.printJobs) (reports : outstanding t = outstanding s) (backlog : BacklogCause t) :
    Settling extra excused t := by
  have sound : RecordByContent t := fun c member => hs.records c (fewer.subset member)
  have empty : Vacant t := fun c member => vacant c (fewer.subset member)
  have nothing := empty.no_records sound
  have nothing' := vacant.no_records hs.records
  have content {p : Nat} {c : Cell} (cell : t.track.cells[p]? = some c) := empty c (List.mem_of_getElem? cell)
  have noDue {p : Nat} {n : SlotNo} (due : Due t p n) : False := by
    obtain ⟨c, cell, due⟩ := due
    rcases content cell with h | h <;> simp [h, AwaitsGate, AwaitsStacker] at due
  exact {
    records := sound
    stations := stations
    strung := fun working => by
      rcases working with ⟨notIdle, -⟩ | ⟨c, member, notEmpty, notDiverted⟩
      · exact absurd idle notIdle
      · exact (empty c member).elim (fun h => absurd h notEmpty) fun h => absurd h notDiverted
    placed := fun p c cell => by
      rcases content cell with h | h <;> simp [h, AwaitsGate, AwaitsStacker]
    awaited := fun p n c cell due => (noDue due).elim
    length := length
    ordered := hs.ordered.of_intake (fun d member offered => ⟨d, fewer.subset member, offered, rfl⟩)
      (by rw [intake]; exact id) (by rw [intake]; exact fun _ => id)
    fresh := by
      have before := hs.fresh
      rw [freshCount_eq] at *
      rw [intake]
      exact (Nat.add_le_add_left fewer.sublist.countP_le _).trans before
    bounded := by
      have before := hs.bounded
      rw [remakeCount_eq, withdrawnAhead_eq, heldRecords_eq] at *
      rw [intake, countP_no_records rfl nothing]
      omega
    jobs := jobs.trans_le hs.jobs
    counted := hs.counted.of_uses versions fun v => by
      unfold versionUses
      rw [intake, countP_no_records rfl nothing, countP_no_records rfl nothing']
    backlog := backlog
    reports := by
      have before := hs.reports
      have light : weigh (stackerPosition t + extra) (cellRecords t) = 0 := by
        unfold weigh
        rw [countP_no_records rfl fun o member => nothing o (List.mem_of_mem_take member),
          countP_no_records rfl fun o member => nothing o (List.mem_of_mem_drop member)]
      omega }

/-- A slot that takes a position no other slot has, or is cleared, leaves every slot its own position (R2, R3). -/
theorem stationsPlaced_put {n : SlotNo} {st : Option Station} (hs : StationsPlaced s)
    (table : t.stations = (putStation n st s).stations)
    (sound : ∀ u, st = some u → (u.position = none ↔ u.role = .drive)
      ∧ ∀ p, u.position = some p → p ≤ 63 ∧ ∀ m other, m ≠ n → stationAt s m = some other → other.position ≠ some p) :
    StationsPlaced t := by
  have now (m : SlotNo) : stationAt t m = stationAt (putStation n st s) m := by
    unfold stationAt
    rw [table]
  intro m u entry
  rw [now] at entry
  by_cases here : m = n
  · subst here
    rw [stationAt_putStation] at entry
    obtain ⟨drive, alone⟩ := sound u entry
    refine ⟨drive, fun p place => ?_⟩
    obtain ⟨near, others⟩ := alone p place
    refine ⟨near, fun k other differs there => ?_⟩
    rw [now, stationAt_putStation_other differs] at there
    exact others k other differs there
  · rw [stationAt_putStation_other here] at entry
    obtain ⟨drive, alone⟩ := hs m u entry
    refine ⟨drive, fun p place => ?_⟩
    obtain ⟨near, others⟩ := alone p place
    refine ⟨near, fun k other differs there => ?_⟩
    rw [now] at there
    by_cases same : k = n
    · subst same
      rw [stationAt_putStation] at there
      intro taken
      obtain ⟨-, free⟩ := sound other there
      exact (free p taken).2 m u here entry place
    · rw [stationAt_putStation_other same] at there
      exact others k other differs there

/-- An accepted setup takes a position that no other slot has (R2). -/
theorem position_free_of_setupRefusal {u : SlotSetup} (allowed : setupRefusal s u = none) {p : Nat} (place : u.position = some p)
    (m : SlotNo) (other : Station) (differs : m ≠ u.slot) (entry : stationAt s m = some other) : other.position ≠ some p := by
  intro taken
  unfold setupRefusal at allowed
  split at allowed
  · cases allowed
  · split at allowed
    · cases allowed
    next free =>
      have here := List.find?_eq_none.mp free m (List.mem_finRange m)
      simp [differs, entry, taken, place] at here

theorem StationMove.settling (h : StationMove s t) (backlog : BacklogCause t) (hs : Settling extra excused s) :
    Settling extra excused t := by
  have foot := h.restations
  have intake : t.intake = s.intake := by rw [foot]
  have versions : t.versions = s.versions := by rw [foot]
  have jobs : t.track.printJobs = s.track.printJobs := by rw [foot]
  have reports : outstanding t = outstanding s := outstanding_same (by rw [foot]) (by rw [foot])
  cases h with
  | @changed n old new entry role position =>
    refine hs.of_stays ⟨sameLayout_putStation entry role position (stationChanged_stations n old new s), intake, versions,
      by rw [stationChanged_track], jobs, reports.le, fun working => .inl (working_of_still ?_ ?_ working)⟩ backlog
    · rw [stationChanged_track]
    · have told : (announceStation n new s).line.state = s.line.state := by
        rw [announces_announceStation n new s]
        rfl
      rcases stationChanged_cases n old new s with ⟨e, -⟩ | e | e
      · exact .inl (by rw [e]; rfl)
      · exact .inl (by rw [e, told])
      · exact .inr (.inr (by rw [e]; exact (faultTaken_handFault _ _).1))
  | @motion n st entry m =>
    exact hs.of_stays ⟨sameLayout_putStation (new := { st with motion := m }) entry rfl rfl rfl, rfl, rfl, rfl, rfl, le_refl _,
      fun working => .inl working⟩ backlog
  | @configured u free allowed placed bounded =>
    obtain ⟨idle, vacant⟩ := vacant_of_configurable free
    have cells : (putCause (.station u.slot) u.role.feeding (configure u.slot (some u.station) s)).track.cells
        = s.track.cells.take (stackerPosition (putStation u.slot (some u.station) (dropFrames u.slot s)) + 1) := by
      rw [putCause_track]
      rfl
    have layout : SameLayout (putStation u.slot (some u.station) (dropFrames u.slot s))
        (putCause (.station u.slot) u.role.feeding (configure u.slot (some u.station) s)) :=
      sameLayout_of_stations (by rw [putCause_stations]; rfl)
    refine hs.of_vacant vacant ?_ ?_ intake versions (cells ▸ List.take_prefix _ _) ?_ jobs reports backlog
    · rw [(announces_putCause _ _ _)]
      exact idle
    · refine stationsPlaced_put (n := u.slot) (st := some u.station) hs.stations (by rw [putCause_stations]; rfl) fun v own => ?_
      obtain rfl : u.station = v := Option.some.inj own
      exact ⟨placed, fun p place => ⟨bounded p place, position_free_of_setupRefusal allowed place⟩⟩
    · rw [cells, layout.stackerPosition]
      exact List.length_take_le _ _
  | cleared n free =>
    obtain ⟨idle, vacant⟩ := vacant_of_configurable free
    have cells : (removeCause (.station n) (configure n none s)).track.cells
        = s.track.cells.take (stackerPosition (putStation n none (dropFrames n s)) + 1) := by
      rw [removeCause_track]
      rfl
    have layout : SameLayout (putStation n none (dropFrames n s)) (removeCause (.station n) (configure n none s)) :=
      sameLayout_of_stations (by rw [removeCause_stations]; rfl)
    refine hs.of_vacant vacant ?_ ?_ intake versions (cells ▸ List.take_prefix _ _) ?_ jobs reports backlog
    · rw [(announces_removeCause _ _)]
      exact idle
    · exact stationsPlaced_put (n := n) (st := none) hs.stations (by rw [removeCause_stations]; rfl) fun v own => by cases own
    · rw [cells, layout.stackerPosition]
      exact List.length_take_le _ _

/-! ### The job reset (R181) -/

theorem settling_resetJob (hs : Settling extra excused s) (backlog : BacklogCause (resetJob s)) (idle : s.line.state = .idle)
    (reports : s.link.reports = []) : Settling extra excused (resetJob s) := by
  obtain ⟨intake, jobs, bundles, cells⟩ := resetJob_emptied s
  have state : (resetJob s).line.state = .idle := by rw [resetJob_eq]; exact idle
  have stations : (resetJob s).stations = s.stations := by rw [resetJob_eq]; rfl
  have none' : (resetJob s).link.reports = [] := by rw [resetJob_eq]; exact reports
  have versions (v : Fin 32) : (resetJob s).versions[v].refCount = 0 := by
    rw [resetJob_eq]
    simp [clearBlocks]
  have queue : (resetJob s).intake.queue = [] := by rw [intake]; rfl
  have noCell {p : Nat} {c : Cell} : (resetJob s).track.cells[p]? ≠ some c := by rw [cells]; simp
  have records : cellRecords (resetJob s) = [] := by unfold cellRecords; rw [cells]; rfl
  exact {
    records := fun c member => by rw [cells] at member; cases member
    stations := (sameLayout_of_stations stations).stationsPlaced hs.stations
    strung := fun working => by
      rcases working with ⟨notIdle, -⟩ | ⟨c, member, -⟩
      · exact absurd state notIdle
      · rw [cells] at member
        cases member
    placed := fun p c cell => absurd cell noCell
    awaited := fun p n c cell => absurd cell noCell
    length := by rw [cells]; exact Nat.zero_le _
    ordered := by simp [QueueOrdered, RemakesFirst, queue, cells]
    fresh := by simp [freshCount, queue, cells]
    bounded := by simp [remakeCount, heldRecords, withdrawnAhead, queue, cells]
    jobs := by rw [jobs]; omega
    counted := fun v => by rw [versions v, queue, cells]; simp
    backlog := backlog
    reports := by
      unfold outstanding weigh
      rw [none', bundles, records]
      simp [BundleBuilder.reset] }

/-! ### Every move -/

/-- Every move that is no stage of a larger change keeps the invariant. -/
theorem Move.settling (h : Move False s t) (hs : Settling extra excused s) : Settling extra excused t := by
  have backlog := h.backlog hs.backlog
  have stays (same : Stays s t) : Settling extra excused t := hs.of_stays same backlog
  cases h with
  | work h => exact h.settling hs
  | station h => exact h.settling backlog hs
  | jobReset idle reports => exact settling_resetJob hs backlog idle reports
  | line h => exact stays (stays_changeLine h hs.stations)
  | aside h =>
    exact stays (stays_of_same (by rw [h]) (by rw [h]) (by rw [h]) (by rw [h]) (by rw [h]) (by rw [h]) (by rw [h]) (.inl (by rw [h])))
  | reportSent r rest reports =>
    have foot := dropReport_eq rest s
    refine stays ⟨sameLayout_of_stations (by rw [foot]), by rw [foot], by rw [foot], by rw [foot], by rw [foot], ?_, ?_⟩
    · have left : (dropReport rest s).link.reports = rest := by rw [foot]
      have bundles : (dropReport rest s).bundles = s.bundles := by rw [foot]
      unfold outstanding
      rw [left, bundles, reports, List.length_cons]
      omega
    · exact fun working => .inl (working_of_still (by rw [foot]) (.inl (by rw [foot])) working)
  | cause c present =>
    have foot := announces_putCause c present s
    exact stays (stays_of_same (by rw [foot]) (by rw [foot]) (by rw [foot]) (by rw [foot]) (by rw [foot]) (by rw [foot])
      (by rw [foot]) (.inl (by rw [foot])))
  | fault k | estop =>
    exact stays (stays_of_same (by simp) (by simp) (by simp) (by simp) (by simp) (by simp) (by simp)
      (.inr (.inr (faultTaken_handFault _ _).1)))
  | estopReleased => exact stays (stays_of_same rfl rfl rfl rfl rfl rfl rfl (.inl rfl))
  | step h =>
    exact stays (stays_of_same (by rw [h.foot]) (by rw [h.foot]) (by rw [h.foot]) (by rw [h.foot]) (by rw [h.foot])
      (by rw [h.foot]) (by rw [h.foot]) (.inl (by rw [h.foot])))
  | phase h =>
    exact stays (stays_of_same (by rw [h.foot]) (by rw [h.foot]) (by rw [h.foot]) (by rw [h.foot]) (by rw [h.foot])
      (by rw [h.foot]) (by rw [h.foot]) (.inl (by rw [h.foot])))
  | counters h =>
    exact stays (stays_of_same (by rw [h.tallies]) (by rw [h.tallies]) (by rw [h.tallies]) (by rw [h.tallies])
      (by rw [h.tallies]) (by rw [h.tallies]) (by rw [h.tallies]) (.inl (by rw [h.tallies])))

theorem Moves.settling (h : Moves False s t) (hs : Settling extra excused s) : Settling extra excused t :=
  keeps_of_moves (fun _ _ => Move.settling) h hs

end Sys2Proof.Machine
end

section
/-! An exchange that ends, by a result or by a closure, with what its station's role then does to the cell: the
exchange is excused first, and after the outcome no command for that station is due. -/

namespace Sys2Proof.Machine

variable {extra : Nat} {excused : Nat → SlotNo → Prop} {s t : State} {n : SlotNo} {p : Nat}

/-! ### The exchange ends -/

/-- The exchange of a slot at a position is excused, with those that were. -/
def Excused (excused : Nat → SlotNo → Prop) (p : Nat) (n : SlotNo) : Nat → SlotNo → Prop :=
  fun q m => excused q m ∨ (q = p ∧ m = n)

theorem cellsFlow_endExchange (p : Nat) (n : SlotNo) (s : State) : CellsFlow False s (modifyCell p (Cell.endExchange n) s) :=
  cellsFlow_modify rfl fun _ _ => .of_same False.elim rfl rfl

/-- The other exchanges of a cell are still open when one has ended (R59). -/
theorem mem_endExchange {c : Cell} {e : Exchange} (other : e.slot ≠ n) (opened : e ∈ c.exchanges) :
    e ∈ (c.endExchange n).exchanges :=
  (List.mem_eraseP_of_neg (by simpa using other)).mpr opened

theorem settling_endExchange (hs : Settling extra excused s) :
    Settling extra (Excused excused p n) (modifyCell p (Cell.endExchange n) s) := by
  have flow := cellsFlow_endExchange p n s
  have layout : SameLayout s (modifyCell p (Cell.endExchange n) s) := sameLayout_of_stations rfl
  have records : cellRecords (modifyCell p (Cell.endExchange n) s) = cellRecords s :=
    map_record_modify_same fun _ _ => rfl
  refine (WorkMove.exchangeEnded p n trivial).settling_of flow (.quiet rfl rfl records (le_refl _)) ?_ hs
  intro q m d there due
  have before := hs.due_flow flow layout due
  obtain ⟨c, cell, -⟩ := flow.at there
  rcases hs.awaited q m c cell before with off | opened
  · exact .inl (.inl off)
  · change (s.track.cells.modify p (Cell.endExchange n))[q]? = some d at there
    rw [List.getElem?_modify, cell, Option.map_eq_map, Option.map_some] at there
    by_cases here : p = q
    · by_cases same : m = n
      · exact .inl (.inr ⟨here.symm, same⟩)
      · rw [if_pos here] at there
        obtain rfl := Option.some.inj there
        exact .inr (mem_endExchange same opened)
    · rw [if_neg here] at there
      obtain rfl := Option.some.inj there
      exact .inr opened

/-- What is excused but not due need not be excused. -/
theorem Settling.relieved {fewer : Nat → SlotNo → Prop} (hs : Settling extra excused s)
    (off : ∀ q m, excused q m → Due s q m → fewer q m) : Settling extra fewer s :=
  { hs with awaited := fun q m c cell due => (hs.awaited q m c cell due).imp (fun excused => off q m excused due) id }

theorem Settling.excuse {more : Nat → SlotNo → Prop} (hs : Settling extra excused s)
    (less : ∀ q m, excused q m → more q m) : Settling extra more s := hs.relieved fun q m excused _ => less q m excused

/-! ### What moves leave due -/

/-- A move leaves the layout as it is, or is a configuration of a vacant track. -/
theorem Move.layout {staged : Prop} (h : Move staged s t) : SameLayout s t ∨ Vacant t := by
  have same (table : t.stations = s.stations) : SameLayout s t ∨ Vacant t := .inl (sameLayout_of_stations table)
  have vacant (free : configurable s = true) (fewer : t.track.cells <+: s.track.cells) : SameLayout s t ∨ Vacant t :=
    .inr fun c member => (vacant_of_configurable free).2 c (fewer.subset member)
  cases h with
  | aside h => exact same (by rw [h])
  | reportSent => exact same (by rw [dropReport_eq])
  | cause => exact same (by simp)
  | line | estopReleased => exact same rfl
  | fault | estop => exact same (by simp)
  | station h =>
    have fewer := h.rests.cells
    cases h with
    | changed entry role position => exact .inl (sameLayout_putStation entry role position (stationChanged_stations _ _ _ _))
    | @motion n st entry m => exact .inl (sameLayout_putStation (new := { st with motion := m }) entry rfl rfl rfl)
    | configured free => exact vacant free fewer
    | cleared n free => exact vacant free fewer
  | step h => exact same (by rw [h.foot])
  | phase h => exact same (by rw [h.foot])
  | counters h => exact same (by rw [h.tallies])
  | work h => exact same (by rw [h.works])
  | jobReset => exact same (by rw [resetJob_eq]; rfl)

theorem Vacant.no_due (vacant : Vacant s) : ¬ Due s p n := by
  rintro ⟨c, cell, due⟩
  rcases vacant c (List.mem_of_getElem? cell) with h | h <;> simp [h, AwaitsGate, AwaitsStacker] at due

theorem Move.due (h : Move False s t) (hs : Settling extra excused s) (due : Due t p n) : Due s p n := by
  rcases h.layout with layout | vacant
  · rcases h.works_or_rests with work | rests | emptied
    · exact hs.due_flow (stay := True) (work.flow hs.records) layout due
    · obtain ⟨c, cell, due⟩ := due
      simp only [layout.stands] at due
      obtain ⟨gone, all⟩ := rests.cells
      refine ⟨c, ?_, due⟩
      rw [← all, List.getElem?_append_left (List.getElem?_eq_some_iff.mp cell).1]
      exact cell
    · obtain ⟨c, cell, -⟩ := due
      rw [emptied.cells] at cell
      cases cell
  · exact absurd due vacant.no_due

theorem Moves.due (h : Moves False s t) (hs : Settling extra excused s) (due : Due t p n) : Due s p n := by
  induction h with
  | refl => exact due
  | tail before move ih => exact ih (move.due (Moves.settling before hs) due)

/-- While a command is due, the slot is configured as it was. -/
theorem Moves.layoutAt (h : Moves False s t) (hs : Settling extra excused s) (due : Due t p n) :
    Machine.layoutAt t n = Machine.layoutAt s n := by
  induction h with
  | refl => rfl
  | tail before move ih =>
    rcases move.layout with layout | vacant
    · exact (layout n).trans (ih (move.due (Moves.settling before hs) due))
    · exact absurd due vacant.no_due

/-! ### What is done at a position -/

/-- The cell at a position awaits a station of the role no more. -/
def Done (r : Role) (p : Nat) (t : State) : Prop :=
  ∀ c, t.track.cells[p]? = some c →
    (r = .mainFeeder → c.content ≠ .offered) ∧ (r = .gate → ¬ AwaitsGate c) ∧ (r = .stacker → ¬ AwaitsStacker c)

theorem Stands.role_eq {r : Role} {st : Station} (h : Stands s r n p) (entry : stationAt s n = some st) : st.role = r := by
  obtain ⟨st', entry', role, -⟩ := h.role
  cases entry.symm.trans entry'
  exact role

theorem Done.not_due {r : Role} (done : Done r p t) (role : ∀ st, stationAt t n = some st → st.role = r) : ¬ Due t p n := by
  rintro ⟨c, cell, due⟩
  obtain ⟨feeder, gate, stacker⟩ := done c cell
  have own {r' : Role} {q : Nat} (stands : Stands t r' n q) : r = r' := by
    obtain ⟨st, entry, has, -⟩ := stands.role
    exact (role st entry).symm.trans has
  rcases due with ⟨offered, stands⟩ | ⟨awaits, stands⟩ | ⟨awaits, stands⟩
  · exact feeder (own stands) offered
  · exact gate (own stands) awaits
  · exact stacker (own stands) awaits

theorem done_of_modify {r : Role} {f : Cell → Cell} {u : State} (cells : t.track.cells = u.track.cells.modify p f)
    (after : ∀ c, u.track.cells[p]? = some c → (r = .mainFeeder → (f c).content ≠ .offered) ∧ (r = .gate → ¬ AwaitsGate (f c))
      ∧ (r = .stacker → ¬ AwaitsStacker (f c))) : Done r p t := by
  intro d there
  rw [cells, List.getElem?_modify_eq] at there
  obtain ⟨c, cell, rfl⟩ := Option.map_eq_some_iff.mp there
  exact after c cell

theorem freshFell_track (before : Nat) (s : State) : (freshFell before s).track = s.track := by
  unfold freshFell
  split <;> rfl

theorem lostOfferEnded_track (tag : Tag) (s : State) : (lostOfferEnded tag s).track = s.track := by
  unfold lostOfferEnded
  split
  · exact stepAutoExit_track _
  · rfl

/-- However the main feed of a cell ends, the cell is offered no more (R77 to R81). -/
theorem done_mainFeedEnded (n : SlotNo) (p : Nat) (e : FeedEnd) (s : State) : Done .mainFeeder p (mainFeedEnded n p e s) := by
  have fed (double : Bool) (demands : List Demand) {u : State} (cells : u.track.cells = s.track.cells.modify p (Cell.fedBy n double demands)) :
      Done .mainFeeder p u := done_of_modify cells fun c _ => ⟨fun _ => fedBy_content n double demands c, by simp, by simp⟩
  have back (c : Cell) {v : Content} (ends : v ≠ .offered) {u : State} (track : u.track = (withdrawOffer p c v s).track) :
      Done .mainFeeder p u := by
    have cells : u.track.cells = s.track.cells.modify p (Cell.offerWithdrawn v) := by
      rw [track, withdrawOffer_eq, lostOfferEnded_track, offerBack_cells]
    exact done_of_modify cells fun c _ => ⟨fun _ => ends, by simp, by simp⟩
  unfold mainFeedEnded
  split
  next none' =>
    intro c cell
    exact absurd cell (by rw [show s.track.cells[p]? = none from none']; simp)
  next c cell =>
    split
    next other =>
      intro d there
      obtain rfl : c = d := Option.some.inj ((show s.track.cells[p]? = some c from cell).symm.trans there)
      exact ⟨fun _ => other, by simp, by simp⟩
    next =>
      cases e with
      | fed =>
        dsimp only
        split
        next r _ => exact fed false (demandsOf s r.version) (by simp [bindRecord, freshFell_track, modifyCell])
        next => exact fed false [] (by simp [proofFed, modifyCell])
      | double =>
        dsimp only
        split
        next r _ => exact fed true (demandsOf s r.version) (by simp [bindRecord, freshFell_track, modifyCell])
        next => exact fed true [] (by simp [proofFed, modifyCell])
      | miss => exact back c (v := .empty) (by simp) (by simp)
      | closed =>
        dsimp only
        split
        · exact back c (v := .void) (by simp) rfl
        · exact back c (v := .void) (by simp) rfl

/-- However the gate's exchange ends, the cell awaits the gate no more (R139 to R147). -/
theorem done_gateEnded (n : SlotNo) (p : Nat) (o : GateOutcome) (s : State) : Done .gate p (gateEnded n p o s) := by
  have changed {f : Cell → Cell} (content : ∀ c, (f c).content = .passed ∨ (f c).content = .diverted) {u v : State}
      (cells : u.track.cells = v.track.cells.modify p f) : Done .gate p u :=
    done_of_modify cells fun c _ => ⟨by simp, fun _ => by rcases content c with h | h <;> simp [AwaitsGate, h], by simp⟩
  have diverted (c : Cell) (u : State) : Done .gate p (divertCondemned n p c u) := by
    refine changed (f := fun c => { c.withoutRecord with content := .diverted }) (v := u) (fun _ => .inr rfl) ?_
    unfold divertCondemned
    dsimp only
    split
    · rfl
    · split
      · simp [returnRemake, modifyCell]
      · simp [finishAttempts, releaseVersion, modifyCell]
  have escaped {u : State} (track : u.track = (setEscaped p s).track) : Done .gate p u :=
    changed (f := fun c => { c with content := .passed, escaped := true }) (v := s) (fun _ => .inl rfl) (by rw [track]; rfl)
  have set {v : Content} (ends : v = .passed ∨ v = .diverted) {u : State} (track : u.track = (setContent p v s).track) :
      Done .gate p u :=
    changed (f := fun c => { c with content := v }) (v := s) (fun _ => ends) (by rw [track]; rfl)
  unfold gateEnded
  split
  next none' =>
    intro c cell
    exact absurd cell (by rw [show s.track.cells[p]? = none from none']; simp)
  next c cell =>
    split
    next content =>
      split
      · exact diverted c s
      · unfold escapeCondemned
        dsimp only
        split
        next r record =>
          refine changed (f := Cell.withoutRecord ∘ fun c => { c with content := .passed, escaped := true }) (v := s)
            (fun c => .inl (withoutRecord_content _)) ?_
          simp [finishRecord, releaseVersion, setEscaped, modifyCell, List.modify_modify_eq]
        next => exact escaped (by simp)
    next content =>
      unfold boundOutcome
      split
      · exact diverted _ _
      · exact set (.inl rfl) rfl
    next content =>
      split
      · exact set (.inr rfl) rfl
      · exact escaped (by simp [escapeVoid])
    next content =>
      unfold proofOutcome
      split
      · exact set (.inr rfl) (by simp)
      · exact escaped (by simp)
    all_goals
      intro d there
      obtain rfl : c = d := Option.some.inj ((show s.track.cells[p]? = some c from cell).symm.trans there)
      simp_all [AwaitsGate]

/-- However the stacker's exchange ends, the cell holds no record that awaits it (R157 to R160). -/
theorem done_stackerEnded (n : SlotNo) (p : Nat) (e : StackerEnd) {s : State} (sound : RecordByContent s) :
    Done .stacker p (stackerEnded n p e s) := by
  have same {u : State} (track : u.track = s.track) {c : Cell} (cell : s.track.cells[p]? = some c)
      (other : ¬ AwaitsStacker c) : Done .stacker p u := by
    intro d there
    rw [track] at there
    obtain rfl : c = d := Option.some.inj (cell.symm.trans there)
    exact ⟨by simp, by simp, fun _ => other⟩
  unfold stackerEnded
  split
  next none' =>
    intro c cell
    exact absurd cell (by rw [show s.track.cells[p]? = none from none']; simp)
  next c cell =>
    have held : CellSound c := sound c (List.mem_of_getElem? cell)
    split
    next other => exact same rfl cell fun awaits => other awaits.1
    next =>
      split
      next escaped =>
        obtain ⟨-, -, -, recordless, -⟩ := held
        refine same ?_ cell fun awaits => awaits.2 (recordless escaped).2
        cases e <;> simp [setAsideOutcome]
      next =>
        split
        next r record =>
          have outcome : (stackOutcome n p c r e s).track.cells = s.track.cells.modify p Cell.withoutRecord := by
            cases e <;> simp [stackOutcome, finishRecord, releaseVersion, countItem, modifyCell]
          have cells : (carryOutClose (stackOutcome n p c r e s)).track.cells = s.track.cells.modify p Cell.withoutRecord := by
            rw [← outcome]
            unfold carryOutClose
            dsimp only
            split
            · rfl
            · rw [closeBundle_track]
            · rw [closeTray_track, closeBundle_track]
          exact done_of_modify cells fun d _ =>
            ⟨by simp, by simp, fun _ awaits => awaits.2 (withoutRecord_record d)⟩
        next record => exact same rfl cell fun awaits => awaits.2 record

/-! ### Results (R59) -/

/-- An exchange whose end has been dealt with by its station's role need not be excused. -/
theorem settling_after {u v : State} {r : Role} (hs : Settling extra (Excused excused p n) u)
    (role : ∀ st, stationAt u n = some st → st.role = r) (outcome : Moves False u v) (done : Done r p v)
    (rest : Moves False v t) : Settling extra excused t ∧ ¬ Due t p n := by
  have settled : Settling extra (Excused excused p n) t := Moves.settling rest (Moves.settling outcome hs)
  have ended : ¬ Due t p n := by
    intro due
    have due' : Due v p n := Moves.due rest (Moves.settling outcome hs) due
    refine done.not_due (fun st entry => ?_) due'
    have same := Moves.layoutAt outcome hs due'
    unfold Machine.layoutAt at same
    rw [entry, Option.map_some, eq_comm, Option.map_eq_some_iff] at same
    obtain ⟨old, stood, pair⟩ := same
    exact (congrArg Prod.fst pair).symm.trans (role old stood)
  refine ⟨settled.relieved fun q m off due => ?_, ended⟩
  rcases off with off | ⟨rfl, rfl⟩
  · exact off
  · exact absurd due ended

/-- A role whose cells do not await it. -/
theorem done_of_other {r : Role} (feeder : r ≠ .mainFeeder) (gate : r ≠ .gate) (stacker : r ≠ .stacker) : Done r p t :=
  fun _ _ => ⟨fun e => absurd e feeder, fun e => absurd e gate, fun e => absurd e stacker⟩

/-- What a result that the role reports does, first to the cell as the role says. -/
theorem settling_applyOutcome {u : State} {st : Station} {o : StationOutcome} (hs : Settling extra (Excused excused p n) u)
    (entry : stationAt u n = some st) (told : st.role.reports o = true) :
    Settling extra excused (applyOutcome n st.role p o u) := by
  have role (st' : Station) (entry' : stationAt u n = some st') : st'.role = st.role := by
    cases entry.symm.trans entry'
    rfl
  have counted {v : State} (outcome : Moves False u v) (done : Done st.role p v) :
      Settling extra excused (countResult n o v) :=
    (settling_after hs role outcome done (moves_countResult n o v)).1
  have other (feeder : st.role ≠ .mainFeeder) (gate : st.role ≠ .gate) (stacker : st.role ≠ .stacker) :
      Settling extra excused (applyOutcome n st.role p o u) :=
    (settling_after hs role .refl (done_of_other feeder gate stacker) (moves_applyOutcome n st.role p o u)).1
  generalize st.role = r at *
  cases r with
  | mainFeeder =>
    have fed (e : FeedEnd) := counted (moves_mainFeedEnded n p e u) (done_mainFeedEnded n p e u)
    cases o with
    | fed => exact fed .fed
    | miss => exact fed .miss
    | double => exact fed .double
    | _ => cases told
  | gate =>
    have ended (g : GateOutcome) := counted (moves_gateEnded n p g u) (done_gateEnded n p g u)
    cases o with
    | diverted => exact ended .diverted
    | passed => exact ended .passed
    | _ => cases told
  | stacker =>
    have ended (e : StackerEnd) := counted (moves_stackerEnded n p e u) (done_stackerEnded n p e hs.records)
    cases o with
    | stacked => exact ended .stacked
    | stackFault => exact ended .fault
    | _ => cases told
  | _ => exact other (by simp) (by simp) (by simp)

/-- A result that the role of its station reports keeps the invariant (R59 to R62). -/
theorem settling_takeResult {tag : Tag} {o : StationOutcome} (hs : Settling extra excused s)
    (told : ∀ st, stationAt s n = some st → st.role.reports o = true) :
    Settling extra excused (takeResult n tag o s) := by
  unfold takeResult
  split
  next p st _ entry =>
    have ended : Settling extra (Excused excused p n) (withdraw n tag (modifyCell p (Cell.endExchange n) s)) :=
      Moves.settling (moves_aside rfl) (settling_endExchange hs)
    exact settling_applyOutcome ended entry (told st entry)
  next => exact Moves.settling (moves_lateResult n s) hs

end Sys2Proof.Machine
end

section
/-! The first stages of an advance: after the closures no command is due, and the shift then carries no cell past the
station that it awaits and drops no record. -/

namespace Sys2Proof.Machine

variable {extra : Nat} {excused : Nat → SlotNo → Prop} {s t : State} {n : SlotNo} {p : Nat}

/-! ### Closures (R49 to R51) -/

/-- From s to t no command has become due. -/
def NoneDueAnew (s t : State) : Prop := ∀ q m, Due t q m → Due s q m

theorem NoneDueAnew.trans {u : State} (h : NoneDueAnew s t) (k : NoneDueAnew t u) : NoneDueAnew s u :=
  fun q m due => h q m (k q m due)

theorem Moves.noneDueAnew (h : Moves False s t) (hs : Settling extra excused s) : NoneDueAnew s t :=
  fun _ _ => Moves.due h hs

theorem done_closureEffect (k : Closure) (n : SlotNo) (r : Role) (p : Nat) (sound : RecordByContent s) :
    Done r p (closureEffect k n r p s) := by
  cases r with
  | mainFeeder => exact done_mainFeedEnded n p .closed s
  | gate => exact done_gateEnded n p k.gate s
  | stacker => exact done_stackerEnded n p .silent sound
  | _ => exact done_of_other (by simp) (by simp) (by simp)

/-- A closed exchange keeps the invariant, and its station has no command due for the cell any more (R50, R51). -/
theorem settling_closeExchange (hs : Settling extra excused s) (p : Nat) (tag : Tag) (n : SlotNo) :
    Settling extra excused (closeExchange p tag n s) ∧ ¬ Due (closeExchange p tag n s) p n
      ∧ NoneDueAnew s (closeExchange p tag n s) := by
  have aside : Moves False s (withdraw n tag s) := moves_aside rfl
  have withdrawn := Moves.settling aside hs
  have ended := settling_endExchange (p := p) (n := n) withdrawn
  have before : NoneDueAnew s (modifyCell p (Cell.endExchange n) (withdraw n tag s)) :=
    (Moves.noneDueAnew aside hs).trans fun q m =>
      withdrawn.due_flow (cellsFlow_endExchange p n _) (sameLayout_of_stations rfl)
  unfold closeExchange
  dsimp only
  split
  next st entry =>
    have outcome := moves_closureEffect (staged := False) (if stillQueued s n tag then .busLate else .noReport) n st.role p
      (modifyCell p (Cell.endExchange n) (withdraw n tag s))
    have rest := moves_handClosure (staged := False) (if stillQueued s n tag then .busLate else .noReport) n
      (closureEffect (if stillQueued s n tag then .busLate else .noReport) n st.role p
        (modifyCell p (Cell.endExchange n) (withdraw n tag s)))
    obtain ⟨settled, off⟩ := settling_after ended (r := st.role) (fun st' entry' => by cases entry.symm.trans entry'; rfl)
      outcome (done_closureEffect _ n st.role p ended.records) rest
    exact ⟨settled, off, before.trans (Moves.noneDueAnew (outcome.trans rest) ended)⟩
  next unconfigured =>
    have off : ¬ Due (modifyCell p (Cell.endExchange n) (withdraw n tag s)) p n := by
      rintro ⟨c, -, due⟩
      have configured {r : Role} (stands : Stands (modifyCell p (Cell.endExchange n) (withdraw n tag s)) r n p) : False := by
        obtain ⟨st, entry, -⟩ := stands.role
        exact absurd (entry.symm.trans unconfigured) (by simp)
      rcases due with ⟨-, stands⟩ | ⟨-, stands⟩ | ⟨-, stands⟩ <;> exact configured stands
    refine ⟨ended.relieved fun q m excused due => ?_, off, before⟩
    rcases excused with excused | ⟨rfl, rfl⟩
    · exact excused
    · exact absurd due off

/-- Some exchanges of a position close one after the other (R49). -/
theorem settling_closeAll (p : Nat) (tag : Tag) (l : List Exchange) (hs : Settling extra excused s) :
    Settling extra excused (l.foldl (fun s e => closeExchange p tag e.slot s) s)
      ∧ (∀ e ∈ l, ¬ Due (l.foldl (fun s e => closeExchange p tag e.slot s) s) p e.slot)
      ∧ NoneDueAnew s (l.foldl (fun s e => closeExchange p tag e.slot s) s) := by
  induction l generalizing s with
  | nil => exact ⟨hs, by simp, fun _ _ => id⟩
  | cons e l ih =>
    obtain ⟨first, off, anew⟩ := settling_closeExchange hs p tag e.slot
    obtain ⟨settled, offs, later⟩ := ih first
    refine ⟨settled, fun x member due => ?_, anew.trans later⟩
    rcases List.mem_cons.mp member with rfl | rest
    · exact off (later _ _ due)
    · exact offs x rest due

/-- After the closures of a position no command is due there (R49). -/
theorem settling_closeCell (hs : Settling extra (fun _ _ => False) s) (p : Nat) :
    Settling extra (fun _ _ => False) (closeCell s p) ∧ (∀ n, ¬ Due (closeCell s p) p n) ∧ NoneDueAnew s (closeCell s p) := by
  unfold closeCell
  split
  next c cell =>
    obtain ⟨settled, offs, anew⟩ := settling_closeAll p c.tag (c.exchanges.filter (·.closing == p)) hs
    refine ⟨settled, fun n due => ?_, anew⟩
    have opened := (hs.awaited p n c cell (anew p n due)).elim False.elim id
    exact offs _ (List.mem_filter.mpr ⟨opened, beq_self_eq_true p⟩) due
  next absent =>
    refine ⟨hs, fun n => ?_, fun _ _ => id⟩
    rintro ⟨c, cell, -⟩
    exact absurd (cell.symm.trans absent) (by simp)

theorem settling_closeCells (l : List Nat) (hs : Settling extra (fun _ _ => False) s) :
    Settling extra (fun _ _ => False) (l.foldl closeCell s) ∧ (∀ p ∈ l, ∀ n, ¬ Due (l.foldl closeCell s) p n)
      ∧ NoneDueAnew s (l.foldl closeCell s) := by
  induction l generalizing s with
  | nil => exact ⟨hs, by simp, fun _ _ => id⟩
  | cons q l ih =>
    obtain ⟨first, off, anew⟩ := settling_closeCell hs q
    obtain ⟨settled, offs, later⟩ := ih first
    refine ⟨settled, fun p member n due => ?_, anew.trans later⟩
    rcases List.mem_cons.mp member with rfl | rest
    · exact off n (later _ _ due)
    · exact offs p rest n due

/-- After step 1 of an advance no command is due (R49). -/
theorem settling_closeExchanges (hs : Settling extra (fun _ _ => False) s) :
    Settling extra (fun _ _ => False) (closeExchanges s) ∧ ∀ p n, ¬ Due (closeExchanges s) p n := by
  obtain ⟨settled, offs, anew⟩ := settling_closeCells (List.range s.track.cells.length) hs
  refine ⟨settled, fun p n due => offs p ?_ n due⟩
  obtain ⟨c, cell, -⟩ := anew p n due
  exact List.mem_range.mpr (List.getElem?_eq_some_iff.mp cell).1

/-! ### The shift (R52, R53) -/

theorem shift_cells (s : State) :
    (shift s).track.cells = Cell.new s.track.nextTag :: s.track.cells.take (stackerPosition s) := rfl

/-- A cell after the shift is the new one, or one that stood a position lower (R52). -/
theorem shift_cell {d : Cell} (there : (shift s).track.cells[p]? = some d) :
    (p = 0 ∧ d = Cell.new s.track.nextTag) ∨ ∃ q, p = q + 1 ∧ q < stackerPosition s ∧ s.track.cells[q]? = some d := by
  rw [shift_cells] at there
  cases p with
  | zero => exact .inl ⟨rfl, (Option.some.inj there).symm⟩
  | succ q =>
    rw [List.getElem?_cons_succ, List.getElem?_take] at there
    split at there
    next inside => exact .inr ⟨q, rfl, inside, there⟩
    next => cases there

/-- Where nothing is due, the cell at the stacker and above holds no record (R49). -/
theorem Settling.no_record_at_end (hs : Settling extra excused s) (off : ∀ p n, ¬ Due s p n) {c : Cell}
    (cell : s.track.cells[p]? = some c) (last : stackerPosition s ≤ p) : c.record = none := by
  have sound : CellSound c := hs.records c (List.mem_of_getElem? cell)
  obtain ⟨-, -, recordless, -⟩ := sound
  obtain ⟨feeder, gate, stacker⟩ := hs.placed p c cell
  have atGate (awaits : AwaitsGate c) : False := by
    obtain ⟨n, g, stands, before⟩ := gate awaits
    obtain ⟨_, _, _, g', last', _, standsGate, standsStacker, _, less⟩ := hs.strung_of_cell cell awaits.holdsItem
    obtain ⟨-, rfl⟩ := stands.unique standsGate
    have := standsStacker.stackerPosition
    omega
  cases content : c.content with
  | empty => exact recordless (.inl content)
  | offered =>
    obtain ⟨rfl, n, stands⟩ := feeder content
    exact absurd ⟨c, cell, .inl ⟨content, stands⟩⟩ (off 0 n)
  | void => exact (atGate (.inr (.inr (.inl content)))).elim
  | bound => exact (atGate (.inl content)).elim
  | condemned => exact (atGate (.inr (.inl content))).elim
  | proof => exact (atGate (.inr (.inr (.inr content)))).elim
  | passed =>
    by_contra record
    obtain ⟨n, last', stands, before⟩ := stacker ⟨content, record⟩
    have := stands.stackerPosition
    obtain rfl : p = last' := by omega
    exact off p n ⟨c, cell, .inr (.inr ⟨⟨content, record⟩, stands⟩)⟩
  | diverted => exact recordless (.inr (.inr (.inr content)))

theorem cellRecords_shift (s : State) : cellRecords (shift s) = none :: (cellRecords s).take (stackerPosition s) := by
  unfold cellRecords
  rw [shift_cells, List.map_cons, List.map_take]
  rfl

theorem countP_shift {l : List (Option Record)} {m : Nat} {f : Option Record → Bool} (nothing : f none = false)
    (rest : ∀ o ∈ l.drop m, o = none) : (none :: l.take m).countP f = l.countP f := by
  have parted := congrArg (List.countP f) (List.take_append_drop m l)
  rw [List.countP_append, countP_no_records nothing rest] at parted
  rw [List.countP_cons, nothing]
  simpa using parted

/-- No cell is offered. -/
def NoOffer (s : State) : Prop := ∀ c ∈ s.track.cells, c.content ≠ .offered

/-- Where nothing is due, the shift keeps the invariant, every command then being excused and every record weighing
three reports (R52). -/
theorem settling_shift (hs : Settling 0 excused s) (off : ∀ p n, ¬ Due s p n) :
    Settling 1 (fun _ _ => True) (shift s) ∧ NoOffer (shift s) := by
  have move : WorkMove True s (shift s) := .shifted trivial
  have layout : SameLayout s (shift s) := sameLayout_of_stations rfl
  have rest : ∀ o ∈ (cellRecords s).drop (stackerPosition s), o = none := by
    intro o member
    obtain ⟨i, there⟩ := List.mem_iff_getElem?.mp member
    rw [List.getElem?_drop] at there
    unfold cellRecords at there
    rw [List.getElem?_map] at there
    obtain ⟨c, cell, rfl⟩ := Option.map_eq_some_iff.mp there
    exact hs.no_record_at_end off cell (Nat.le_add_right _ _)
  have offers : NoOffer (shift s) := by
    intro d member offered
    obtain ⟨p, there⟩ := List.mem_iff_getElem?.mp member
    rcases shift_cell there with ⟨-, rfl⟩ | ⟨q, rfl, -, cell⟩
    · simp [Cell.new] at offered
    · obtain ⟨rfl, n, stands⟩ := (hs.placed q d cell).1 offered
      exact off 0 n ⟨d, cell, .inl ⟨offered, stands⟩⟩
  refine ⟨?_, offers⟩
  exact {
    records := move.recordByContent hs.records
    stations := layout.stationsPlaced hs.stations
    strung := fun working => layout.strung.mpr (hs.strung (by
      rcases working with moving | ⟨d, member, holds⟩
      · exact .inl moving
      · rcases List.mem_cons.mp (shift_cells s ▸ member) with rfl | old
        · exact absurd rfl holds.1
        · exact .inr ⟨d, List.mem_of_mem_take old, holds⟩))
    placed := by
      intro p d there
      simp only [layout.stands]
      rcases shift_cell there with ⟨rfl, rfl⟩ | ⟨q, rfl, -, cell⟩
      · simp [Cell.new, AwaitsGate, AwaitsStacker]
      · obtain ⟨feeder, gate, stacker⟩ := hs.placed q d cell
        refine ⟨fun offered => absurd offered (offers d (List.mem_of_getElem? there)), fun awaits => ?_, fun awaits => ?_⟩
        · obtain ⟨n, g, stands, before⟩ := gate awaits
          refine ⟨n, g, stands, Nat.lt_of_le_of_ne before ?_⟩
          rintro rfl
          exact off q n ⟨d, cell, .inr (.inl ⟨awaits, stands⟩)⟩
        · obtain ⟨n, last, stands, before⟩ := stacker awaits
          refine ⟨n, last, stands, Nat.lt_of_le_of_ne before ?_⟩
          rintro rfl
          exact off q n ⟨d, cell, .inr (.inr ⟨awaits, stands⟩)⟩
    awaited := fun _ _ _ _ _ => .inl trivial
    length := by
      rw [shift_cells, List.length_cons, layout.stackerPosition]
      exact Nat.succ_le_succ (List.length_take_le _ _)
    ordered := hs.ordered.of_intake (fun d member offered => absurd offered (offers d member)) id fun _ => id
    fresh := move.freshCount hs.fresh
    bounded := by
      have before := hs.bounded
      rw [remakeCount_eq, withdrawnAhead_eq, heldRecords_eq] at *
      rw [cellRecords_shift, countP_shift rfl rest]
      exact before
    jobs := hs.jobs
    counted := hs.counted.of_uses rfl fun v => by
      unfold versionUses
      rw [cellRecords_shift, countP_shift rfl rest]
      rfl
    backlog := move.backlog hs.backlog
    reports := by
      have before := hs.reports
      have same : outstanding (shift s) = outstanding s := outstanding_same rfl rfl
      have less : weigh (stackerPosition s + 1) (cellRecords (shift s)) ≤ weigh (stackerPosition s) (cellRecords s) := by
        rw [cellRecords_shift]
        unfold weigh
        rw [List.take_succ_cons, List.drop_succ_cons, List.take_take, Nat.min_self, List.countP_cons, List.drop_take]
        simp
      rw [same, layout.stackerPosition]
      exact (Nat.add_le_add_left less _).trans before }

end Sys2Proof.Machine
end

section
/-! The third stage of an advance: binding strands remakes and offers a record only while BACKLOG is absent, so that the
reports stay within bounds, and offers into the new cell of a line that is strung. -/

namespace Sys2Proof.Machine

variable {s t : State}

/-! ### Bounds while BACKLOG is absent -/

/-- Every command is excused: none has been derived yet. -/
def AllExcused : Nat → SlotNo → Prop := fun _ _ => True

/-- Few reports wait, less one for each remake in the queue and each record in a cell (R27, R197). -/
def Unburdened (s : State) : Prop := s.link.reports.length + remakeCount s + heldRecords s ≤ 127

theorem weigh_le (first : Nat) (l : List (Option Record)) : weigh first l ≤ 3 * l.countP Option.isSome := by
  have parted := congrArg (List.countP Option.isSome) (List.take_append_drop first l)
  rw [List.countP_append] at parted
  unfold weigh
  omega

theorem outstanding_le (s : State) : outstanding s ≤ s.link.reports.length + 2 := by
  unfold outstanding
  split <;> split <;> omega

/-- Few reports and at most 65 records leave the reports to be made within the queue (R197). -/
theorem reports_of_few (first : Nat) (few : s.link.reports.length + heldRecords s ≤ 128) (held : heldRecords s ≤ 64) :
    outstanding s + weigh first (cellRecords s) ≤ 320 := by
  have := weigh_le first (cellRecords s)
  have := outstanding_le s
  rw [heldRecords_eq] at *
  omega

/-- With no cause of suppression, fewer than 64 reports wait (R197). -/
theorem reports_of_no_cause (backlog : BacklogCause s) (free : s.line.feed.isEmpty = true) : s.link.reports.length ≤ 63 := by
  by_contra many
  have stands := backlog.1 (by omega)
  rw [(FeedSet.isEmpty_iff _).mp free] at stands
  cases stands

/-! ### Stranded remakes (R73) -/

/-- The state in which binding decides: on a running line, with a new cell at position 0. -/
structure Deciding (s : State) : Prop where
  settling : Settling 1 AllExcused s
  few : Unburdened s
  running : s.line.state = .running
  front : ∃ c, s.track.cells[0]? = some c ∧ c.content = .empty ∧ c.record = none

theorem Deciding.strung (h : Deciding s) : Strung s := h.settling.strung (.inl (by simp [h.running]))

/-- The head record, a remake, leaves the queue (R73). -/
theorem settling_stranded {r : Record} {rest : List Record} (hs : Settling 1 AllExcused s) (few : Unburdened s)
    (queue : s.intake.queue = r :: rest) (remake : r.kind = .remake) :
    Settling 1 AllExcused (reportGone r (offlineReport r .stranded none r.attempts) (setQueue s.intake.queue.tail s))
      ∧ Unburdened (reportGone r (offlineReport r .stranded none r.attempts) (setQueue s.intake.queue.tail s)) := by
  have move : WorkMove True s (reportGone r (offlineReport r .stranded none r.attempts) (setQueue s.intake.queue.tail s)) :=
    .stranded r rest queue remake trivial
  generalize after : reportGone r (offlineReport r .stranded none r.attempts) (setQueue s.intake.queue.tail s) = t at move
  have layout : SameLayout s t := sameLayout_of_stations (by rw [move.works])
  have cells : t.track.cells = s.track.cells := by rw [← after, reportGone, queueReport_track]; rfl
  have intake : t.intake = { s.intake with queue := rest } := by
    rw [← after, reportGone, queueReport_intake, queue]
    rfl
  have versions : t.versions = (releaseVersion r s).versions := by rw [← after, reportGone, queueReport_versions]; rfl
  have reports : t.link.reports.length = s.link.reports.length + 1 := by
    rw [← after, reportGone, queueReport_link_reports, List.length_append, List.length_singleton]
    rfl
  have state : t.line.state = s.line.state := by rw [move.works]
  have records := cellRecords_of_cells cells
  have fewer : t.intake.queue.Sublist s.intake.queue := by rw [intake, queue]; exact List.sublist_cons_self r rest
  have rising : RemakesFirst rest := by
    have remakes := hs.ordered.1
    rwa [queue] at remakes
  have counts : remakesOf s.intake.queue = remakesOf t.intake.queue + 1 := by
    rw [queue, intake]
    simp [remakesOf, remake]
  have ahead : aheadOf t.intake.queue = 0 := by rw [intake]; exact aheadOf_remakesFirst rising
  have held : heldRecords t = heldRecords s := by rw [heldRecords_eq, heldRecords_eq, records]
  have bound := hs.bounded
  have unburdened : Unburdened t := by
    unfold Unburdened at *
    rw [remakeCount_eq] at *
    omega
  rw [remakeCount_eq, withdrawnAhead_eq] at bound
  refine ⟨?_, unburdened⟩
  exact {
    records := hs.records.of_cells cells
    stations := layout.stationsPlaced hs.stations
    strung := fun working => layout.strung.mpr (hs.strung (working_of_still cells (.inl state) working))
    placed := hs.placed_flow (stay := True) (cellsFlow_of_track cells) layout
    awaited := fun _ _ _ _ _ => .inl trivial
    length := by rw [cells, layout.stackerPosition]; exact hs.length
    ordered := hs.ordered.of_intake (CellsFlow.offersStay (stay := True) (cellsFlow_of_track cells))
      (queueRises_sublist fewer (by rw [intake])) fun _ => offerAhead_sublist fewer (by rw [intake])
    fresh := move.freshCount hs.fresh
    bounded := by
      rw [remakeCount_eq, withdrawnAhead_eq]
      omega
    jobs := move.printJobs hs.jobs
    counted := hs.counted.released versions fun v => by
      unfold versionUses
      rw [intake, records, queue, countP_version_cons]
      dsimp only
      omega
    backlog := move.backlog hs.backlog
    reports := by
      unfold Unburdened at unburdened
      exact reports_of_few _ (by omega) (by omega) }

/-- An event for the counters leaves binding deciding (R185). -/
theorem Deciding.tally (h : Deciding s) (e : TallyEvent) (slot : Option SlotNo) : Deciding (tally e slot s) := by
  refine ⟨Moves.settling (moves_tally e slot s) h.settling, ?_, by rw [tally_line_state]; exact h.running, ?_⟩
  · have few := h.few
    unfold Unburdened remakeCount heldRecords at *
    rwa [tally_link_reports, tally_intake, tally_track]
  · rw [tally_track]
    exact h.front

theorem Deciding.strandHead {r : Record} {rest : List Record} (h : Deciding s) (queue : s.intake.queue = r :: rest)
    (remake : r.kind = .remake) : Deciding (strandHead s r) := by
  rw [strandHead_eq]
  refine Deciding.tally (Deciding.tally ?_ _ _) _ _
  obtain ⟨settling, few⟩ := settling_stranded h.settling h.few queue remake
  refine ⟨settling, few, ?_, ?_⟩
  · rw [reportGone, queueReport_line_state]
    exact h.running
  · rw [reportGone, queueReport_track]
    exact h.front

theorem Deciding.strandAll (l : List Record) {rest : List Record} (h : Deciding s) (queue : s.intake.queue = l ++ rest)
    (remakes : ∀ r ∈ l, r.kind = .remake) : Deciding (l.foldl Machine.strandHead s) := by
  induction l generalizing s with
  | nil => exact h
  | cons r l ih =>
    refine ih (h.strandHead queue (remakes r List.mem_cons_self)) ?_ fun x member => remakes x (List.mem_cons_of_mem _ member)
    rw [strandHead_queue, queue]
    rfl

theorem Deciding.strandHeads (h : Deciding s) : Deciding (strandHeads s) :=
  h.strandAll _ (List.takeWhile_append_dropWhile (p := strandable s.binding.lastKey)).symm fun _ member =>
    strandable_remake (List.mem_takeWhile_imp member)

/-! ### Offers (R71, R76) -/

theorem getElem?_modify_front {f : Cell → Cell} {l : List Cell} {p : Nat} {d : Cell} (there : (l.modify 0 f)[p]? = some d) :
    (∃ c, p = 0 ∧ l[0]? = some c ∧ d = f c) ∨ (p ≠ 0 ∧ l[p]? = some d) := by
  rw [List.getElem?_modify] at there
  by_cases front : p = 0
  · subst front
    obtain ⟨c, cell, rfl⟩ := Option.map_eq_some_iff.mp there
    exact .inl ⟨c, rfl, cell, rfl⟩
  · refine .inr ⟨front, ?_⟩
    simpa [Ne.symm front] using there

/-- A new offer stands at position 0 before the main feeder, and the other cells stand as they stood (R76). -/
theorem placed_offer {f : Cell → Cell} (hs : Placed s) (strung : Strung s) (layout : SameLayout s t)
    (cells : t.track.cells = s.track.cells.modify 0 f) (content : ∀ c, (f c).content = .offered) : Placed t := by
  intro p d there
  rw [cells] at there
  simp only [layout.stands]
  rcases getElem?_modify_front there with ⟨c, rfl, -, rfl⟩ | ⟨-, cell⟩
  · obtain ⟨n, _, _, _, _, stands, -⟩ := strung
    exact ⟨fun _ => ⟨rfl, n, stands⟩, by simp [AwaitsGate, content], by simp [AwaitsStacker, content]⟩
  · exact hs p d cell

theorem length_le (hs : Settling 1 AllExcused s) : s.track.cells.length ≤ 64 := by
  have bounded : PositionsBounded s := fun n st p entry place => ((hs.stations n st entry).2 p place).1
  have := stackerPosition_le bounded
  have := hs.length
  omega

/-- A proof offer holds no record (R71). -/
theorem settling_offerProof (h : Deciding s) : Settling 1 AllExcused (offerProof s) := by
  have hs := h.settling
  obtain ⟨c, cell, empty, none'⟩ := h.front
  have free : ∀ d, s.track.cells[0]? = some d → d.content = .empty ∧ d.record = none := fun d here => by
    obtain rfl : c = d := Option.some.inj (cell.symm.trans here)
    exact ⟨empty, none'⟩
  have move : WorkMove True s (offerProof s) := .proofOffered free trivial
  have layout : SameLayout s (offerProof s) := sameLayout_of_stations rfl
  have cells : (offerProof s).track.cells = s.track.cells.modify 0 (fun c => { c with content := .offered, proofOffer := true }) := rfl
  have records : cellRecords (offerProof s) = cellRecords s := map_record_modify_same fun _ _ => rfl
  exact {
    records := move.recordByContent hs.records
    stations := layout.stationsPlaced hs.stations
    strung := fun _ => layout.strung.mpr h.strung
    placed := placed_offer hs.placed h.strung layout cells fun _ => rfl
    awaited := fun _ _ _ _ _ => .inl trivial
    length := by rw [cells, List.length_modify, layout.stackerPosition]; exact hs.length
    ordered := by
      obtain ⟨rising, offers⟩ := (queueOrdered_iff s).mp hs.ordered
      refine (queueOrdered_iff _).mpr ⟨rising, fun d member offered r record => ?_⟩
      obtain ⟨p, there⟩ := List.mem_iff_getElem?.mp member
      rw [cells] at there
      rcases getElem?_modify_front there with ⟨e, -, here, rfl⟩ | ⟨-, there⟩
      · rw [(free e here).2] at record
        cases record
      · exact offers d (List.mem_of_getElem? there) offered r record
    fresh := move.freshCount hs.fresh
    bounded := by
      have before := hs.bounded
      rw [remakeCount_eq, withdrawnAhead_eq, heldRecords_eq] at *
      rw [records]
      exact before
    jobs := hs.jobs
    counted := hs.counted.of_uses rfl fun v => by
      unfold versionUses
      rw [records]
      rfl
    backlog := move.backlog hs.backlog
    reports := by
      rw [layout.stackerPosition, records]
      exact hs.reports }

theorem map_record_offer (head : Record) (l : List Cell) :
    (l.modify 0 (fun c => { c with content := .offered, record := some head })).map (·.record) = (l.map (·.record)).set 0 (some head) := by
  cases l <;> simp

theorem countP_set_some {p : Option Record → Bool} (nothing : p none = false) {l : List (Option Record)} {i : Nat} {r : Record}
    (here : l[i]? = some none) : (l.set i (some r)).countP p = l.countP p + (if p (some r) then 1 else 0) := by
  have back := countP_set_none (p := p) nothing (l := l.set i (some r)) (i := i) (o := some r)
    (by rw [List.getElem?_set_self (List.getElem?_eq_some_iff.mp here).1])
  obtain ⟨short, at_i⟩ := List.getElem?_eq_some_iff.mp here
  rw [List.set_set, ← at_i, List.set_getElem_self] at back
  exact back.symm

/-- The head of the queue is offered into the new cell (R76). -/
theorem settling_headOffered {head : Record} {rest : List Record} (h : Deciding s) (queue : s.intake.queue = head :: rest) :
    Settling 1 AllExcused (headOffered head s) := by
  have hs := h.settling
  obtain ⟨c, cell, empty, none'⟩ := h.front
  have free : ∀ d, s.track.cells[0]? = some d → d.content = .empty ∧ d.record = none := fun d here => by
    obtain rfl : c = d := Option.some.inj (cell.symm.trans here)
    exact ⟨empty, none'⟩
  have move : WorkMove True s (headOffered head s) := .offered head rest queue free trivial
  have layout : SameLayout s (headOffered head s) := sameLayout_of_stations rfl
  have cells : (headOffered head s).track.cells
      = s.track.cells.modify 0 (fun c => { c with content := .offered, record := some head }) := rfl
  have records : cellRecords (headOffered head s) = (cellRecords s).set 0 (some head) := map_record_offer head _
  have vacant : (cellRecords s)[0]? = some none := (cellRecords_get cell).trans (congrArg some none')
  have intake : (headOffered head s).intake = { s.intake with queue := rest } := by
    change { s.intake with queue := s.intake.queue.tail } = _
    rw [queue, List.tail_cons]
  have reports : (headOffered head s).link.reports = s.link.reports := rfl
  obtain ⟨rising, offers⟩ := (queueOrdered_iff s).mp hs.ordered
  obtain ⟨remakes, order, below⟩ := rising
  rw [queue] at remakes order below
  have ahead : aheadOf rest = 0 := aheadOf_remakesFirst remakes
  have fewer : (headOffered head s).intake.queue.Sublist s.intake.queue := by
    rw [intake, queue]
    exact List.sublist_cons_self head rest
  have last : (headOffered head s).intake.lastSequence = s.intake.lastSequence := by rw [intake]
  have held : heldRecords (headOffered head s) = heldRecords s + 1 := by
    rw [heldRecords_eq, heldRecords_eq, records, countP_set_some rfl vacant]
    rfl
  have bound := hs.bounded
  rw [remakeCount_eq, withdrawnAhead_eq, queue] at bound
  have few := h.few
  unfold Unburdened at few
  have bounded : remakesOf rest + heldRecords (headOffered head s) ≤ 64 := by
    cases kind : head.kind with
    | remake =>
      have : remakesOf (head :: rest) = remakesOf rest + 1 := by simp [remakesOf, kind]
      omega
    | fresh =>
      have same : remakesOf (head :: rest) = remakesOf rest := by simp [remakesOf, kind]
      by_cases more : 0 < remakesOf rest
      · have : aheadOf (head :: rest) = 1 := by
          unfold aheadOf
          rw [same]
          exact if_pos ⟨by simp [Record.isFresh, kind], more⟩
        omega
      · have all : heldRecords (headOffered head s) ≤ (headOffered head s).track.cells.length := List.countP_le_length
        rw [cells, List.length_modify] at all
        have := length_le hs
        omega
  exact {
    records := move.recordByContent hs.records
    stations := layout.stationsPlaced hs.stations
    strung := fun _ => layout.strung.mpr h.strung
    placed := placed_offer hs.placed h.strung layout cells fun _ => rfl
    awaited := fun _ _ _ _ _ => .inl trivial
    length := by rw [cells, List.length_modify, layout.stackerPosition]; exact hs.length
    ordered := by
      refine (queueOrdered_iff _).mpr ⟨queueRises_sublist fewer last ((queueOrdered_iff s).mp hs.ordered).1,
        fun d member offered r record => ?_⟩
      obtain ⟨p, there⟩ := List.mem_iff_getElem?.mp member
      rw [cells] at there
      rcases getElem?_modify_front there with ⟨e, -, here, rfl⟩ | ⟨-, there⟩
      · obtain rfl : head = r := Option.some.inj record
        rw [intake]
        exact ⟨remakes, fun kind => ⟨below head List.mem_cons_self kind,
          fun x later xfresh => (List.pairwise_cons.mp order).1 x later kind xfresh⟩⟩
      · exact offerAhead_sublist fewer last (offers d (List.mem_of_getElem? there) offered r record)
    fresh := move.freshCount hs.fresh
    bounded := by
      rw [remakeCount_eq, withdrawnAhead_eq, intake]
      dsimp only
      omega
    jobs := hs.jobs
    counted := hs.counted.of_uses rfl fun v => by
      unfold versionUses
      rw [intake, records, queue, countP_version_cons, countP_set_some rfl vacant]
      simp only [Option.any_some, beq_iff_eq]
      omega
    backlog := move.backlog hs.backlog
    reports := reports_of_few _ (by rw [reports]; omega) (by omega) }

/-! ### The decision (R70 to R76) -/

/-- Binding's decision for the new cell of a running line keeps the invariant (R53). -/
theorem settling_decideNewCell (hs : Settling 1 AllExcused s) (running : s.line.state = .running)
    (front : ∃ c, s.track.cells[0]? = some c ∧ c.content = .empty ∧ c.record = none) :
    Settling 1 AllExcused (decideNewCell s) := by
  unfold decideNewCell
  split
  next => exact Moves.settling (moves_gap s) hs
  next free =>
    have free : s.line.feed.isEmpty = true := by simpa using free
    have few := reports_of_no_cause hs.backlog free
    have deciding : Deciding s := by
      refine ⟨hs, ?_, running, front⟩
      have := hs.bounded
      unfold Unburdened
      omega
    split
    · exact settling_offerProof deciding
    · have stranded := deciding.strandHeads
      unfold decideHead
      split
      next => exact Moves.settling (moves_gap _) stranded.settling
      next head rest queue =>
        split
        next => exact Moves.settling (moves_meetStopPoint _ _ _) stranded.settling
        next =>
          split
          next => exact Moves.settling (moves_keyWaitGap _) stranded.settling
          next =>
            have told : Moves False (headOffered head (strandHeads s)) (offerHead head (strandHeads s)) := by
              refine Relation.ReflTransGen.trans ?_ (moves_tally _ _ _)
              exact moves_aside rfl
            exact Moves.settling told (settling_headOffered stranded queue)

end Sys2Proof.Machine
end

section
/-! The last stage of an advance: position by position, the station that a cell awaits gets its command, and the stacker's
break is paid by the record that has reached it. -/

namespace Sys2Proof.Machine

variable {s t : State} {n : SlotNo} {p : Nat}

/-! ### The break (R153) -/

/-- From s to t nothing has changed but the bundle builder, the counters, the reports and what tells of them. -/
def Builds (s t : State) : Prop :=
  t = { s with
    bundles := t.bundles
    counters := t.counters
    line := { s.line with feed := t.line.feed }
    link := { s.link with reports := t.link.reports, notices := t.link.notices } }

theorem Builds.trans {u : State} (h : Builds s t) (k : Builds t u) : Builds s u := by
  unfold Builds at *
  rw [k, h]

theorem builds_queueReport (r : Report) (s : State) : Builds s (queueReport r s) := by
  unfold Builds
  rw [queueReport_eq]

theorem Tallies.builds (h : Tallies s t) : Builds s t := by
  unfold Tallies at h
  unfold Builds
  rw [h]

theorem builds_closeBundle (reason : ClosureReason) (s : State) : Builds s (closeBundle reason s) := by
  cases h : s.bundles.bundle with
  | none => rw [closeBundle_none h]; rfl
  | some b =>
    have closed : Builds s (bundleClosed reason b s) := by
      refine (builds_queueReport (.bundle { bundle := b, residual := reason.mayBeResidual && b.items < s.params.bundleMinItems, reason := reason }) s).trans ?_
      rfl
    rw [closeBundle_of h]
    exact closed.trans (tallies_tally _ _ _).builds

theorem builds_closeTray (reason : ClosureReason) (s : State) : Builds s (closeTray reason s) := by
  cases h : s.bundles.tray with
  | none => rw [closeTray_none h]; rfl
  | some t =>
    rw [closeTray_of h]
    refine (builds_queueReport (.tray { tray := t, reason := reason }) s).trans ?_
    rfl

theorem builds_breakBundle (r : Record) (w : Nat) (s : State) : Builds s (breakBundle r w s) := by
  rcases breakBundle_cases r w s with ⟨reason, e⟩ | ⟨-, e⟩
  · exact e ▸ builds_closeBundle reason s
  · rw [e]; rfl

theorem outstanding_tally (e : TallyEvent) (slot : Option SlotNo) (s : State) : outstanding (tally e slot s) = outstanding s :=
  outstanding_same (by simp) (by simp)

theorem outstanding_closeBundle (reason : ClosureReason) (s : State) : outstanding (closeBundle reason s) = outstanding s := by
  cases h : s.bundles.bundle with
  | none => rw [closeBundle_none h]
  | some b => rw [closeBundle_of h, outstanding_tally, outstanding_bundleClosed h]

theorem outstanding_closeTray (reason : ClosureReason) (s : State) : outstanding (closeTray reason s) = outstanding s := by
  cases h : s.bundles.tray with
  | none => rw [closeTray_none h]
  | some t => rw [closeTray_of h, outstanding_trayClosed h]

theorem outstanding_breakBundle (r : Record) (w : Nat) (s : State) : outstanding (breakBundle r w s) = outstanding s := by
  rcases breakBundle_cases r w s with ⟨reason, e⟩ | ⟨-, e⟩
  · rw [e, outstanding_closeBundle]
  · rw [e]

theorem outstanding_openBundle (key : Nat) (s : State) : outstanding (openBundle key s) ≤ outstanding s + 1 := by
  unfold outstanding openBundle
  simp only [Option.isSome_some, Option.isSome_map, if_true]
  omega

theorem outstanding_openTray (key : Nat) (s : State) : outstanding (openTray key s) ≤ outstanding s + 1 := by
  unfold outstanding openTray
  simp only [Option.isSome_some, if_true]
  omega

/-- A break makes two reports more at most: those of the bundle and the tray that it opens (R153, R155). -/
theorem outstanding_decideBreak (r : Record) (s : State) : outstanding (decideBreak r s).2 ≤ outstanding s + 2 := by
  unfold decideBreak
  dsimp only
  split
  · refine (outstanding_openBundle _ _).trans (Nat.succ_le_succ ((outstanding_openTray _ _).trans ?_))
    rw [outstanding_closeTray, outstanding_breakBundle]
  · split
    · refine (outstanding_openBundle _ _).trans ?_
      rw [outstanding_breakBundle]
      omega
    · exact Nat.le_add_right _ _

theorem builds_decideBreak (r : Record) (s : State) : Builds s (decideBreak r s).2 := by
  unfold decideBreak
  dsimp only
  split
  · refine Builds.trans ?_ (t := closeTray _ (breakBundle r _ s)) rfl
    exact (builds_breakBundle _ _ s).trans (builds_closeTray _ _)
  · split
    · exact (builds_breakBundle _ _ s).trans rfl
    · rfl

/-- A record at the stacker is owed two reports less than one before it. -/
theorem weigh_at {l : List (Option Record)} {m : Nat} {r : Record} (here : l[m]? = some (some r)) :
    weigh m l + 2 = weigh (m + 1) l := by
  obtain ⟨short, at_m⟩ := List.getElem?_eq_some_iff.mp here
  unfold weigh
  rw [List.take_succ_eq_append_getElem short, List.drop_eq_getElem_cons short, at_m, List.countP_append, List.countP_cons]
  simp only [List.countP_cons, List.countP_nil, Option.isSome_some, if_true]
  omega

/-- A break for the record at the stacker keeps the invariant, and is paid by that record (R153). -/
theorem settling_decideBreak {excused : Nat → SlotNo → Prop} {c : Cell} {r : Record} (hs : Settling 1 excused s)
    (cell : s.track.cells[stackerPosition s]? = some c) (record : c.record = some r) :
    Settling 0 excused (decideBreak r s).2 := by
  have moves := moves_decideBreak (staged := True) r s trivial
  have backlog : BacklogCause (decideBreak r s).2 := keeps_of_moves (fun _ _ => Move.backlog) moves hs.backlog
  have more := outstanding_decideBreak r s
  have foot := builds_decideBreak r s
  unfold Builds at foot
  generalize (decideBreak r s).2 = t at *
  refine hs.of_same (sameLayout_of_stations (by rw [foot])) (by rw [foot]) (by rw [foot]) (by rw [foot]) (by rw [foot])
    (fun working => .inl (working_of_still (by rw [foot]) (.inl (by rw [foot])) working)) backlog ?_
  have paid := weigh_at ((cellRecords_get cell).trans (congrArg some record))
  have before := hs.reports
  rw [Nat.add_zero]
  omega

/-! ### Positions with their commands derived -/

/-- The commands of the positions from one on are still to be derived. -/
def From (k : Nat) : Nat → SlotNo → Prop := fun p _ => k ≤ p

/-- The reports owed at the stacker while its command is still to be derived. -/
def owedFrom (k : Nat) (s : State) : Nat := if k ≤ stackerPosition s then 1 else 0

/-- The invariant while the commands from position k on are still to be derived; a jog has no offer. -/
def DerivedTo (jog : Bool) (k : Nat) (s : State) : Prop :=
  Settling (owedFrom k s) (From k) s ∧ (jog = true → NoOffer s)

/-- The reports of a record at the stacker are owed no less before its command. -/
theorem weigh_mono {l : List (Option Record)} {a b : Nat} (less : a ≤ b) : weigh a l ≤ weigh b l := by
  have parted := congrArg (List.countP Option.isSome) (List.take_append_drop a l)
  have parted' := congrArg (List.countP Option.isSome) (List.take_append_drop b l)
  have fewer : (l.take a).countP Option.isSome ≤ (l.take b).countP Option.isSome :=
    (List.take_sublist_take_left less).countP_le
  rw [List.countP_append] at parted parted'
  unfold weigh
  omega

theorem Settling.owing {excused : Nat → SlotNo → Prop} {a b : Nat} (hs : Settling b excused s) (less : a ≤ b) :
    Settling a excused s :=
  { hs with reports := (Nat.add_le_add_left (weigh_mono (Nat.add_le_add_left less _)) _).trans hs.reports }

theorem NoOffer.softens (h : NoOffer s) (softens : Softens s t) : NoOffer t := by
  obtain ⟨same, each⟩ := List.forall₂_iff_get.mp softens
  intro d member offered
  obtain ⟨i, short, rfl⟩ := List.getElem_of_mem member
  rcases each i (same ▸ short) short with stays | ⟨-, condemned⟩
  · exact h _ (List.getElem_mem (same ▸ short)) (stays.symm.trans offered)
  · exact absurd (condemned.symm.trans offered) (by simp)

theorem Foot.sameLayout (h : Foot s t) : SameLayout s t := by
  intro m
  have same := h.stations m
  unfold layoutAt
  cases before : stationAt s m <;> cases after : stationAt t m <;> simp_all [Station.configured]

/-- The stations' commands at a position leave no command due there but those that are open. -/
def Opened (k : Nat) (t : State) : Prop :=
  ∀ m d, t.track.cells[k]? = some d → Due t k m → { slot := m, closing := k } ∈ d.exchanges

theorem Settling.narrowed {owed k : Nat} (hs : Settling owed (From k) t) (opened : Opened k t) :
    Settling owed (From (k + 1)) t := by
  refine { hs with awaited := fun q m d there due => ?_ }
  rcases hs.awaited q m d there due with later | done
  · by_cases here : q = k
    · subst here
      exact .inr (opened m d there due)
    · exact .inl (Nat.lt_of_le_of_ne later (Ne.symm here))
  · exact .inr done

/-! ### The station of a position -/

theorem slotAtPosition_some {k : Nat} (h : slotAtPosition s k = some n) : positionOf s n = some k := by
  have := List.find?_some h
  simpa using this

theorem Due.position (due : Due s p n) : positionOf s n = some p := by
  obtain ⟨c, -, due⟩ := due
  rcases due with ⟨-, stands⟩ | ⟨-, stands⟩ | ⟨-, stands⟩ <;> exact stands.2

/-- What a due command says of the cell and of the slot's role. -/
theorem Due.cell {c : Cell} {st : Station} (due : Due s p n) (cell : s.track.cells[p]? = some c) (entry : stationAt s n = some st) :
    (c.content = .offered ∧ st.role = .mainFeeder) ∨ (AwaitsGate c ∧ st.role = .gate)
      ∨ (AwaitsStacker c ∧ st.role = .stacker ∧ Stands s .stacker n p) := by
  obtain ⟨d, there, due⟩ := due
  obtain rfl : c = d := Option.some.inj (cell.symm.trans there)
  rcases due with ⟨offered, stands⟩ | ⟨awaits, stands⟩ | ⟨awaits, stands⟩
  · exact .inl ⟨offered, stands.role_eq entry⟩
  · exact .inr (.inl ⟨awaits, stands.role_eq entry⟩)
  · exact .inr (.inr ⟨awaits, stands.role_eq entry, stands⟩)

/-- The cell with one exchange more. -/
def Cell.opening (e : Exchange) (c : Cell) : Cell := { c with exchanges := c.exchanges ++ [e] }

theorem mem_opening {c d : Cell} {e : Exchange} (cell : s.track.cells[p]? = some c)
    (cells : t.track.cells = s.track.cells.modify p (Cell.opening e)) (there : t.track.cells[p]? = some d) : e ∈ d.exchanges := by
  rw [cells, List.getElem?_modify_eq, cell] at there
  obtain rfl := Option.some.inj there
  exact List.mem_append_right _ (List.mem_singleton_self _)

theorem openExchange_cells (n : SlotNo) (p closing : Nat) (tag : Tag) (o : CellOrder) (s : State) :
    (openExchange n p closing tag o s).track.cells = s.track.cells.modify p (Cell.opening { slot := n, closing := closing }) := rfl

/-- The station's command is derived where one is due, the stacker's aside (R54 to R57). -/
theorem opened_deriveFor {owed k : Nat} {c : Cell} {st : Station} (hs : Settling owed (From k) s)
    (cell : s.track.cells[k]? = some c) (entry : stationAt s n = some st) (here : positionOf s n = some k)
    (other : st.role ≠ .stacker) : Opened k (deriveFor n st.role k c s) := by
  intro m d there due
  have before : Due s k m :=
    Moves.due (moves_deriveFor (staged := False) n st.role k c s fun stacker => other stacker) hs due
  obtain rfl : n = m := hs.stations.alone here before.position
  rcases before.cell cell entry with ⟨offered, role⟩ | ⟨awaits, role⟩ | ⟨-, role, -⟩
  · rw [role, deriveFor, if_pos offered] at there
    exact mem_opening cell (openExchange_cells _ _ _ _ _ s) there
  · have opens : ∃ o, deriveGate n k c s = openExchange n k k c.tag o s := by
      unfold deriveGate
      rcases awaits with h | h | h | h <;> rw [h] <;> exact ⟨_, rfl⟩
    obtain ⟨o, e⟩ := opens
    rw [role] at there
    change (deriveGate n k c s).track.cells[k]? = some d at there
    rw [e] at there
    exact mem_opening cell (openExchange_cells _ _ _ _ _ s) there
  · exact absurd role other

/-- Where no command is due, none is missing. -/
theorem opened_of_none {k : Nat} (none' : ∀ m, ¬ Due t k m) : Opened k t := fun m _ _ due => absurd due (none' m)

/-! ### The command of a position (R54, R58) -/

theorem From.le {k : Nat} {q : Nat} {m : SlotNo} (h : From k q m) : k ≤ q := h

theorem owedFrom_succ_le (k : Nat) (s : State) : owedFrom (k + 1) s ≤ owedFrom k s := by
  unfold owedFrom
  split
  · rw [if_pos (by omega)]
  · exact Nat.zero_le _

theorem owedFrom_layout {k : Nat} (layout : SameLayout s t) : owedFrom k t = owedFrom k s := by
  unfold owedFrom
  rw [layout.stackerPosition]

/-- The command of a position changes no content but that of a bound cell, and no slot. -/
theorem DerivedTo.next {jog : Bool} {k owed : Nat} (h : DerivedTo jog k s) (foot : Foot s t) (softens : Softens s t)
    (opened : Opened k t) (hs : Settling owed (From k) t) (enough : owedFrom (k + 1) s ≤ owed) : DerivedTo jog (k + 1) t := by
  obtain ⟨-, offers⟩ := h
  rw [← owedFrom_layout foot.sameLayout] at enough
  exact ⟨(hs.narrowed opened).owing enough, fun jogs => (offers jogs).softens softens⟩

/-- Steady moves that leave no due command missing. -/
theorem DerivedTo.of_moves {jog : Bool} {k : Nat} (h : DerivedTo jog k s) (foot : Foot s t) (softens : Softens s t)
    (moves : Moves False s t) (opened : Opened k t) : DerivedTo jog (k + 1) t :=
  h.next foot softens opened (Moves.settling moves h.1) (owedFrom_succ_le k s)

/-- STACK for the record that has reached the stacker, its break decided (R153, R156). -/
theorem derivedTo_deriveStack {jog : Bool} {k : Nat} {c : Cell} {r : Record} (h : DerivedTo jog k s)
    (foot : Foot s (deriveStack n k c r s)) (cell : s.track.cells[k]? = some c) (record : c.record = some r)
    (stands : Stands s .stacker n k) : DerivedTo jog (k + 1) (deriveStack n k c r s) := by
  have last := stands.stackerPosition
  have owed : owedFrom k s = 1 := if_pos last.ge
  have hs := h.1
  rw [owed] at hs
  have same : (decideBreak r s).2.track.cells = s.track.cells := congrArg Track.cells (decideBreak_track r s)
  have cells : (deriveStack n k c r s).track.cells = s.track.cells.modify k (Cell.opening { slot := n, closing := k }) := by
    rw [← same]
    rfl
  have flow : CellsFlow True s (deriveStack n k c r s) :=
    cellsFlow_modify cells fun _ _ => .of_same (fun _ => List.subset_append_left _ _) rfl rfl
  have rest : Moves False (decideBreak r s).2 (deriveStack n k c r s) :=
    (moves_openExchange _ _ _ _ _ _).trans (moves_builder rfl rfl)
  have settled := Moves.settling rest (settling_decideBreak hs (last.symm ▸ cell) record)
  refine h.next foot (softens_deriveStack n k c r s) (fun m d there due => ?_) settled (if_neg (by omega)).le
  have before := hs.due_flow flow foot.sameLayout due
  obtain rfl : n = m := hs.stations.alone stands.2 before.position
  exact mem_opening cell cells there

/-- The stacker's command (R57, R153, R160). -/
theorem derivedTo_deriveStacker {jog : Bool} {k : Nat} {c : Cell} {st : Station} (h : DerivedTo jog k s)
    (cell : s.track.cells[k]? = some c) (entry : stationAt s n = some st) (role : st.role = .stacker)
    (here : positionOf s n = some k) : DerivedTo jog (k + 1) (deriveStacker n k c s) := by
  have hs := h.1
  have foot := foot_deriveStacker n k c s
  have sound : CellSound c := hs.records c (List.mem_of_getElem? cell)
  have awaits {m : SlotNo} (due : Due s k m) : AwaitsStacker c := by
    obtain rfl : n = m := hs.stations.alone here due.position
    rcases due.cell cell entry with ⟨-, other⟩ | ⟨-, other⟩ | ⟨awaits, -⟩
    · exact absurd (role.symm.trans other) (by simp)
    · exact absurd (role.symm.trans other) (by simp)
    · exact awaits
  have idle (other : ¬ AwaitsStacker c) {u : State} (moves : Moves False s u) : Opened k u :=
    opened_of_none fun m due => other (awaits (Moves.due moves hs due))
  unfold deriveStacker at *
  split at foot
  next other => exact (if_pos other).symm ▸ h.of_moves foot (.refl s) .refl (idle (fun awaits => other awaits.1) .refl)
  next passed =>
    rw [if_neg passed]
    split at foot
    next escaped =>
      obtain ⟨-, -, -, recordless, -⟩ := sound
      rw [if_pos escaped]
      have moves : Moves False s (openExchange n k k c.tag .setAside s) := moves_openExchange _ _ _ _ _ s
      exact h.of_moves foot (softens_openExchange _ _ _ _ _ s) moves (idle (fun awaits => awaits.2 (recordless escaped).2) moves)
    next kept =>
      rw [if_neg kept]
      cases record : c.record with
      | none =>
        exact h.of_moves (.refl s) (.refl s) .refl (idle (fun awaits => awaits.2 record) .refl)
      | some r =>
        rw [record] at foot
        obtain ⟨m, last, stands, -⟩ := (hs.placed k c cell).2.2 ⟨not_not.mp passed, by simp [record]⟩
        have slots := stands.1
        obtain rfl : n = m := by
          have member := mem_slotsWith.mpr ⟨st, entry, role⟩
          rw [slots] at member
          exact List.mem_singleton.mp member
        exact derivedTo_deriveStack h foot cell record ⟨slots, here⟩

/-- The command of a position, if one is due, is derived (R54, R58). -/
theorem derivedTo_deriveAt {jog : Bool} {k : Nat} (h : DerivedTo jog k s) : DerivedTo jog (k + 1) (deriveAt jog s k) := by
  have hs := h.1
  have stays (none' : ∀ m, ¬ Due s k m) : DerivedTo jog (k + 1) s := h.of_moves (.refl s) (.refl s) .refl (opened_of_none none')
  unfold deriveAt
  split
  next c n cell slot =>
    have here := slotAtPosition_some slot
    split
    next st entry =>
      split
      next commanded =>
        by_cases stacker : st.role = .stacker
        · rw [stacker]
          exact derivedTo_deriveStacker h cell entry stacker here
        · exact h.of_moves (foot_deriveFor n st.role k c s) (softens_deriveFor n st.role k c s)
            (moves_deriveFor n st.role k c s fun e => absurd e stacker) (opened_deriveFor hs cell entry here stacker)
      next silent =>
        refine stays fun m due => ?_
        obtain rfl : n = m := hs.stations.alone here due.position
        rcases due.cell cell entry with ⟨offered, role⟩ | ⟨-, role⟩ | ⟨-, role, -⟩
        · cases jog with
          | false => simp [Role.commanded] at silent
          | true => exact h.2 rfl c (List.mem_of_getElem? cell) offered
        · simp [role, Role.commanded] at silent
        · simp [role, Role.commanded] at silent
    next unconfigured =>
      refine stays fun m due => ?_
      unfold positionOf at here
      rw [unconfigured] at here
      cases here
  next absent =>
    refine stays fun m due => ?_
    have place := due.position
    obtain ⟨c, cell, -⟩ := due
    cases slot : slotAtPosition s k with
    | some n => exact absent c n cell slot
    | none =>
      have nobody := List.find?_eq_none.mp slot m (List.mem_finRange m)
      exact nobody (by simpa using place)

theorem derivedTo_range {jog : Bool} (m : Nat) (h : DerivedTo jog 0 s) : DerivedTo jog m ((List.range m).foldl (deriveAt jog) s) := by
  induction m with
  | zero => exact h
  | succ m ih =>
    rw [List.range_succ, List.foldl_append]
    exact derivedTo_deriveAt ih

/-- After step 4 of an advance every due command is open, and the reports are owed as before it (R54). -/
theorem settling_deriveCommands {jog : Bool} (hs : Settling 1 AllExcused s) (offers : jog = true → NoOffer s) :
    Settling 0 (fun _ _ => False) (deriveCommands jog s) := by
  have begun : DerivedTo jog 0 s := ⟨(hs.owing (by unfold owedFrom; split <;> omega)).excuse fun _ _ _ => Nat.zero_le _, offers⟩
  have derived := derivedTo_range s.track.cells.length begun
  have length : (deriveCommands jog s).track.cells.length = s.track.cells.length :=
    (List.Forall₂.length_eq (softens_deriveCommands jog s)).symm
  refine (derived.1.owing (Nat.zero_le _)).relieved fun q m later due => ?_
  obtain ⟨c, cell, -⟩ := due
  have short := (List.getElem?_eq_some_iff.mp cell).1
  change q < (deriveCommands jog s).track.cells.length at short
  have := From.le later
  omega

end Sys2Proof.Machine
end

section
/-! The line stays settled (O58): an advance keeps the invariant stage by stage, a result between the exchange's end and
its outcome, and every other command by its moves. -/

namespace Sys2Proof.Machine

variable {s t : State}

/-- No exchange is excused: the invariant at the end of a command. -/
def NoneExcused : Nat → SlotNo → Prop := fun _ _ => False

theorem noOffer_of_cells (h : NoOffer s) (cells : t.track.cells = s.track.cells) : NoOffer t := by
  unfold NoOffer
  rwa [cells]

theorem noOffer_condemnMoved (h : NoOffer s) : NoOffer (condemnMoved s) := by
  intro d member offered
  obtain ⟨c, old, rfl⟩ := List.mem_map.mp member
  obtain ⟨-, -, -, -, -, same | ⟨-, condemned⟩⟩ := cellKept_takeJog c
  · exact h c old (same.symm.trans offered)
  · exact absurd (condemned.symm.trans offered) (by simp)

/-- Binding is asked at a running advance alone (R53). -/
theorem settling_askBinding {jog : Bool} (hs : Settling 1 AllExcused s) (offers : NoOffer s)
    (front : jog = false → ∃ c, s.track.cells[0]? = some c ∧ c.content = .empty ∧ c.record = none) :
    Settling 1 AllExcused (askBinding jog s) ∧ (jog = true → NoOffer (askBinding jog s)) := by
  unfold askBinding
  split
  next asked =>
    obtain ⟨running, state⟩ := Bool.and_eq_true_iff.mp asked
    have running : jog = false := by simpa using running
    exact ⟨settling_decideNewCell hs (beq_iff_eq.mp state) (front running), fun jogs => absurd (running.symm.trans jogs) (by simp)⟩
  next => exact ⟨hs, fun _ => offers⟩

/-- An advance of the track keeps the invariant (R48). -/
theorem settling_trackAdvance (hs : Settling 0 NoneExcused s) : Settling 0 NoneExcused (trackAdvance s) := by
  obtain ⟨closed, off⟩ := settling_closeExchanges hs
  obtain ⟨shifted, offers⟩ := settling_shift closed off
  unfold trackAdvance
  dsimp only
  refine Moves.settling (moves_tallyAdvance _) ?_
  generalize s.line.state.halted = jog
  have moved : Moves False (shift (closeExchanges s))
      (lostListAdvance (if jog = true then condemnMoved (shift (closeExchanges s)) else shift (closeExchanges s))) := by
    refine Relation.ReflTransGen.trans ?_ (moves_lostListAdvance _)
    split
    · exact moves_cells (cellsKept_map cellKept_takeJog _)
    · exact .refl
  obtain ⟨asked, noOffers⟩ := settling_askBinding (jog := jog) (Moves.settling moved shifted)
    (noOffer_of_cells (s := if jog = true then condemnMoved (shift (closeExchanges s)) else shift (closeExchanges s))
      (by
        split
        · exact noOffer_condemnMoved offers
        · exact offers)
      (by rw [lostListAdvance_track]))
    fun running => by
      rw [lostListAdvance_track, running]
      exact ⟨Cell.new (closeExchanges s).track.nextTag, rfl, rfl, rfl⟩
  exact settling_deriveCommands asked noOffers

theorem settling_takePitch (hs : Settling 0 NoneExcused s) (order : AdvanceOrder) : Settling 0 NoneExcused (takePitch order s) := by
  have track {u : State} (hu : Settling 0 NoneExcused u) := settling_trackAdvance hu
  have drained {u : State} (hu : Settling 0 NoneExcused u) (draining : Bool) : Settling 0 NoneExcused (drainTest draining u) :=
    Moves.settling (moves_drainTest draining u) hu
  have phase {u : State} (hu : Settling 0 NoneExcused u) : Settling 0 NoneExcused (phaseThenFault u) :=
    Moves.settling (moves_phaseThenFault u) hu
  cases order with
  | phaseThenTrack => exact drained (track (phase hs)) _
  | phaseFaultAfterTrack =>
    exact drained (Moves.settling (moves_handPhaseFault _ _) (track (Moves.settling (moves_takePulse s) hs))) _
  | trackThenPhase => exact drained (phase (track hs)) _
  | trackThenLine => exact phase (drained (track hs) _)

/-- The entries and replies of the host link leave everything settled. -/
theorem settling_queues (hs : Settling 0 NoneExcused s)
    (h : t = { s with link := { s.link with rx := t.link.rx, overflow := t.link.overflow, replies := t.link.replies } }) :
    Settling 0 NoneExcused t :=
  hs.of_stays (stays_of_same (by rw [h]) (by rw [h]) (by rw [h]) (by rw [h]) (by rw [h]) (by rw [h]) (by rw [h]) (.inl (by rw [h])))
    (hs.backlog.of_same (by rw [h]) (by rw [h]))

theorem Act.settled (h : Act s t) (hs : Settled s) : Settled t := by
  rw [settled_iff] at *
  cases h with
  | moves h => exact Moves.settling h hs
  | advance order => exact settling_takePitch hs order
  | result n tag o told => exact settling_takeResult hs told
  | queues _ h => exact settling_queues hs h
  | partReset h =>
    refine partReset_of_reset (inv := Settling 0 fun _ _ => False) h (fun _ _ _ _ => ?_) fun u hu => (Move.fault .estop).settling hu
    rw [← settled_iff]
    exact settled_reset

/-- Every record of a queue is fresh or a remake. -/
theorem length_fresh_remakes (q : List Record) : q.length = q.countP Record.isFresh + remakesOf q := by
  induction q with
  | nil => rfl
  | cons r q ih =>
    unfold remakesOf at *
    rw [List.length_cons, List.countP_cons, List.countP_cons, ih]
    cases kind : r.kind <;> simp [Record.isFresh, kind] <;> omega

/-- The bounds that a settled line has (R28, R29, R76, R197). -/
theorem bounds_of_settled (hs : Settled s) : s.intake.queue.length ≤ 320 ∧ s.link.reports.length ≤ 320
    ∧ ∀ (p q : Nat) (c d : Cell), s.track.cells[p]? = some c → s.track.cells[q]? = some d →
      c.content = .offered → d.content = .offered → p = q := by
  have settling := (settled_iff s).mp hs
  refine ⟨?_, ?_, fun p q c d here there offered offered' => ?_⟩
  · have fresh := settling.fresh
    have bounded := settling.bounded
    rw [freshCount_eq] at fresh
    rw [remakeCount_eq] at bounded
    rw [length_fresh_remakes]
    omega
  · have reports := settling.reports
    unfold outstanding at reports
    omega
  · exact (settling.front p c here offered).trans (settling.front q d there offered').symm

/-- Settles O58: every act keeps the line settled, and the bounds follow. -/
theorem lineStaysSettled : Obligations.LineStaysSettled :=
  ⟨kept_of_acts (fun _ _ h => h) fun _ _ => Act.settled, fun _ => bounds_of_settled⟩

end Sys2Proof.Machine
end
